-- ==== Sys2Proof/Word.lean ====
section
/-! DEFINITION. The words of the model: bytes, lines and masks as bit vectors, finite maps kept as sorted lists, and
the types that describe a register field (access codes of R13, reset columns of R14). -/
namespace Sys2Proof

/-- A byte. -/
abbrev Byte := BitVec 8
/-- A line, 64 bytes, byte 0 in the low bits (R9, glossary of 00_scope.md). -/
abbrev Line := BitVec 512
/-- A byte-valid mask of a line, bit i for byte i (R101). -/
abbrev Mask := BitVec 64
/-- A head number, 0 to 15 (R5). -/
abbrev Head := Fin 16

/-- A finite map from natural numbers, in one canonical form: keys strictly rising. -/
abbrev Map (α : Type) := List (Nat × α)

/-- The value at a key, if listed. -/
def Map.find {α : Type} : Map α → Nat → Option α
  | [], _ => none
  | (a, v) :: m, k => if a = k then some v else Map.find m k

/-- The map with one key set. -/
def Map.put {α : Type} : Map α → Nat → α → Map α
  | [], k, v => [(k, v)]
  | (a, w) :: m, k, v =>
    if k < a then (k, v) :: (a, w) :: m else if k = a then (k, v) :: m else (a, w) :: Map.put m k v

/-- The map with one key removed. -/
def Map.del {α : Type} : Map α → Nat → Map α
  | [], _ => []
  | (a, w) :: m, k => if a = k then Map.del m k else (a, w) :: Map.del m k

/-- The value at a key, or a default. -/
def Map.get {α : Type} (m : Map α) (k : Nat) (d : α) : α := (m.find k).getD d

/-- The map with one key set to a value, or removed when there is none. -/
def Map.upd {α : Type} (m : Map α) (k : Nat) : Option α → Map α
  | some v => m.put k v
  | none => m.del k

/-- Keys strictly rising: the canonical form. -/
abbrev Map.wf {α : Type} (m : Map α) : Prop := m.Pairwise (fun x y => x.1 < y.1)

namespace Machine

/-- The access codes of R13. -/
inductive Acc where
  | ro | rw | w1c | w1s | rc | wo | img | pst
  deriving DecidableEq, Repr

/-- Where a field's reset value comes from (R14): a constant, manufacture, or the live image. -/
inductive Rst where
  | const | fuse | image
  deriving DecidableEq, Repr

/-- A field of a register: its number in the model, its low bit, its width, its access code and its reset column. -/
structure Fld where
  id : Nat
  lo : Nat
  w : Nat
  acc : Acc
  src : Rst
  rst : Nat
  deriving DecidableEq, Repr

/-- A register of the window: name, offset, width in bits, whether it is banked per head, the stride and count of each
index, and its fields. -/
structure RegDef where
  name : String
  base : Nat
  width : Nat
  banked : Bool
  dims : List (Nat × Nat)
  fields : List Fld
  deriving DecidableEq, Repr

end Machine
end Sys2Proof
end

