-- ==== Sys2Proof/Syntax.lean ====
section
/-! DEFINITION. The commands. -/
namespace Sys2Proof
/-- The Meta0-State values a request carries: Any, Shared, Invalid (R80). -/
inductive Meta where
  | any | shared | invalid
  deriving DecidableEq, Repr

/-- Where a mailbox command comes from: the mailbox of a head, or the management plane (R471). -/
inductive Route where
  | head (h : Head) | mgmt
  deriving DecidableEq, Repr

/-- A physical upset of a memory cell that a later read of it will find (R95, R111). -/
inductive Upset where
  | filter (slice set : Nat) (uncorrectable : Bool)
  | fcData (slot : Nat)
  | fcPoison (slot : Nat)
  | fcTag (slot : Nat) (alsoDirtyArray : Bool)
  | fcDirtyArray (slot : Nat)
  deriving DecidableEq, Repr

/-- What the engines do with one sheet: the sealing and the compression engine that take it, whether either errs on it
(R125, R126, R162, R163), and the bytes and tag that reach the engine when they are not the stored ones. -/
structure EngEnv where
  sealEng : Nat
  sealBad : Bool
  cmpEng : Nat
  cmpBad : Bool
  altered : Option (List Byte × Nat)
  deriving DecidableEq, Repr

/-- How the fetch of a page-entry line ends (R69): verified; a MAC that does not match, found by an engine; or uncorrectable in
a stack, or a channel where the table lies in DRAM. -/
inductive EntryRes where
  | verified
  | mismatch (eng : Nat)
  | lost (unit : Nat)
  deriving DecidableEq, Repr

/-- A sampled sector of the re-plan (R257 step 4): its stack, logical die and segment, the centre and the width of its window
in reference steps, and the TIME of its stripe's label in hours (R221). -/
structure Sample where
  stack : Nat
  die : Nat
  seg : Nat
  centre : Int
  width : Nat
  time : Nat
  deriving DecidableEq, Repr

/-- What a re-plan measures (R257 to R261, R350): the highest grade that fuses and ageing monitors allow, the grades at which
every lane and link trains, the channels and links that fail at the lowest grade, the samples, whether the bank reaches 70 V, and
its drop in units of 10 mV. -/
structure PlanEnv where
  top : Nat
  passes : List Nat
  badChannels : List Nat
  badLinks : List Nat
  samples : List Sample
  full : Bool
  drop : Nat
  deriving DecidableEq, Repr

/-- What a Cold Start meets (R376): whether the lockstep check passes; whether the shadow of an interrupted page write carries its
commit marker (R449); the rows whose post-package repair fails verification (R211); the units that fail their self-test, kind and
index (R377); how many journal records verify, where the chain breaks (R70); the measurements of the re-plan; the time taken, in
ms. -/
structure ColdEnv where
  lockstep : Bool
  marked : Bool
  badRepairs : List Nat
  badUnits : List (Nat × Nat)
  verified : Option Nat
  plan : PlanEnv
  ms : Nat
  deriving DecidableEq, Repr

/-- Who accesses a register of the device window (R13, R394). -/
inductive Requester where
  | head (h : Head) | clerk
  deriving DecidableEq, Repr

/-- An access to the windows of a head's BARs, 64 bits wide or 32: a read, or a write of a value (R484). BAR0: the standard blocks,
the MSI-X table and the register window; BAR2: the doorbells; BAR4: the user counter pages. Further, a configuration write of the MSI-X
function mask (R332), and a Clerk access outside its firewall (R394). -/
inductive Access where
  | reg (who : Requester) (off : Nat) (wide : Bool) (value : Option Nat)
  | bell (h : Head) (off : Nat) (wide : Bool) (value : Option Nat)
  | user (h : Head) (off : Nat) (wide : Bool) (value : Option Nat)
  | fnMask (h : Head) (masked : Bool)
  | outside (value : Option Nat)
  deriving DecidableEq, Repr

/-- A JTAG instruction (R482): SAMPLE captures the pins, PRELOAD loads boundary cells; a debug instruction reads a sheet as master
0x31 (R158). -/
inductive Jtag where
  | bypass | idcode | sample | extest | clamp | highz
  | preload (cells : Nat)
  | debug (page n : Nat) (v : EngEnv)
  deriving DecidableEq, Repr

/-- The commands and events of the block, one constructor for each row of the opcode table, in its order. -/
inductive Instr where
  /-- REGISTER_WRITE (R13). A host or Clerk write to a device register that has no row of its own acts on each field under its access code. -/
  | registerWrite (a : Access)
  /-- MISALIGNED_ACCESS (R12). A register access of the wrong width or alignment reads as zero, has no effect and raises a management-plane fault record. -/
  | misalignedAccess (who : Requester) (read : Bool)
  /-- MEM_RD (R80). A MemRd from a head is ordered at the home slice, snoops are sent as needed, and the line is returned with the granted state. -/
  | memRd (h : Head) (haddr : Nat) (mv : Meta) (ups : List Upset)
  /-- MEM_RD_DATA (R80). A MemRdData is granted Exclusive from Invalid, and is otherwise handled as MemRd with MetaValue S. -/
  | memRdData (h : Head) (haddr : Nat) (ups : List Upset)
  /-- MEM_INV (R80). A MemInv back-invalidates the other holders and completes with the state its MetaValue asks for. -/
  | memInv (h : Head) (haddr : Nat) (mv : Meta) (ups : List Upset)
  /-- MEM_INV_NT (R80). A MemInvNT is handled as MemInv, snooping the holders and completing with the requested state. -/
  | memInvNt (h : Head) (haddr : Nat) (mv : Meta) (ups : List Upset)
  /-- MEM_CLN_EVCT (R80). A MemClnEvct removes the head from the line's holders, or satisfies an outstanding snoop, and completes with Cmp. -/
  | memClnEvct (h : Head) (haddr : Nat) (ups : List Upset)
  /-- MEM_WR (R80). A full-line MemWr places its data in the front cache, satisfies or sends snoops, and completes with Cmp. -/
  | memWr (h : Head) (haddr : Nat) (mv : Meta) (data : Line) (poison : Bool) (ups : List Upset)
  /-- MEM_WR_PTL (R80). A partial-line MemWrPtl places its bytes under the byte-valid mask, satisfies or sends snoops, and completes with Cmp. -/
  | memWrPtl (h : Head) (haddr : Nat) (mv : Meta) (data : Line) (mask : Mask) (poison : Bool) (ups : List Upset)
  /-- MEM_SPEC_RD (R80). A MemSpecRd starts the metadata-cache lookup of the page entry and gets no response. -/
  | memSpecRd (h : Head) (haddr : Nat)
  /-- BICONFLICT (R84). A BIConflict is answered with BIConflictAck, ordered against the head's own request for the line. -/
  | biconflict (h : Head) (haddr : Nat)
  /-- BIRSP_I (R82). A BIRspI satisfies a snoop and removes the head as a holder, or is discarded when the snoop was already satisfied. -/
  | birspI (h : Head) (haddr : Nat) (blk : Bool)
  /-- BIRSP_S (R82). A BIRspS satisfies a snoop and leaves the head a Shared holder. -/
  | birspS (h : Head) (haddr : Nat) (blk : Bool)
  /-- BIRSP_E (R82). A BIRspE satisfies a BISnpCur and leaves the head the Exclusive holder. -/
  | birspE (h : Head) (haddr : Nat) (blk : Bool)
  /-- UNSUPPORTED_M2S_MESSAGE (R329). An M2S message with an unsupported opcode or reserved values is answered with poison or Cmp and raises a protocol error. -/
  | unsupportedM2sMessage (h : Head) (haddr : Nat) (read : Bool)
  /-- QUEUED_REQUEST_RESUME (R75). A request waiting in a line's per-line queue is taken up once the earlier work on the line ends. -/
  | queuedRequestResume (line : Nat)
  /-- FILTER_ALLOC_RETRY (R79). A request that waited for an eligible way or a free eviction tracker is retried once one clears. -/
  | filterAllocRetry (line : Nat)
  /-- HOLD_TIME_END (R87). The hold time of an Exclusive grant ends, and a waiting snoop of the holder may be sent. -/
  | holdTimeEnd (line : Nat)
  /-- BISNP_TIMEOUT (R91). An unsatisfied snoop expires; the line is poisoned, the waiting request completes and the silent head's count rises. -/
  | bisnpTimeout (h : Head) (line : Nat)
  /-- SLICE_REBUILD_DONE (R94). Once the drain and back-invalidation end, held requests are released to the spare and REBUILD clears. -/
  | sliceRebuildDone
  /-- FC_ALLOC_WAIT_END (R102). An allocation that waited for an eligible way or a free buffer entry proceeds. -/
  | fcAllocWaitEnd (line : Nat)
  /-- PERSIST_DIRTY_WAIT_END (R104). A write held at PDMAX persistent dirty lines proceeds once the count falls. -/
  | persistDirtyWaitEnd (line : Nat)
  /-- FCA_FLUSH (R113). A flush maintenance operation writes back the dirty lines of the head's range and keeps them clean. -/
  | fcaFlush (h : Head) (lines : Nat) (ups : List Upset)
  /-- FCA_INVALIDATE (R113). An invalidate operation writes back dirty lines of the range and removes every line, releasing locks. -/
  | fcaInvalidate (h : Head) (lines : Nat) (ups : List Upset)
  /-- FCA_LOCK_PRELOAD (R113). A lock-preload operation fetches absent lines of the range and locks them within LOCKW and quota. -/
  | fcaLockPreload (h : Head) (lines : Nat) (ups : List Upset)
  /-- FCA_PIN (R113). A pin operation locks the present lines of the range without fetching. -/
  | fcaPin (h : Head) (lines : Nat) (ups : List Upset)
  /-- FCA_UNLOCK (R113). An unlock operation clears the locks of the range and returns their quota. -/
  | fcaUnlock (h : Head) (lines : Nat) (ups : List Upset)
  /-- FCA_MOP_END (R116). A maintenance operation ends once its fetches and write-backs complete; BUSY clears and the event is raised. -/
  | fcaMopEnd (h : Head)
  /-- FRONT_CACHE_OPERATION (R473). The vendor command runs the maintenance operation of a named head for the management plane. -/
  | frontCacheOperation (rt : Route) (h : Head) (op : Nat) (haddr : Nat) (lines : Nat)
  /-- SHEET_FILL_COMPLETE (R24). A sheet fetched from a tier is verified, decrypted and decompressed, and its four lines fill the front cache. -/
  | sheetFillComplete (sheet : Nat) (v : EngEnv)
  /-- ENTRY_LINE_FETCH_COMPLETE (R69). A page-entry line fetched from media is verified from its nearest verified ancestor before use. -/
  | entryLineFetchComplete (line : Nat) (res : EntryRes)
  /-- HALT_RECORD_RETRY (R165). A Halt record write refused busy is retried after 1 ms. -/
  | haltRecordRetry
  /-- PAGE_LOCK_GRANT (R34). A sheet write-back, migration, repack or page operation that waited takes the page lock and begins its work. -/
  | pageLockGrant (page : Nat) (chk : Nat) (opn : EngEnv) (store : EngEnv)
  /-- WRITE_BACK_COMMIT (R31). A sheet write-back, in-place rewrite or repack commits the page entry in one update and releases the page lock. -/
  | writeBackCommit (page : Nat)
  /-- PROVISION_KEY_DOMAIN (R147). The owning head loads an Unkeyed domain's keys from a domain secret, wrapping it for a persistent domain. -/
  | provisionKeyDomain (rt : Route) (dom : Nat) (secret : List Byte)
  /-- ERASE_KEY_DOMAIN (R148). The owning head starts the erase of a domain, which becomes Erasing. -/
  | eraseKeyDomain (rt : Route) (dom : Nat)
  /-- ERASE_DOMAIN_DRAINED (R148). Once work in progress drains, the domain's lines are discarded, entries cleared and the key slot zeroised. -/
  | eraseDomainDrained (dom : Nat)
  /-- SET_MASTER_RIGHTS (R159). The owning head changes an internal master's rights in a key domain. -/
  | setMasterRights (rt : Route) (dom : Nat) (master : Nat) (value : Nat)
  /-- AUDIT_SNAPSHOT (R175). A snapshot audit reads every parcel counter in one cycle and checks the conservation sums. -/
  | auditSnapshot (rt : Option Route)
  /-- AUDIT_WALK (R175). A walk audit starts reading every written page entry to check and correct the sums. -/
  | auditWalk (rt : Option Route)
  /-- AUDIT_WALK_COMPLETE (R175). A walk audit ends, recovering orphaned parcels, correcting counts and reporting its result. -/
  | auditWalkComplete
  /-- RELEASE_REQUEST_PERIOD (R183). Each RELP period under Low pressure or worse, Dynamic Capacity release requests are sent to chosen heads. -/
  | releaseRequestPeriod
  /-- HEAT_EPOCH (R187). Every EPOCH ms every heat count is halved. -/
  | heatEpoch
  /-- DEMOTION_SWEEP (R188). While DRAM free is below START, the tier engine sweeps the DRAM tier for demotion candidates. -/
  | demotionSweep
  /-- MIGRATION_START (R190). A chosen page's migration takes the page lock, allocates target parcels and copies the sealed image. -/
  | migrationStart (page : Nat) (chk : Nat) (v : EngEnv)
  /-- MIGRATION_COMMIT (R190). A migration whose copy is done commits PARCEL, RUN and TIER in one update and releases the lock. -/
  | migrationCommit (page : Nat)
  /-- INITIATE_DC_ADD (R50). The fabric manager offers extents of an elastic region to heads. -/
  | initiateDcAdd (rt : Route) (heads : BitVec 16) (tag : Nat) (exts : List Nat)
  /-- ADD_DC_RESPONSE (R50). A head accepts offered extents, which become live with a charge head. -/
  | addDcResponse (rt : Route) (exts : List Nat)
  /-- RELEASE_DC_RESPONSE (R53). A head releases an extent; its requests leave the view and its lines are back-invalidated. -/
  | releaseDcResponse (rt : Route) (exts : List Nat)
  /-- EXTENT_RELEASE_SNOOPED (R53). Once the releasing head's lines are back-invalidated, the release completes or proceeds to clear the extent. -/
  | extentReleaseSnooped (h : Head) (ext : Nat)
  /-- EXTENT_RELEASE_CLEARED (R53). Once work touching the extent ends, its lines are discarded, entries cleared and the extent returned. -/
  | extentReleaseCleared (ext : Nat)
  /-- INITIATE_DC_RELEASE (R469). The fabric manager asks heads to release extents. -/
  | initiateDcRelease (rt : Route) (heads : BitVec 16) (exts : List Nat)
  /-- GET_DC_REGION_CONFIG (R469). The fabric manager reads the Dynamic Capacity region configuration. -/
  | getDcRegionConfig (rt : Route) (h : Head)
  /-- GET_DC_REGION_EXTENT_LISTS (R469). The fabric manager reads the extent lists of the Dynamic Capacity regions. -/
  | getDcRegionExtentLists (rt : Route) (h : Head)
  /-- JOURNAL_CHECKPOINT (R70). At least every 60 s the metadata journal checkpoints and a root record is written. -/
  | journalCheckpoint
  /-- DRAM_READ (R198). A 64-byte read enters a channel's read queue, or is held at its source when full. -/
  | dramRead (src : Nat) (addr : Nat) (h : Head) (code : Nat)
  /-- DRAM_WRITE (R198). A 64-byte write enters a channel's write queue and completes to its source. -/
  | dramWrite (src : Nat) (addr : Nat) (h : Head) (code : Nat) (data : Line)
  /-- DRAM_ACCESS_ISSUE (R200). The controller issues the chosen read or write, updating the row tally on activation. -/
  | dramAccessIssue (unit : Nat) (parity : Bool)
  /-- DRAM_ACCESS_COMPLETE (R207). A DRAM access returns its data through the Reed–Solomon decoder. -/
  | dramAccessComplete (id : Nat) (res : Nat)
  /-- DRAM_REFRESH_DUE (R202). A same-bank refresh falls due at tREFI, postponed behind a queued Express read within limits. -/
  | dramRefreshDue (bank : Nat)
  /-- TALLY_WINDOW_CLEAR (R204). Every 32 ms refresh window the tally tables of a rank are cleared. -/
  | tallyWindowClear (rank : Nat)
  /-- RETRAINING_PAUSE_START (R205). A subchannel's scheduled retraining pause begins and its accesses wait. -/
  | retrainingPauseStart (unit : Nat)
  /-- RETRAINING_PAUSE_END (R206). A retraining pause ends, applying new settings or recording a margin or failure. -/
  | retrainingPauseEnd (unit : Nat) (margin : Option Nat)
  /-- DRAM_PHY_LOCK_LOSS (R212). A DRAM channel loses PHY lock, which is a Fatal fault of the channel. -/
  | dramPhyLockLoss (c : Nat)
  /-- STRIPE_PAD_TIMEOUT (R226). PADTO after its first slot, an R- or V-stream stripe is padded and programmed. -/
  | stripePadTimeout (k : Nat) (stream : Nat)
  /-- SEGMENT_AGE_CLOSE (R226). An open segment whose age reaches half REFRESH is closed and padded. -/
  | segmentAgeClose (k : Nat) (stream : Nat)
  /-- STAGING_WAIT_END (R232). A persistent write-back that waited for room in its stack's staging share proceeds. -/
  | stagingWaitEnd (page : Nat)
  /-- STRIPE_PROGRAMME_COMPLETE (R229). A stripe is verified on all 33 sectors; staging slots, journal records and waiting commits follow. -/
  | stripeProgrammeComplete (k : Nat) (g : Nat) (stripe : Nat) (bad : Option Nat)
  /-- RECLAIM_VICTIM_CHOICE (R234). A stack chooses an age, stale, urgent or rebuild victim segment and starts relocating its runs. -/
  | reclaimVictimChoice (k : Nat)
  /-- RECLAIM_SCAN_DONE (R235). The sector scan of a reclaim ends, walking entries for remaining owned parcels if any. -/
  | reclaimScanDone (k : Nat) (g : Nat)
  /-- RECLAIM_SEGMENT_RELEASE (R235). A reclaimed segment with OWNED 0 returns to Empty or Retired after a forced journal commit. -/
  | reclaimSegmentRelease (k : Nat) (g : Nat)
  /-- MEDIA_CLOCK_HOUR (R234). The media clock advances one hour and segments reaching REFRESH age become age victims. -/
  | mediaClockHour
  /-- MEDIA_SECTOR_READ (R244). A media sector read is issued at the age-bucket reference and its hub read timer starts. -/
  | mediaSectorRead (parcel : Nat)
  /-- SECTOR_DATA_ARRIVAL (R244). Sector data arrives and is decoded, finishing the read or moving to the next ladder step. -/
  | sectorDataArrival (parcel : Nat) (nb : Option Nat)
  /-- HUB_READ_TIMEOUT (R245). A sector read's 1.2 µs timer expires, the step counts as uncorrectable and the die's bucket rises. -/
  | hubReadTimeout (parcel : Nat)
  /-- HUB_DIE_FAULT_REPORT (R250). The hub reports a die unresponsive or faulty, and the die is failed. -/
  | hubDieFaultReport (k : Nat) (d : Nat)
  /-- FLUME_BRINGUP_STEP_DONE (R272). A Flume bring-up step's condition is met and the next step starts, ending Active. -/
  | flumeBringupStepDone (k : Nat) (absent : List Nat) (eyes : List Nat) (taps : List Nat)
  /-- FLUME_BRINGUP_TIMEOUT (R272). A bring-up step misses its bound, failing the attempt or, after three, the link. -/
  | flumeBringupTimeout (k : Nat)
  /-- FLUME_DETECT_RETRY (R272). Receiver detect is repeated every 1 ms until it succeeds. -/
  | flumeDetectRetry (k : Nat)
  /-- FLUME_FRAME_RECEIVED (R268). A frame is received and checked; its tail's ACK, NAK, credits and swap fields take effect. -/
  | flumeFrameReceived (k : Nat) (d : Nat) (typ : Nat) (lane : Nat) (seq : Nat) (ack : Nat) (nak : Bool) (ccls : Nat) (ccnt : Nat) (cmds : Nat) (dats : Nat) (good : Bool)
  /-- FLUME_REPLAY_TIMEOUT (R268). A frame with no ACK within 2 µs is replayed. -/
  | flumeReplayTimeout (k : Nat) (d : Nat)
  /-- ALIGNMENT_MARKER (R266). An alignment marker deskews the lanes and its BIP-8 charges errors to its lane. -/
  | alignmentMarker (k : Nat) (d : Nat) (errs : List Nat)
  /-- LANE_LOCK_LOSS (R274). A lane loses block lock, leading to a swap or a retrain. -/
  | laneLockLoss (k : Nat) (d : Nat) (lanes : List Nat)
  /-- FLUME_RETRAIN_TIMEOUT (R277). A retrain that misses its bound fails the link and fences its stack. -/
  | flumeRetrainTimeout (k : Nat)
  /-- FLUME_TEST_ENTER (R278). Setting FLM_PG_k.EN in Factory Test starts a pattern generator and checker session. -/
  | flumeTestEnter (k : Nat) (dir : Nat) (pat : Nat) (lanes : Nat)
  /-- FLUME_TEST_EXIT (R278). Clearing FLM_PG_k.EN ends the test session with a retrain. -/
  | flumeTestExit (k : Nat) (res : List Nat)
  /-- FLUME_COUNTER_CLEAR (R278). Writing FLM_PG_k.CLR clears the link's checker counters. -/
  | flumeCounterClear (k : Nat)
  /-- FLUME_ERROR_INJECT (R279). Writing FLM_INJ_k.GO in Factory Test inverts one bit or a burst on a lane. -/
  | flumeErrorInject (k : Nat) (lane : Nat) (mode : Nat) (blen : Nat)
  /-- RING_OPEN (R288). A ring open checks partition, state, quota and context and makes the ring Running. -/
  | ringOpen (h : Head) (ctx : Nat)
  /-- RING_CLOSE (R288). A ring close stops fetching and waits for any descriptor in progress. -/
  | ringClose (h : Head)
  /-- DOORBELL_TAIL_WRITE (R290). A TAIL write to a ring's doorbell is accepted, ignored or puts the ring in Error. -/
  | doorbellTailWrite (h : Head) (ring : Nat) (value : Nat)
  /-- DESCRIPTOR_FETCH (R285). A Courier engine fetches a ring's next descriptor and checks it. -/
  | descriptorFetch (ring : Nat)
  /-- NOP (R295). A NOP descriptor completes at once. -/
  | nop (ring : Nat)
  /-- COPY (R295). A COPY descriptor copies LEN bytes within one key domain. -/
  | copy (ring : Nat)
  /-- FILL (R295). A FILL descriptor fills a range with the OPND pattern. -/
  | fill (ring : Nat)
  /-- ZERO (R296). A ZERO descriptor makes each page's entry Written with RUN 0 and every code 0. -/
  | zero (ring : Nat)
  /-- COMPARE (R295). A COMPARE descriptor compares two ranges and reports the first difference. -/
  | compare (ring : Nat)
  /-- CRC32C (R297). A CRC32C descriptor computes the Castagnoli CRC of a range from its seed. -/
  | crc32c (ring : Nat)
  /-- XCOPY (R295). An XCOPY descriptor copies bytes across two key domains owned by the head. -/
  | xcopy (ring : Nat)
  /-- HINT_PIN (R192). A pin hint sets PINNED and promotes media-resident pages within the TIE_PIN cap. -/
  | hintPin (ring : Nat)
  /-- HINT_UNPIN (R192). An unpin hint clears PINNED set by a hint. -/
  | hintUnpin (ring : Nat)
  /-- HINT_PROMOTE (R192). A promote hint queues pages for promotion, bypassing PROMO. -/
  | hintPromote (ring : Nat)
  /-- HINT_DEMOTE (R192). A demote hint migrates unpinned pages to media at once. -/
  | hintDemote (ring : Nat)
  /-- RELEASE (R296). A RELEASE descriptor moves each Written page entry to Cleared. -/
  | release (ring : Nat)
  /-- SCRUB (R256). A scrub-range descriptor reads and tag-checks every stored sheet of the range and counts the outcomes. -/
  | scrub (ring : Nat) (chk : Nat) (v : EngEnv) (corrected : List Nat) (lost : List Nat) (late : List Nat)
  /-- DESCRIPTOR_COMPLETE (R293). Once a descriptor's writes are visible, its completion record is written and HEAD advances. -/
  | descriptorComplete (ring : Nat)
  /-- DESCRIPTOR_TIMEOUT (R301). A descriptor's TMO expires; it issues no more requests and completes with status Timeout. -/
  | descriptorTimeout (ring : Nat)
  /-- COURIER_STATE_ERROR (R284). An internal error fences a Courier engine, aborting its descriptors and reassigning its rings. -/
  | courierStateError (e : Nat)
  /-- TOKEN_REFILL (R311). Every 1 µs each token resource refills the buckets from spent and pool tokens. -/
  | tokenRefill
  /-- OVERDRAFT_AGE (R314). An Overdraft request that waited AGE µs is served at Bulk. -/
  | overdraftAge (resource : Nat) (id : Nat)
  /-- SET_CLASS_BUDGET (R315). The vendor command sets class budgets after the admission checks. -/
  | setClassBudget (rt : Route) (h : Head) (cls : Nat) (budgets : List Nat)
  /-- LINK_UP (R325). A head's link finishes training, up with CXL or as PCI Express only. -/
  | linkUp (h : Head) (cxl : Bool) (rate : Nat) (width : Nat) (loflit : Bool)
  /-- PERST_ASSERT (R338). PERST_N of a head is asserted and a head reset runs. -/
  | perstAssert (q : Head)
  /-- PERST_DEASSERT (R338). PERST_N is de-asserted and the reset head begins link training. -/
  | perstDeassert (q : Head)
  /-- HOT_RESET (R338). A hot reset received on the link starts a head reset. -/
  | hotReset (h : Head)
  /-- DL_ACTIVE_LOST (R338). The head's data link layer leaves DL_Active and a head reset runs. -/
  | dlActiveLost (h : Head)
  /-- IDE_KM_KEY_PROGRAM (R334). IDE_KM within an SPDM session programs or switches a head's IDE keys. -/
  | ideKmKeyProgram (h : Head) (stream : Nat) (key : Nat) (go : Bool)
  /-- IDE_CHECK_FAILURE (R335). A CXL.cachemem IDE check fails; keys are discarded and the head fenced with cause 2. -/
  | ideCheckFailure (h : Head) (written : List Nat) (read : List Nat)
  /-- VIRAL_RECEIVED (R336). Viral from a host fences that head with cause 3. -/
  | viralReceived (h : Head)
  /-- UNCORRECTABLE_LINK_ERROR (R337). An unrecoverable CXL.cachemem link error fences the head with cause 4. -/
  | uncorrectableLinkError (h : Head)
  /-- HOST_TEST_ENTER (R340). Setting HPT_PG_q.EN in Factory Test takes the quad out of training into a test session. -/
  | hostTestEnter (q : Head) (dir : Nat) (pat : Nat) (lanes : Nat)
  /-- HOST_TEST_EXIT (R340). Clearing HPT_PG_q.EN returns the head to Detect. -/
  | hostTestExit (q : Head) (res : List Nat)
  /-- HOST_COUNTER_CLEAR (R340). Writing HPT_PG_q.CLR clears the quad's checker counters. -/
  | hostCounterClear (q : Head)
  /-- HOST_ERROR_INJECT (R340). Writing HPT_INJ_q.GO in Factory Test injects bit errors on a host lane. -/
  | hostErrorInject (q : Head) (lane : Nat) (mode : Nat) (blen : Nat)
  /-- FEED_LOSS_TRIGGER (R345). Both effective feed voltages below 33 V for 20 µs start a power-loss flush. -/
  | feedLossTrigger
  /-- SEAT_LOSS_TRIGGER (R345). A seat pin de-asserted for 1 µs after power-good starts a power-loss flush. -/
  | seatLossTrigger (i : Nat)
  /-- GPF_PHASE1 (R348). A GPF Phase 1 request is answered within 10 µs. -/
  | gpfPhase1 (h : Head)
  /-- GPF_PHASE2 (R348). A GPF Phase 2 request snapshots persistent dirty data and starts a GPF flush. -/
  | gpfPhase2 (heads : BitVec 16)
  /-- BANK_VABORT (R347). The bank falls to VABORT before step 5 and the flush ends incomplete. -/
  | bankVabort (v : Nat)
  /-- TAILRACE_ARMED (R352). The bank reaches 68.0 V and the Tailrace is armed. -/
  | tailraceArmed (v : Nat) (ms : Nat)
  /-- TAILRACE_UNARMED (R352). The bank falls below 66.0 V and persistent dirtying and P-stream allocation are held. -/
  | tailraceUnarmed (v : Nat)
  /-- FEED_CONTACT_MATE (R360). A feed contact mates above 20 V and the standby converter and Headrace controller start. -/
  | feedContactMate (f : Nat) (v : Nat)
  /-- SEAT_ASSERT (R360). Both seat pins assert and the e-fuse controller is enabled. -/
  | seatAssert
  /-- SEAT_DEASSERT (R360). A seat pin de-asserts before power-good and both gates are pulled down without latching. -/
  | seatDeassert (i : Nat)
  /-- SINGLE_SEAT_TIMEOUT (R371). One seat pin asserted for 1 s without the other raises event 12. -/
  | singleSeatTimeout (i : Nat)
  /-- FEED_WINDOW_ENTER (R358). A feed enters its voltage window after the monitor filter. -/
  | feedWindowEnter (f : Nat) (v : Nat)
  /-- FEED_WINDOW_EXIT (R358). A feed leaves its voltage window, possibly starting a changeover or overvoltage hold. -/
  | feedWindowExit (f : Nat) (up : Bool) (v : Nat)
  /-- INSERTION_DELAY_EXPIRY (R360). A feed stays in window for 100 ms, is chosen and its gate ramp begins. -/
  | insertionDelayExpiry (f : Nat)
  /-- RAMP_COMPLETE (R360). The module bus comes within 1.0 V of the chosen feed with the gate fully enhanced. -/
  | rampComplete (vbus : Nat)
  /-- RAMP_CHECK_TIMEOUT (R361). The 5 ms or 50 ms ramp check finds a short during ramp and the Headrace latches off. -/
  | rampCheckTimeout (late : Bool) (vout : Nat) (ipk : Nat)
  /-- POWER_GOOD (R362). Power-good asserts once the ramp is complete and the limit was inactive for 2 ms, starting the converters and Cold Start. -/
  | powerGood (e : ColdEnv)
  /-- CURRENT_LIMIT_ENTER (R363). The feed current reaches the limit, the gate is regulated and the fault timer runs. -/
  | currentLimitEnter (iin : Nat)
  /-- FAULT_TIMER_EXPIRY (R363). The fault timer reaches 2.0 ms and the Headrace trips. -/
  | faultTimerExpiry (vout : Nat) (ipk : Nat)
  /-- FAST_TRIP (R363). Current at the fast-trip level pulls the gate down at once and trips. -/
  | fastTrip (vout : Nat) (ipk : Nat)
  /-- REVERSE_CURRENT (R363). Reverse current opens the pair in use, which leaves use without a trip. -/
  | reverseCurrent
  /-- RETRY_BACKOFF_EXPIRY (R364). With RETRY set, 1 s after latching off the Headrace restarts at insertion delay. -/
  | retryBackoffExpiry
  /-- TRIES_RESET_TIMER (R364). Power-good held for 10 s returns the retry count to zero. -/
  | triesResetTimer
  /-- CHANGEOVER_DEAD_TIME_END (R366). The 20 µs dead time ends and the other pair is switched on if its feed is still in window. -/
  | changeoverDeadTimeEnd
  /-- FEED_A_RETURN_TIMER (R365). FEED_A in window for 1 s while FEED_B is in use starts a return to FEED_A. -/
  | feedAReturnTimer
  /-- STUCK_ON_DETECT (R367). A pair commanded off shows a stuck transistor and its feed is marked stuck-on. -/
  | stuckOnDetect (f : Nat)
  /-- STANDBY_POWER_LOSS (R364). Standby power is lost, clearing latches and stuck-on marks. -/
  | standbyPowerLoss
  /-- BANK_CHARGE_TIMEOUT (R369). The bank not at 68.0 V within 2 s sets the charge fault and raises event 11. -/
  | bankChargeTimeout (v : Nat)
  /-- HEADRACE_REARM (R470). The SMBus rearm command clears a latched-off Headrace and restarts it at step 2. -/
  | headraceRearm
  /-- CONFIGURE_COMPLETE (R379). Configure ends once an image is accepted and the Tailrace armed, entering Service, Degraded Service or Maintenance. -/
  | configureComplete
  /-- ENTER_STOP (R383). An Enter Stop request drains the device and places DRAM in self-refresh. -/
  | enterStop (rt : Route)
  /-- ENTER_MAINTENANCE (R374). An Enter Maintenance request moves the device to mode 5. -/
  | enterMaintenance (rt : Route)
  /-- LEAVE_MAINTENANCE (R380). A Leave Maintenance request returns to Service or Degraded Service when its conditions hold. -/
  | leaveMaintenance (rt : Route)
  /-- RECOVER (R381). A Recover request re-plans without Cold Start, keeping volatile data. -/
  | recover (rt : Route) (e : PlanEnv)
  /-- COLD_RESTART (R374). A Cold Restart request runs a restart flush where needed and then Cold Start. -/
  | coldRestart (rt : Route) (e : ColdEnv)
  /-- LINK_L2_ENTER (R383). A host takes its head's link to L2 during Stop entry. -/
  | linkL2Enter (h : Head)
  /-- L2_WAIT_TIMEOUT (R383). After L2WAIT the device disables links still up and completes Stop entry. -/
  | l2WaitTimeout
  /-- HEAD_WAKE (R386). A PERST_N cycle or electrical-idle exit on a head wakes the module from Stop. -/
  | headWake (h : Head) (perst : Bool)
  /-- MGMT_ADDRESS_MATCH (R386). A management message the standby logic cannot answer wakes the module. -/
  | mgmtAddressMatch
  /-- WAKE_TIMER (R386). MOD_WTIMER.DELAY after Stop entry the timer wakes the module. -/
  | wakeTimer
  /-- FEED_EVENT_WAKE (R386). A Headrace event enabled in FEEDMASK wakes the module. -/
  | feedEventWake (src : Nat)
  /-- THERMAL_WAKE (R386). The module temperature above TWAKE wakes the module. -/
  | thermalWake (temp : Nat)
  /-- WAKE_STEP_DONE (R387). A wake step's condition is met and the next step starts, ending with the mode restored. -/
  | wakeStepDone (bad : List Nat) (ms : Nat)
  /-- WAKE_STEP_TIMEOUT (R388). A wake step timer expires, the attempt fails and the rails go off. -/
  | wakeStepTimeout (c : Nat) (stuck : List Nat)
  /-- WAKE_RETRY (R388). 10 ms after a failed attempt the next wake attempt begins. -/
  | wakeRetry
  /-- REQUEST_FACTORY_TEST (R378). A signed vendor command sets the factory-test flag for the next Cold Start. -/
  | requestFactoryTest (rt : Route) (signed : Bool)
  /-- END_FACTORY_TEST (R378). The vendor command clears the factory-test flag and starts a Cold Start. -/
  | endFactoryTest (rt : Route) (e : ColdEnv)
  /-- INITIALISE_MEDIA (R378). In Factory Test the command clears the extent history table and lane-swap records. -/
  | initialiseMedia (rt : Route)
  /-- CALL_WRITE_FIELD (R396). A Clerk call asks the Postmaster to write PST fields after its checks. -/
  | callWriteField (core : Nat) (req : Option Route) (off : Nat) (mask : Nat) (value : Nat) (e : ColdEnv)
  /-- CALL_MODE_REQUEST (R396). A Clerk call passes a mode request to the Postmaster. -/
  | callModeRequest (core : Nat) (req : Option Route) (code : Nat) (e : ColdEnv)
  /-- CALL_STAGE_IMAGE (R396). A Clerk call writes up to 4 KiB of image data into a slot. -/
  | callStageImage (core : Nat) (off : Nat) (data : List Byte)
  /-- CALL_APPLY_IMAGE (R396). A Clerk call asks the Postmaster to apply an image or roll back. -/
  | callApplyImage (core : Nat) (req : Option Route) (slot : Option Nat)
  /-- CALL_SECURED_MESSAGE (R396). A Clerk call carries an opaque SPDM record to the Postmaster. -/
  | callSecuredMessage (core : Nat) (side : Route)
  /-- CALL_CLERK_RESTART (R398). A Clerk call restarts all Clerk cores. -/
  | callClerkRestart (core : Nat)
  /-- WRITE_PROTECTED_FIELD (R397). A vendor command writes a PST field through the call interface. -/
  | writeProtectedField (rt : Route) (off : Nat) (mask : Nat) (value : Nat) (e : ColdEnv)
  /-- CLERK_WATCHDOG_REFRESH (R398). A Clerk core refreshes its watchdog. -/
  | clerkWatchdogRefresh (core : Nat)
  /-- CLERK_WATCHDOG_EXPIRY (R398). A Clerk watchdog expires 1 s after its last refresh, starting a Clerk restart. -/
  | clerkWatchdogExpiry (core : Nat)
  /-- CLERK_EXCEPTION (R398). Clerk firmware reports an unrecoverable exception and the Clerks restart. -/
  | clerkException (core : Nat)
  /-- CLERK_FIRMWARE_LOADED (R398). The Clerk firmware is loaded and digest-checked, and the cores start. -/
  | clerkFirmwareLoaded (ok : Bool)
  /-- LOCKSTEP_MISMATCH (R395). A Postmaster lockstep mismatch escalates to the Integrity Halt. -/
  | lockstepMismatch
  /-- TRANSFER_IMAGE (R412). The vendor command writes an image into the non-current slot and stages it. -/
  | transferImage (rt : Route) (act : Nat) (off : Nat) (data : List Byte)
  /-- APPLY_IMAGE (R409). The vendor command applies a slot live or as a restart-applicable image. -/
  | applyImage (rt : Route) (slot : Nat)
  /-- ROLL_BACK_IMAGE (R407). The vendor command makes the previous slot current again. -/
  | rollBackImage (rt : Route)
  /-- PLDM_REQUEST_UPDATE (R479). A PLDM RequestUpdate starts a firmware transfer of the Amanmi image. -/
  | pldmRequestUpdate (comp : Nat)
  /-- PLDM_FW_DATA (R412). PLDM firmware data is written into the slot and verified at its end. -/
  | pldmFwData (data : List Byte) (last : Bool)
  /-- PLDM_ACTIVATE_FIRMWARE (R412). ActivateFirmware applies the staged image live or leaves it awaiting Apply Image. -/
  | pldmActivateFirmware (selfContained : Bool)
  /-- FAULT_ACKNOWLEDGE (R422). Writing 1 to a class bit of FLT_U_k_i acknowledges that class, unless fence steps still run. -/
  | faultAcknowledge (rt : Option Route) (kind : Nat) (i : Nat) (m : Nat)
  /-- LIFT_HEAD_FENCE (R425). The vendor command removes a head's dead mark for lifting at its next reset. -/
  | liftHeadFence (rt : Route) (h : Head)
  /-- BUCKET_DRAIN (R427). Every DRAIN ms a leaky bucket's level falls by one. -/
  | bucketDrain (b : Nat)
  /-- EXPORT_DEAD_LETTERS (R432). The vendor command copies the Dead-Letter Store over the management DMA channel. -/
  | exportDeadLetters (rt : Route) (h : Head) (addr : Nat)
  /-- EXPORT_COMPLETE (R480). The export's lines are visible, it completes and event 998 is raised. -/
  | exportComplete
  /-- GET_POISON_LIST (R431). Get Poison List returns the head's Dead-Letter records as head addresses. -/
  | getPoisonList (rt : Route) (skip : Nat)
  /-- INJECT_POISON (R433). In Factory Test Inject Poison poisons a line with a cause-13 record. -/
  | injectPoison (rt : Route) (haddr : Nat)
  /-- CLEAR_POISON (R433). In Factory Test Clear Poison writes a full line, clearing its poison. -/
  | clearPoison (rt : Route) (haddr : Nat) (data : Line)
  /-- GET_EVENT_RECORDS (R441). Get Event Records returns records of a head's event log. -/
  | getEventRecords (rt : Route) (l : Nat)
  /-- CLEAR_EVENT_RECORDS (R441). Clear Event Records removes records from a head's event log. -/
  | clearEventRecords (rt : Route) (l : Nat) (n : Nat) (all : Bool)
  /-- GET_EVENT_INTERRUPT_POLICY (R441). Get Event Interrupt Policy returns a head's log interrupt settings. -/
  | getEventInterruptPolicy (rt : Route)
  /-- SET_EVENT_INTERRUPT_POLICY (R441). Set Event Interrupt Policy sets a head's log interrupt settings. -/
  | setEventInterruptPolicy (rt : Route) (pols : List Nat)
  /-- LOGBOOK_PAGE_WRITE (R446). A Logbook page write is requested, checked for energy and protection, and queued. -/
  | logbookPageWrite (clerk : Bool) (part : Nat) (off : Nat) (data : List Byte)
  /-- LOGBOOK_PAGE_WRITE_DONE (R446). A page write's shadow is programmed, verified and committed by its marker. -/
  | logbookPageWriteDone (ok : Bool)
  /-- LOGBOOK_WRITE_RETRY (R450). A Logbook write refused busy is retried after 1 ms. -/
  | logbookWriteRetry
  /-- LOGWP_CHANGE (R444). LOGWP_N changes, protecting or opening the protected partitions, and raises event 980. -/
  | logwpChange (level : Bool)
  /-- READ_LOGBOOK (R473). The vendor command returns up to 4 KiB of a readable Logbook partition. -/
  | readLogbook (rt : Route) (part : Nat) (off : Nat) (n : Nat)
  /-- COUNTER_SELECT_WRITE (R459). A write of CNT_SEL_i selects a counter's event and filters, refused for undefined events. -/
  | counterSelectWrite (rt : Option Route) (i : Nat) (ev : Nat) (heads : Nat) (classes : Nat) (units : Nat) (pub : Bool) (en : Bool)
  /-- COUNTER_FREEZE (R462). Writing FREEZE stops or restarts every counter in one cycle. -/
  | counterFreeze (rt : Option Route) (v : Bool)
  /-- COUNTER_SNAPSHOT (R462). Writing SNAP copies all counters to the snapshot bank and raises SNAPSEQ. -/
  | counterSnapshot (rt : Option Route)
  /-- COUNTER_CLEAR (R462). Writing CLR zeroes every counter and saturation bit. -/
  | counterClear (rt : Option Route)
  /-- COUNTER_RING_ENABLE (R466). Writing EN checks the counter ring and starts or refuses periodic dumps. -/
  | counterRingEnable (rt : Option Route) (en : Bool)
  /-- COUNTER_DUMP_PERIOD (R464). Every PERIOD µs a snapshot is taken and written to the counter ring, or dropped. -/
  | counterDumpPeriod
  /-- DUMP_RECORD_WRITTEN (R465). A dump record becomes visible, PROD advances and event 960 is raised. -/
  | dumpRecordWritten
  /-- GET_COUNTER_CATALOGUE (R460). The vendor command returns each defined counter event with its kind and increment. -/
  | getCounterCatalogue (rt : Route)
  /-- SMBUS_SET_ADDRESS (R470). SMBus command 0x01 sets the address for direct register reads. -/
  | smbusSetAddress (off : Nat) (pec : Bool) (speed : Nat)
  /-- SMBUS_BLOCK_READ (R470). SMBus command 0x02 returns the register at the set address and advances it by 8. -/
  | smbusBlockRead (pec : Bool) (speed : Nat)
  /-- SET_ENDPOINT_ID (R469). The bus owner assigns the module's MCTP endpoint ID. -/
  | setEndpointId (eid : Nat)
  /-- SPDM_KEY_EXCHANGE (R476). An SPDM KEY_EXCHANGE establishes a secured session, or is answered Busy when sessions are full. -/
  | spdmKeyExchange (side : Route) (version : Nat)
  /-- SPDM_GET_MEASUREMENTS (R477). An SPDM measurement request returns the SHA-384 measurements. -/
  | spdmGetMeasurements (side : Route) (i : Nat)
  /-- SPDM_END_SESSION (R475). An SPDM session ends, and later session-bound commands are refused. -/
  | spdmEndSession (side : Route) (id : Nat)
  /-- PLDM_GET_SENSOR_READING (R478). A PLDM sensor read returns a numeric or state sensor value. -/
  | pldmGetSensorReading (id : Nat)
  /-- PLDM_SET_EVENT_RECEIVER (R478). SetEventReceiver names the receiver of sensor event messages. -/
  | pldmSetEventReceiver (eid : Nat)
  /-- SENSOR_THRESHOLD_CROSSING (R478). A sensor crosses a warning or critical threshold and raises its event. -/
  | sensorThresholdCrossing (id : Nat) (value : Nat)
  /-- IDENTIFY_MEMORY_DEVICE (R472). Identify Memory Device returns the head's capacities. -/
  | identifyMemoryDevice (rt : Route)
  /-- GET_HEALTH_INFO (R472). Get Health Info returns health including the Dirty Shutdown Count. -/
  | getHealthInfo (rt : Route)
  /-- GET_SUPPORTED_LOGS (R472). Get Supported Logs lists the logs the device offers. -/
  | getSupportedLogs (rt : Route)
  /-- GET_LOG (R472). Get Log returns a log such as the CEL. -/
  | getLog (rt : Route) (log : Nat) (off : Nat) (n : Nat)
  /-- GET_TIMESTAMP (R472). Get Timestamp returns the device timestamp. -/
  | getTimestamp (rt : Route)
  /-- SET_TIMESTAMP (R420). Set Timestamp sets the device timestamp used in records. -/
  | setTimestamp (rt : Route) (ns : Nat)
  /-- GET_FW_INFO (R472). Get FW Info reports image slots A and B. -/
  | getFwInfo (rt : Route)
  /-- GET_DC_CONFIGURATION (R472). Get Dynamic Capacity Configuration returns a head's Dynamic Capacity regions. -/
  | getDcConfiguration (rt : Route)
  /-- GET_DC_EXTENT_LIST (R472). Get Dynamic Capacity Extent List returns a head's accepted extents. -/
  | getDcExtentList (rt : Route)
  /-- GET_ALERT_CONFIGURATION (R472). Get Alert Configuration returns the alert settings. -/
  | getAlertConfiguration (rt : Route)
  /-- SET_ALERT_CONFIGURATION (R472). Set Alert Configuration changes the alert settings. -/
  | setAlertConfiguration (rt : Route) (vals : List (Nat × Nat))
  /-- UNSUPPORTED_COMMAND (R472). A command not supported, or not permitted on its route, is refused with Unsupported. -/
  | unsupportedCommand (rt : Route)
  /-- ACTIVITY_TIMER (R495). 50 ms after the last CXL.mem request the Activity pin returns high. -/
  | activityTimer
  /-- LOCATE_TOGGLE (R495). While locate is requested the Locate pin toggles at 1 Hz. -/
  | locateToggle
  /-- TIER_ENGINE_STATE_ERROR (R417). An internal state-check error of the tier engine is a Fatal fault that enters the Integrity Halt at once. -/
  | tierEngineStateError
  /-- CURRENT_LIMIT_EXIT (R363). The feed current falls below the current limit, the limit becomes inactive and the 100 µs and 2 ms inactivity periods begin. -/
  | currentLimitExit (iin : Nat)
  /-- FAULT_TIMER_CLEAR (R363). After 100 µs with the current limit inactive the fault timer's count clears. -/
  | faultTimerClear
  /-- DOWNSTREAM_CONVERTER_FAULT (R435). A downstream converter reports a fault and event 21 is raised. -/
  | downstreamConverterFault
  /-- CONTROLLER_RAIL_OUT_OF_REGULATION (R435). A controller rail leaves regulation and event 22 is raised. -/
  | controllerRailOutOfRegulation
  /-- PLDM_LOCATE_REQUEST (R495). A PLDM request starts or stops the module locate indication that drives the Locate pin. -/
  | pldmLocateRequest (on : Bool)
  /-- CXL_IO_IDE_FAILURE (R335). A check of a CXL.io link or selective IDE stream fails, its keys are discarded and its CXL.io traffic stops, with no fence. -/
  | cxlIoIdeFailure (h : Head) (stream : Nat)
  /-- JTAG_INSTRUCTION (R482). An IEEE 1149.1 instruction such as EXTEST, CLAMP, HIGHZ or a debug instruction is shifted in through the JTAG port and takes effect. -/
  | jtagInstruction (i : Jtag)
  deriving DecidableEq, Repr

end Sys2Proof
end

