-- ==== Sys2Proof/Decode.lean ====
section
/-! DEFINITION. The table gives no row of this block any bits: its commands are messages, register writes and events, none of
which a word spells. -/
namespace Sys2Proof

/-- The command that a word of the table's bits spells: the table gives no bits, so there is none. -/
def decodeTableWord (_nbits _w : Nat) : Option Instr := none

end Sys2Proof
end

