-- ==== Sys2Proof/Config.lean ====
section
/-! DEFINITION. What an implementation fixes and the spec leaves open: constants with no body, so that no proof can see
a value, and the standard cryptographic functions the spec names without defining. -/
namespace Sys2Proof.Config

/-- AES-256 as the standard defines it: for each key a permutation of 128-bit blocks (R145, R151, R152). Its tables are the
standard's, not this spec's (log entry 12). -/
opaque aes256 : BitVec 256 → Equiv.Perm (BitVec 128)
/-- HMAC-SHA-384 of a message under a key (R145, R149). -/
opaque hmacSha384 : List Byte → List Byte → BitVec 384
/-- SHA-384 (R401, R477). -/
opaque sha384 : List Byte → BitVec 384
/-- Whether a signature by the key of an index verifies over a digest (R401, R378). -/
opaque signatureOk : Nat → BitVec 384 → List Byte → Bool
/-- Whether the revocation fuse of a signing key index is blown (R401, R404 check 4). -/
opaque keyRevoked : Nat → Bool
/-- The 64-bit MAC of the metadata key over contents, level and index (R68). -/
opaque mac64 : BitVec 256 → List Byte → Nat → Nat → BitVec 64
/-- The device root key, which never leaves the Postmaster's key store (R145, log entry 6). -/
opaque rootKey : BitVec 256

/-- The keys the Postmaster derives from the root key: 0 the wrapping key of R149, 1 the metadata key of R68. The rules give no
label or context for either. -/
opaque derivedKey : Nat → BitVec 256

/-- A free value of the given number (the counter `free` of State); what it stands for is said where it is read. -/
opaque freeValue : Nat → Nat
/-- Where a search for free parcels starts; the spec does not say which free parcels an allocation takes. -/
opaque allocHint : Nat → Nat
/-- Which of the bases that serve a base-delta sheet the engine stores; a function of the kept bytes (log entry 14). -/
opaque deltaBase : Nat → Nat
/-- The pad of a slot of a size-opaque page: the spec gives the pad no value (R135). -/
opaque padByte : Nat → Byte
/-- The set of the heat table that a page falls in; the spec gives the table's shape and no hash. -/
opaque heatSet : Nat → Nat
/-- Whether a counter event is defined, its kind and increment (R460): the spec's catalogue names areas and some events. -/
opaque counterEvent : Nat → Option (Nat × Nat)
/-- A manufacturing constant of the identity partition: serial number and data bytes (R443). -/
opaque identityByte : Nat → Byte
/-- The unit of the DRAM tier that holds an entry line of the metadata cache; the spec does not place the lines. -/
opaque entryUnit : Nat → Nat

/-- SHA-384 of what the spec measures and gives no bytes for (R477): the boot ROM (1), the fuse state with its revocations (5),
the mode, device floor and factory-test flag (6), of the values listed. -/
opaque measured : Nat → List Nat → BitVec 384
/-- The effects word of a command in the Command Effects Log (R472), by opcode; its bits are the CXL standard's. -/
opaque commandEffects : Nat → Nat
/-- The place of an SBIO pin in the boundary scan chain (R482); the spec gives no chain. -/
opaque scanCell : Nat → Nat

end Sys2Proof.Config
end

