-- ==== Sys2Proof/Machine/Regs.lean ====
section
/-! DEFINITION. The registers of the device window, one constant for each field of the spec's register tables
(bits, access code and reset column as the tables give them), and the list of registers with their offsets
(23_register_index.md, R488). -/
namespace Sys2Proof.Machine

/-- CAP_UNITS.PART [3:0], RO, reset fuse (00_scope.md). -/
def CAP_UNITS_PART : Fld := ⟨0, 0, 4, .ro, .fuse, 0⟩
/-- CAP_UNITS.STEP_MAJ [7:4], RO, reset 0x2 (00_scope.md). -/
def CAP_UNITS_STEP_MAJ : Fld := ⟨1, 4, 4, .ro, .const, 2⟩
/-- CAP_UNITS.STEP_MIN [11:8], RO, reset 0x0 (00_scope.md). -/
def CAP_UNITS_STEP_MIN : Fld := ⟨2, 8, 4, .ro, .const, 0⟩
/-- CAP_UNITS.HEADS [16:12], RO, reset fuse (00_scope.md). -/
def CAP_UNITS_HEADS : Fld := ⟨3, 12, 5, .ro, .fuse, 0⟩
/-- CAP_UNITS.DRAM_CH [21:17], RO, reset fuse (00_scope.md). -/
def CAP_UNITS_DRAM_CH : Fld := ⟨4, 17, 5, .ro, .fuse, 0⟩
/-- CAP_UNITS.MED_STK [26:22], RO, reset fuse (00_scope.md). -/
def CAP_UNITS_MED_STK : Fld := ⟨5, 22, 5, .ro, .fuse, 0⟩
/-- CAP_UNITS.FLM_LNK [31:27], RO, reset fuse (00_scope.md). -/
def CAP_UNITS_FLM_LNK : Fld := ⟨6, 27, 5, .ro, .fuse, 0⟩
/-- CAP_UNITS.COU_ENG [36:32], RO, reset fuse (00_scope.md). -/
def CAP_UNITS_COU_ENG : Fld := ⟨7, 32, 5, .ro, .fuse, 0⟩
/-- CAP_UNITS.HOME_SL [41:37], RO, reset fuse (00_scope.md). -/
def CAP_UNITS_HOME_SL : Fld := ⟨8, 37, 5, .ro, .fuse, 0⟩
/-- CAP_UNITS.MIL_ENG [46:42], RO, reset fuse (00_scope.md). -/
def CAP_UNITS_MIL_ENG : Fld := ⟨9, 42, 5, .ro, .fuse, 0⟩
/-- CAP_UNITS.PERSIST [47:47], RO, reset fuse (00_scope.md). -/
def CAP_UNITS_PERSIST : Fld := ⟨10, 47, 1, .ro, .fuse, 0⟩
/-- CAP_UNITS.DRIFT [48:48], RO, reset fuse (00_scope.md). -/
def CAP_UNITS_DRIFT : Fld := ⟨11, 48, 1, .ro, .fuse, 0⟩
/-- CAP_SPACE.COMMIT_EXT [20:0], IMG, reset image (02_address_model.md). -/
def CAP_SPACE_COMMIT_EXT : Fld := ⟨12, 0, 21, .img, .image, 0⟩
/-- CAP_SPACE.ELASTIC_EXT [41:21], IMG, reset image (02_address_model.md). -/
def CAP_SPACE_ELASTIC_EXT : Fld := ⟨13, 21, 21, .img, .image, 0⟩
/-- CAP_SPACE.LIMIT_EXT [62:42], RO, reset fuse (02_address_model.md). -/
def CAP_SPACE_LIMIT_EXT : Fld := ⟨14, 42, 21, .ro, .fuse, 0⟩
/-- CAP_RGN_A_n.VALID [0:0], IMG, reset image (02_address_model.md). -/
def CAP_RGN_A_VALID : Fld := ⟨15, 0, 1, .img, .image, 0⟩
/-- CAP_RGN_A_n.TYPE [2:1], IMG, reset image (02_address_model.md). -/
def CAP_RGN_A_TYPE : Fld := ⟨16, 1, 2, .img, .image, 0⟩
/-- CAP_RGN_A_n.COHER [3:3], IMG, reset image (02_address_model.md). -/
def CAP_RGN_A_COHER : Fld := ⟨17, 3, 1, .img, .image, 0⟩
/-- CAP_RGN_A_n.CLASS [5:4], IMG, reset image (02_address_model.md). -/
def CAP_RGN_A_CLASS : Fld := ⟨18, 4, 2, .img, .image, 0⟩
/-- CAP_RGN_A_n.TIER [7:6], IMG, reset image (02_address_model.md). -/
def CAP_RGN_A_TIER : Fld := ⟨19, 6, 2, .img, .image, 0⟩
/-- CAP_RGN_A_n.OPAQUE [8:8], IMG, reset image (02_address_model.md). -/
def CAP_RGN_A_OPAQUE : Fld := ⟨20, 8, 1, .img, .image, 0⟩
/-- CAP_RGN_A_n.ELASTIC [9:9], IMG, reset image (02_address_model.md). -/
def CAP_RGN_A_ELASTIC : Fld := ⟨21, 9, 1, .img, .image, 0⟩
/-- CAP_RGN_A_n.KEYDOM [23:12], IMG, reset image (02_address_model.md). -/
def CAP_RGN_A_KEYDOM : Fld := ⟨22, 12, 12, .img, .image, 0⟩
/-- CAP_RGN_A_n.ELEM [26:24], IMG, reset image (02_address_model.md). -/
def CAP_RGN_A_ELEM : Fld := ⟨23, 24, 3, .img, .image, 0⟩
/-- CAP_RGN_A_n.KEEP [31:27], IMG, reset image (02_address_model.md). -/
def CAP_RGN_A_KEEP : Fld := ⟨24, 27, 5, .img, .image, 0⟩
/-- CAP_RGN_A_n.HEADS [47:32], IMG, reset image (02_address_model.md). -/
def CAP_RGN_A_HEADS : Fld := ⟨25, 32, 16, .img, .image, 0⟩
/-- CAP_RGN_B_n.BASE_EXT [19:0], IMG, reset image (02_address_model.md). -/
def CAP_RGN_B_BASE_EXT : Fld := ⟨26, 0, 20, .img, .image, 0⟩
/-- CAP_RGN_B_n.SIZE_EXT [40:20], IMG, reset image (02_address_model.md). -/
def CAP_RGN_B_SIZE_EXT : Fld := ⟨27, 20, 21, .img, .image, 0⟩
/-- CAP_RGN_C_n.DCR [2:0], RO, reset image (02_address_model.md). -/
def CAP_RGN_C_DCR : Fld := ⟨28, 0, 3, .ro, .image, 0⟩
/-- CAP_RGN_C_n.HIST_ANY [3:3], RO, reset 0 (02_address_model.md). -/
def CAP_RGN_C_HIST_ANY : Fld := ⟨29, 3, 1, .ro, .const, 0⟩
/-- HOM_CFG.HASH [0:0], IMG, reset image (03_coherence_home.md). -/
def HOM_CFG_HASH : Fld := ⟨30, 0, 1, .img, .image, 0⟩
/-- HOM_CFG.HOLD [17:8], PST, reset image (03_coherence_home.md). -/
def HOM_CFG_HOLD : Fld := ⟨31, 8, 10, .pst, .image, 0⟩
/-- HOM_CFG.BITO [45:32], PST, reset image (03_coherence_home.md). -/
def HOM_CFG_BITO : Fld := ⟨32, 32, 14, .pst, .image, 0⟩
/-- HOM_CFG.DEAD_N [49:46], RO, reset 0x8 (03_coherence_home.md). -/
def HOM_CFG_DEAD_N : Fld := ⟨33, 46, 4, .ro, .const, 8⟩
/-- HOM_SLMAP.SUB [4:0], RO, reset fuse (03_coherence_home.md). -/
def HOM_SLMAP_SUB : Fld := ⟨34, 0, 5, .ro, .fuse, 0⟩
/-- HOM_SLMAP.REBUILD [8:8], RO, reset 0 (03_coherence_home.md). -/
def HOM_SLMAP_REBUILD : Fld := ⟨35, 8, 1, .ro, .const, 0⟩
/-- HOM_SLMAP.FENCED [25:9], RO, reset 0 (03_coherence_home.md). -/
def HOM_SLMAP_FENCED : Fld := ⟨36, 9, 17, .ro, .const, 0⟩
/-- HOM_HEAD_n.TO_RUN [3:0], RO, reset 0 (03_coherence_home.md). -/
def HOM_HEAD_TO_RUN : Fld := ⟨37, 0, 4, .ro, .const, 0⟩
/-- HOM_HEAD_n.DEAD [4:4], RO, reset 0 (03_coherence_home.md). -/
def HOM_HEAD_DEAD : Fld := ⟨38, 4, 1, .ro, .const, 0⟩
/-- HOM_HEAD_n.TO_TOTAL [31:8], RC, reset 0 (03_coherence_home.md). -/
def HOM_HEAD_TO_TOTAL : Fld := ⟨39, 8, 24, .rc, .const, 0⟩
/-- HOM_HEAD_n.CONFLICT [55:32], RC, reset 0 (03_coherence_home.md). -/
def HOM_HEAD_CONFLICT : Fld := ⟨40, 32, 24, .rc, .const, 0⟩
/-- HOM_SL_s.SF_OCC [20:0], RO, reset 0 (03_coherence_home.md). -/
def HOM_SL_SF_OCC : Fld := ⟨41, 0, 21, .ro, .const, 0⟩
/-- HOM_SL_s.TRK [31:21], RO, reset 0 (03_coherence_home.md). -/
def HOM_SL_TRK : Fld := ⟨42, 21, 11, .ro, .const, 0⟩
/-- HOM_SL_s.EVT_TRK [40:32], RO, reset 0 (03_coherence_home.md). -/
def HOM_SL_EVT_TRK : Fld := ⟨43, 32, 9, .ro, .const, 0⟩
/-- HOM_SL_s.ACTIVE [41:41], RO, reset fuse (03_coherence_home.md). -/
def HOM_SL_ACTIVE : Fld := ⟨44, 41, 1, .ro, .fuse, 0⟩
/-- HOM_SL_s.FENCED [42:42], RO, reset 0 (03_coherence_home.md). -/
def HOM_SL_FENCED : Fld := ⟨45, 42, 1, .ro, .const, 0⟩
/-- HOM_SL_s.LOGICAL [47:43], RO, reset fuse (03_coherence_home.md). -/
def HOM_SL_LOGICAL : Fld := ⟨46, 43, 5, .ro, .fuse, 0⟩
/-- HOM_SL_EVC_s.EVICT [47:0], RC, reset 0 (03_coherence_home.md). -/
def HOM_SL_EVC_EVICT : Fld := ⟨47, 0, 48, .rc, .const, 0⟩
/-- FCA_CFG.LOCKW [3:0], IMG, reset image (04_front_cache.md). -/
def FCA_CFG_LOCKW : Fld := ⟨48, 0, 4, .img, .image, 0⟩
/-- FCA_CFG.PFD [6:4], PST, reset image (04_front_cache.md). -/
def FCA_CFG_PFD : Fld := ⟨49, 4, 3, .pst, .image, 0⟩
/-- FCA_CFG.PFEN [8:8], PST, reset image (04_front_cache.md). -/
def FCA_CFG_PFEN : Fld := ⟨50, 8, 1, .pst, .image, 0⟩
/-- FCA_CFG.PDMAX [31:16], RO, reset 0x2000 (04_front_cache.md). -/
def FCA_CFG_PDMAX : Fld := ⟨51, 16, 16, .ro, .const, 8192⟩
/-- FCA_MOP_ADDR.LINE [47:6], RW, reset 0 (04_front_cache.md). -/
def FCA_MOP_ADDR_LINE : Fld := ⟨52, 6, 42, .rw, .const, 0⟩
/-- FCA_MOP_CTL.LINES [22:0], RW, reset 0 (04_front_cache.md). -/
def FCA_MOP_CTL_LINES : Fld := ⟨53, 0, 23, .rw, .const, 0⟩
/-- FCA_MOP_CTL.OP [26:24], RW, reset 0 (04_front_cache.md). -/
def FCA_MOP_CTL_OP : Fld := ⟨54, 24, 3, .rw, .const, 0⟩
/-- FCA_MOP_CTL.GO [31:31], WO, reset 0 (04_front_cache.md). -/
def FCA_MOP_CTL_GO : Fld := ⟨55, 31, 1, .wo, .const, 0⟩
/-- FCA_MOP_STAT.BUSY [0:0], RO, reset 0 (04_front_cache.md). -/
def FCA_MOP_STAT_BUSY : Fld := ⟨56, 0, 1, .ro, .const, 0⟩
/-- FCA_MOP_STAT.RESULT [3:1], RO, reset 0 (04_front_cache.md). -/
def FCA_MOP_STAT_RESULT : Fld := ⟨57, 1, 3, .ro, .const, 0⟩
/-- FCA_MOP_STAT.REFUSED [4:4], W1C, reset 0 (04_front_cache.md). -/
def FCA_MOP_STAT_REFUSED : Fld := ⟨58, 4, 1, .w1c, .const, 0⟩
/-- FCA_MOP_STAT.DONE [30:8], RO, reset 0 (04_front_cache.md). -/
def FCA_MOP_STAT_DONE : Fld := ⟨59, 8, 23, .ro, .const, 0⟩
/-- FCA_MOP_STAT.SKIP [53:31], RO, reset 0 (04_front_cache.md). -/
def FCA_MOP_STAT_SKIP : Fld := ⟨60, 31, 23, .ro, .const, 0⟩
/-- FCA_LOCKQ_n.QUOTA [19:0], PST, reset image (04_front_cache.md). -/
def FCA_LOCKQ_QUOTA : Fld := ⟨61, 0, 20, .pst, .image, 0⟩
/-- FCA_LOCKQ_n.USED [51:32], RO, reset 0 (04_front_cache.md). -/
def FCA_LOCKQ_USED : Fld := ⟨62, 32, 20, .ro, .const, 0⟩
/-- FCA_SL_s.VALID [16:0], RO, reset 0 (04_front_cache.md). -/
def FCA_SL_VALID : Fld := ⟨63, 0, 17, .ro, .const, 0⟩
/-- FCA_SL_s.DIRTY [33:17], RO, reset 0 (04_front_cache.md). -/
def FCA_SL_DIRTY : Fld := ⟨64, 17, 17, .ro, .const, 0⟩
/-- FCA_SL_s.LOCKED [49:34], RO, reset 0 (04_front_cache.md). -/
def FCA_SL_LOCKED : Fld := ⟨65, 34, 16, .ro, .const, 0⟩
/-- FCA_SL_s.BYPASS [50:50], RO, reset 0 (04_front_cache.md). -/
def FCA_SL_BYPASS : Fld := ⟨66, 50, 1, .ro, .const, 0⟩
/-- FCA_SLP_s.PDIRTY [16:0], RO, reset 0 (04_front_cache.md). -/
def FCA_SLP_PDIRTY : Fld := ⟨67, 0, 17, .ro, .const, 0⟩
/-- FCA_SLP_s.STREAMS [21:17], RO, reset 0 (04_front_cache.md). -/
def FCA_SLP_STREAMS : Fld := ⟨68, 17, 5, .ro, .const, 0⟩
/-- FCA_PERR_s.FIXED [23:0], RC, reset 0 (04_front_cache.md). -/
def FCA_PERR_FIXED : Fld := ⟨69, 0, 24, .rc, .const, 0⟩
/-- FCA_PERR_s.LAST_SET [35:24], RO, reset 0 (04_front_cache.md). -/
def FCA_PERR_LAST_SET : Fld := ⟨70, 24, 12, .ro, .const, 0⟩
/-- FCA_PERR_s.LAST_WAY [39:36], RO, reset 0 (04_front_cache.md). -/
def FCA_PERR_LAST_WAY : Fld := ⟨71, 36, 4, .ro, .const, 0⟩
/-- FCA_PERR_s.LAST_TAG [40:40], RO, reset 0 (04_front_cache.md). -/
def FCA_PERR_LAST_TAG : Fld := ⟨72, 40, 1, .ro, .const, 0⟩
/-- MIL_CMP_MAP.SUB [4:0], RO, reset fuse (05_millrace_compression.md). -/
def MIL_CMP_MAP_SUB : Fld := ⟨73, 0, 5, .ro, .fuse, 0⟩
/-- MIL_CMP_MAP.FENCED [24:8], RO, reset 0 (05_millrace_compression.md). -/
def MIL_CMP_MAP_FENCED : Fld := ⟨74, 8, 17, .ro, .const, 0⟩
/-- MIL_CMP_MAP.ACTIVE [29:25], RO, reset fuse (05_millrace_compression.md). -/
def MIL_CMP_MAP_ACTIVE : Fld := ⟨75, 25, 5, .ro, .fuse, 0⟩
/-- MIL_CMP_ENG_e.COMP [31:0], RC, reset 0 (05_millrace_compression.md). -/
def MIL_CMP_ENG_COMP : Fld := ⟨76, 0, 32, .rc, .const, 0⟩
/-- MIL_CMP_ENG_e.DECOMP [63:32], RC, reset 0 (05_millrace_compression.md). -/
def MIL_CMP_ENG_DECOMP : Fld := ⟨77, 32, 32, .rc, .const, 0⟩
/-- MIL_CMP_ERR_e.CHECK [15:0], RC, reset 0 (05_millrace_compression.md). -/
def MIL_CMP_ERR_CHECK : Fld := ⟨78, 0, 16, .rc, .const, 0⟩
/-- MIL_CMP_ERR_e.BADSTR [31:16], RC, reset 0 (05_millrace_compression.md). -/
def MIL_CMP_ERR_BADSTR : Fld := ⟨79, 16, 16, .rc, .const, 0⟩
/-- MIL_CMP_HIST_c.SHEETS [47:0], RC, reset 0 (05_millrace_compression.md). -/
def MIL_CMP_HIST_SHEETS : Fld := ⟨80, 0, 48, .rc, .const, 0⟩
/-- MIL_CMP_RPK.GROW [31:0], RC, reset 0 (05_millrace_compression.md). -/
def MIL_CMP_RPK_GROW : Fld := ⟨81, 0, 32, .rc, .const, 0⟩
/-- MIL_CMP_RPK.SHRINK [63:32], RC, reset 0 (05_millrace_compression.md). -/
def MIL_CMP_RPK_SHRINK : Fld := ⟨82, 32, 32, .rc, .const, 0⟩
/-- MIL_SEAL_MAP.SUB [4:0], RO, reset fuse (06_millrace_sealing.md). -/
def MIL_SEAL_MAP_SUB : Fld := ⟨83, 0, 5, .ro, .fuse, 0⟩
/-- MIL_SEAL_MAP.FENCED [24:8], RO, reset 0 (06_millrace_sealing.md). -/
def MIL_SEAL_MAP_FENCED : Fld := ⟨84, 8, 17, .ro, .const, 0⟩
/-- MIL_SEAL_MAP.ACTIVE [29:25], RO, reset fuse (06_millrace_sealing.md). -/
def MIL_SEAL_MAP_ACTIVE : Fld := ⟨85, 25, 5, .ro, .fuse, 0⟩
/-- MIL_SEAL_ENG_e.SEAL [31:0], RC, reset 0 (06_millrace_sealing.md). -/
def MIL_SEAL_ENG_SEAL : Fld := ⟨86, 0, 32, .rc, .const, 0⟩
/-- MIL_SEAL_ENG_e.OPEN [63:32], RC, reset 0 (06_millrace_sealing.md). -/
def MIL_SEAL_ENG_OPEN : Fld := ⟨87, 32, 32, .rc, .const, 0⟩
/-- MIL_SEAL_ERR_e.CHECK [15:0], RC, reset 0 (06_millrace_sealing.md). -/
def MIL_SEAL_ERR_CHECK : Fld := ⟨88, 0, 16, .rc, .const, 0⟩
/-- MIL_SEAL_ERR_e.UNCONF [31:16], RC, reset 0 (06_millrace_sealing.md). -/
def MIL_SEAL_ERR_UNCONF : Fld := ⟨89, 16, 16, .rc, .const, 0⟩
/-- MIL_HALT_A.CAUSE [3:0], RO, reset 0 (06_millrace_sealing.md). -/
def MIL_HALT_A_CAUSE : Fld := ⟨90, 0, 4, .ro, .const, 0⟩
/-- MIL_HALT_A.CONFIRMED [4:4], RO, reset 0 (06_millrace_sealing.md). -/
def MIL_HALT_A_CONFIRMED : Fld := ⟨91, 4, 1, .ro, .const, 0⟩
/-- MIL_HALT_A.FLUSHED [5:5], RO, reset 0 (06_millrace_sealing.md). -/
def MIL_HALT_A_FLUSHED : Fld := ⟨92, 5, 1, .ro, .const, 0⟩
/-- MIL_HALT_A.SHEET [13:10], RO, reset 0 (06_millrace_sealing.md). -/
def MIL_HALT_A_SHEET : Fld := ⟨93, 10, 4, .ro, .const, 0⟩
/-- MIL_HALT_A.KEYDOM [25:14], RO, reset 0 (06_millrace_sealing.md). -/
def MIL_HALT_A_KEYDOM : Fld := ⟨94, 14, 12, .ro, .const, 0⟩
/-- MIL_HALT_A.ENG1 [30:26], RO, reset 0 (06_millrace_sealing.md). -/
def MIL_HALT_A_ENG1 : Fld := ⟨95, 26, 5, .ro, .const, 0⟩
/-- MIL_HALT_A.ENG2 [35:31], RO, reset 0 (06_millrace_sealing.md). -/
def MIL_HALT_A_ENG2 : Fld := ⟨96, 31, 5, .ro, .const, 0⟩
/-- MIL_HALT_A.MASTER [43:36], RO, reset 0 (06_millrace_sealing.md). -/
def MIL_HALT_A_MASTER : Fld := ⟨97, 36, 8, .ro, .const, 0⟩
/-- MIL_HALT_A.SLICE [48:44], RO, reset 0 (06_millrace_sealing.md). -/
def MIL_HALT_A_SLICE : Fld := ⟨98, 44, 5, .ro, .const, 0⟩
/-- MIL_HALT_B.PAGE [35:0], RO, reset 0 (06_millrace_sealing.md). -/
def MIL_HALT_B_PAGE : Fld := ⟨99, 0, 36, .ro, .const, 0⟩
/-- MIL_HALT_B.GEN [51:36], RO, reset 0 (06_millrace_sealing.md). -/
def MIL_HALT_B_GEN : Fld := ⟨100, 36, 16, .ro, .const, 0⟩
/-- MIL_HALT_B.TIER [52:52], RO, reset 0 (06_millrace_sealing.md). -/
def MIL_HALT_B_TIER : Fld := ⟨101, 52, 1, .ro, .const, 0⟩
/-- MIL_KD_d.STATE [1:0], RO, reset 0 (06_millrace_sealing.md). -/
def MIL_KD_STATE : Fld := ⟨102, 0, 2, .ro, .const, 0⟩
/-- MIL_KD_d.PERSIST [2:2], IMG, reset image (06_millrace_sealing.md). -/
def MIL_KD_PERSIST : Fld := ⟨103, 2, 1, .img, .image, 0⟩
/-- MIL_KD_d.OPAQUE [3:3], IMG, reset image (06_millrace_sealing.md). -/
def MIL_KD_OPAQUE : Fld := ⟨104, 3, 1, .img, .image, 0⟩
/-- MIL_KD_d.OWNER [7:4], IMG, reset image (06_millrace_sealing.md). -/
def MIL_KD_OWNER : Fld := ⟨105, 4, 4, .img, .image, 0⟩
/-- MIL_KD_d.COU [9:8], PST, reset image (06_millrace_sealing.md). -/
def MIL_KD_COU : Fld := ⟨106, 8, 2, .pst, .image, 0⟩
/-- MIL_KD_d.TIER [11:10], RO, reset 0x1 (06_millrace_sealing.md). -/
def MIL_KD_TIER : Fld := ⟨107, 10, 2, .ro, .const, 1⟩
/-- MIL_KD_d.SCRUB [13:12], PST, reset 0x1 (06_millrace_sealing.md). -/
def MIL_KD_SCRUB : Fld := ⟨108, 12, 2, .pst, .const, 1⟩
/-- MIL_KD_d.CLKDBG [15:14], PST, reset 0 (06_millrace_sealing.md). -/
def MIL_KD_CLKDBG : Fld := ⟨109, 14, 2, .pst, .const, 0⟩
/-- MIL_KD_d.JTAG [17:16], PST, reset 0 (06_millrace_sealing.md). -/
def MIL_KD_JTAG : Fld := ⟨110, 16, 2, .pst, .const, 0⟩
/-- CAP_CLIM.CLIMIT [26:0], RO, reset 0 (07_capacity_tiering.md). -/
def CAP_CLIM_CLIMIT : Fld := ⟨111, 0, 27, .ro, .const, 0⟩
/-- CAP_CLIM.PLIMIT [53:32], RO, reset 0 (07_capacity_tiering.md). -/
def CAP_CLIM_PLIMIT : Fld := ⟨112, 32, 22, .ro, .const, 0⟩
/-- CAP_CHG.HEADROOM [39:0], RO, reset 0 (07_capacity_tiering.md). -/
def CAP_CHG_HEADROOM : Fld := ⟨113, 0, 40, .ro, .const, 0⟩
/-- CAP_GPOOL.NPOOL [40:0], RO, reset 0 (07_capacity_tiering.md). -/
def CAP_GPOOL_NPOOL : Fld := ⟨114, 0, 41, .ro, .const, 0⟩
/-- CAP_GPOOL.LEVEL [42:41], RO, reset 0 (07_capacity_tiering.md). -/
def CAP_GPOOL_LEVEL : Fld := ⟨115, 41, 2, .ro, .const, 0⟩
/-- CAP_RES.TOTAL [31:0], RO, reset 0x8000_0000 (07_capacity_tiering.md). -/
def CAP_RES_TOTAL : Fld := ⟨116, 0, 32, .ro, .const, 2147483648⟩
/-- CAP_RES.REMAIN [63:32], RO, reset 0x8000_0000 (07_capacity_tiering.md). -/
def CAP_RES_REMAIN : Fld := ⟨117, 32, 32, .ro, .const, 2147483648⟩
/-- CAP_WM.LOW [15:0], PST, reset image (07_capacity_tiering.md). -/
def CAP_WM_LOW : Fld := ⟨118, 0, 16, .pst, .image, 0⟩
/-- CAP_WM.CRIT [31:16], PST, reset image (07_capacity_tiering.md). -/
def CAP_WM_CRIT : Fld := ⟨119, 16, 16, .pst, .image, 0⟩
/-- CAP_WM.HYST [47:32], PST, reset image (07_capacity_tiering.md). -/
def CAP_WM_HYST : Fld := ⟨120, 32, 16, .pst, .image, 0⟩
/-- CAP_WM.RELP [55:48], PST, reset image (07_capacity_tiering.md). -/
def CAP_WM_RELP : Fld := ⟨121, 48, 8, .pst, .image, 0⟩
/-- CAP_WM.RELMAX [63:56], PST, reset image (07_capacity_tiering.md). -/
def CAP_WM_RELMAX : Fld := ⟨122, 56, 8, .pst, .image, 0⟩
/-- CAP_AUD.RESULT [1:0], RO, reset 0 (07_capacity_tiering.md). -/
def CAP_AUD_RESULT : Fld := ⟨123, 0, 2, .ro, .const, 0⟩
/-- CAP_AUD.BUSY [2:2], RO, reset 0 (07_capacity_tiering.md). -/
def CAP_AUD_BUSY : Fld := ⟨124, 2, 1, .ro, .const, 0⟩
/-- CAP_AUD.KIND [3:3], RO, reset 0 (07_capacity_tiering.md). -/
def CAP_AUD_KIND : Fld := ⟨125, 3, 1, .ro, .const, 0⟩
/-- CAP_AUD.SEQ [39:8], RO, reset 0 (07_capacity_tiering.md). -/
def CAP_AUD_SEQ : Fld := ⟨126, 8, 32, .ro, .const, 0⟩
/-- CAP_PAR_t_k.COUNT [39:0], RO, reset 0 (07_capacity_tiering.md). -/
def CAP_PAR_COUNT : Fld := ⟨127, 0, 40, .ro, .const, 0⟩
/-- CAP_EQ_n.QUOTA [18:0], PST, reset image (07_capacity_tiering.md). -/
def CAP_EQ_QUOTA : Fld := ⟨128, 0, 19, .pst, .image, 0⟩
/-- CAP_EQ_n.RSHARE [42:32], PST, reset image (07_capacity_tiering.md). -/
def CAP_EQ_RSHARE : Fld := ⟨129, 32, 11, .pst, .image, 0⟩
/-- CAP_EU_n.USE [39:0], RO, reset 0 (07_capacity_tiering.md). -/
def CAP_EU_USE : Fld := ⟨130, 0, 40, .ro, .const, 0⟩
/-- CAP_EU_n.OVER [40:40], RO, reset 0 (07_capacity_tiering.md). -/
def CAP_EU_OVER : Fld := ⟨131, 40, 1, .ro, .const, 0⟩
/-- CAP_EU_n.REFUSING [41:41], RO, reset 0 (07_capacity_tiering.md). -/
def CAP_EU_REFUSING : Fld := ⟨132, 41, 1, .ro, .const, 0⟩
/-- CAP_EU_n.RESUSED [62:42], RO, reset 0 (07_capacity_tiering.md). -/
def CAP_EU_RESUSED : Fld := ⟨133, 42, 21, .ro, .const, 0⟩
/-- CAP_ED_n.REFUSED [31:0], RC, reset 0 (07_capacity_tiering.md). -/
def CAP_ED_REFUSED : Fld := ⟨134, 0, 32, .rc, .const, 0⟩
/-- CAP_ED_n.RELREQ [63:32], RC, reset 0 (07_capacity_tiering.md). -/
def CAP_ED_RELREQ : Fld := ⟨135, 32, 32, .rc, .const, 0⟩
/-- TIE_CFG.SAMPLE [3:0], PST, reset image (07_capacity_tiering.md). -/
def TIE_CFG_SAMPLE : Fld := ⟨136, 0, 4, .pst, .image, 0⟩
/-- TIE_CFG.EPOCH [17:4], PST, reset image (07_capacity_tiering.md). -/
def TIE_CFG_EPOCH : Fld := ⟨137, 4, 14, .pst, .image, 0⟩
/-- TIE_CFG.PROMO [25:18], PST, reset image (07_capacity_tiering.md). -/
def TIE_CFG_PROMO : Fld := ⟨138, 18, 8, .pst, .image, 0⟩
/-- TIE_CFG.DEMO [33:26], PST, reset image (07_capacity_tiering.md). -/
def TIE_CFG_DEMO : Fld := ⟨139, 26, 8, .pst, .image, 0⟩
/-- TIE_CFG.MIGMAX [41:34], PST, reset image (07_capacity_tiering.md). -/
def TIE_CFG_MIGMAX : Fld := ⟨140, 34, 8, .pst, .image, 0⟩
/-- TIE_DWM.START [15:0], PST, reset image (07_capacity_tiering.md). -/
def TIE_DWM_START : Fld := ⟨141, 0, 16, .pst, .image, 0⟩
/-- TIE_DWM.STOP [31:16], PST, reset image (07_capacity_tiering.md). -/
def TIE_DWM_STOP : Fld := ⟨142, 16, 16, .pst, .image, 0⟩
/-- TIE_DWM.MIGRES [47:32], IMG, reset image (07_capacity_tiering.md). -/
def TIE_DWM_MIGRES : Fld := ⟨143, 32, 16, .img, .image, 0⟩
/-- TIE_PIN.LIMIT [15:0], PST, reset image (07_capacity_tiering.md). -/
def TIE_PIN_LIMIT : Fld := ⟨144, 0, 16, .pst, .image, 0⟩
/-- TIE_PIN.USED [47:16], RO, reset 0 (07_capacity_tiering.md). -/
def TIE_PIN_USED : Fld := ⟨145, 16, 32, .ro, .const, 0⟩
/-- TIE_STAT.PROMO [31:0], RC, reset 0 (07_capacity_tiering.md). -/
def TIE_STAT_PROMO : Fld := ⟨146, 0, 32, .rc, .const, 0⟩
/-- TIE_STAT.DEMOT [63:32], RC, reset 0 (07_capacity_tiering.md). -/
def TIE_STAT_DEMOT : Fld := ⟨147, 32, 32, .rc, .const, 0⟩
/-- TIE_STAT2.ABORT [15:0], RC, reset 0 (07_capacity_tiering.md). -/
def TIE_STAT2_ABORT : Fld := ⟨148, 0, 16, .rc, .const, 0⟩
/-- TIE_STAT2.QDROP [31:16], RC, reset 0 (07_capacity_tiering.md). -/
def TIE_STAT2_QDROP : Fld := ⟨149, 16, 16, .rc, .const, 0⟩
/-- TIE_STAT2.INFLIGHT [39:32], RO, reset 0 (07_capacity_tiering.md). -/
def TIE_STAT2_INFLIGHT : Fld := ⟨150, 32, 8, .ro, .const, 0⟩
/-- TIE_STAT2.DEMOTH [47:40], RO, reset 0 (07_capacity_tiering.md). -/
def TIE_STAT2_DEMOTH : Fld := ⟨151, 40, 8, .ro, .const, 0⟩
/-- DRM_CFG.WQ_HIGH [7:0], PST, reset image (08_dram_tier.md). -/
def DRM_CFG_WQ_HIGH : Fld := ⟨152, 0, 8, .pst, .image, 0⟩
/-- DRM_CFG.WQ_LOW [15:8], PST, reset image (08_dram_tier.md). -/
def DRM_CFG_WQ_LOW : Fld := ⟨153, 8, 8, .pst, .image, 0⟩
/-- DRM_CFG.NR_THRESH [29:16], PST, reset image (08_dram_tier.md). -/
def DRM_CFG_NR_THRESH : Fld := ⟨154, 16, 14, .pst, .image, 0⟩
/-- DRM_CFG.CE_ROW [39:32], PST, reset image (08_dram_tier.md). -/
def DRM_CFG_CE_ROW : Fld := ⟨155, 32, 8, .pst, .image, 0⟩
/-- DRM_CFG.MARGIN [47:40], PST, reset image (08_dram_tier.md). -/
def DRM_CFG_MARGIN : Fld := ⟨156, 40, 8, .pst, .image, 0⟩
/-- DRM_RTS.PERIOD [15:0], RO, reset 100 (08_dram_tier.md). -/
def DRM_RTS_PERIOD : Fld := ⟨157, 0, 16, .ro, .const, 100⟩
/-- DRM_RTS.PAUSE [31:16], RO, reset 2,000 (08_dram_tier.md). -/
def DRM_RTS_PAUSE : Fld := ⟨158, 16, 16, .ro, .const, 2000⟩
/-- DRM_RTS.NEXT [36:32], RO, reset 0 (08_dram_tier.md). -/
def DRM_RTS_NEXT : Fld := ⟨159, 32, 5, .ro, .const, 0⟩
/-- DRM_PPR.PENDING [11:0], RO, reset 0 (08_dram_tier.md). -/
def DRM_PPR_PENDING : Fld := ⟨160, 0, 12, .ro, .const, 0⟩
/-- DRM_PPR.APPLIED [23:12], RO, reset 0 (08_dram_tier.md). -/
def DRM_PPR_APPLIED : Fld := ⟨161, 12, 12, .ro, .const, 0⟩
/-- DRM_PPR.UNREP [35:24], RO, reset 0 (08_dram_tier.md). -/
def DRM_PPR_UNREP : Fld := ⟨162, 24, 12, .ro, .const, 0⟩
/-- DRM_CH_c.RDQ [7:0], RO, reset 0 (08_dram_tier.md). -/
def DRM_CH_RDQ : Fld := ⟨163, 0, 8, .ro, .const, 0⟩
/-- DRM_CH_c.WRQ [15:8], RO, reset 0 (08_dram_tier.md). -/
def DRM_CH_WRQ : Fld := ⟨164, 8, 8, .ro, .const, 0⟩
/-- DRM_CH_c.DRAIN [16:16], RO, reset 0 (08_dram_tier.md). -/
def DRM_CH_DRAIN : Fld := ⟨165, 16, 1, .ro, .const, 0⟩
/-- DRM_CH_c.FENCED [17:17], RO, reset 0 (08_dram_tier.md). -/
def DRM_CH_FENCED : Fld := ⟨166, 17, 1, .ro, .const, 0⟩
/-- DRM_CH_c.PRESENT [18:18], RO, reset fuse (08_dram_tier.md). -/
def DRM_CH_PRESENT : Fld := ⟨167, 18, 1, .ro, .fuse, 0⟩
/-- DRM_CH_c.RTF0 [19:19], RO, reset 0 (08_dram_tier.md). -/
def DRM_CH_RTF0 : Fld := ⟨168, 19, 1, .ro, .const, 0⟩
/-- DRM_CH_c.RTF1 [20:20], RO, reset 0 (08_dram_tier.md). -/
def DRM_CH_RTF1 : Fld := ⟨169, 20, 1, .ro, .const, 0⟩
/-- DRM_CH_NR_c.NREF [31:0], RC, reset 0 (08_dram_tier.md). -/
def DRM_CH_NR_NREF : Fld := ⟨170, 0, 32, .rc, .const, 0⟩
/-- DRM_CH_NR_c.FWD [63:32], RC, reset 0 (08_dram_tier.md). -/
def DRM_CH_NR_FWD : Fld := ⟨171, 32, 32, .rc, .const, 0⟩
/-- DRM_CH_RT_c.DONE [15:0], RC, reset 0 (08_dram_tier.md). -/
def DRM_CH_RT_DONE : Fld := ⟨172, 0, 16, .rc, .const, 0⟩
/-- DRM_CH_RT_c.MARG0 [23:16], RO, reset 0 (08_dram_tier.md). -/
def DRM_CH_RT_MARG0 : Fld := ⟨173, 16, 8, .ro, .const, 0⟩
/-- DRM_CH_RT_c.MARG1 [31:24], RO, reset 0 (08_dram_tier.md). -/
def DRM_CH_RT_MARG1 : Fld := ⟨174, 24, 8, .ro, .const, 0⟩
/-- DRM_CH_RT_c.FAILS [39:32], RC, reset 0 (08_dram_tier.md). -/
def DRM_CH_RT_FAILS : Fld := ⟨175, 32, 8, .rc, .const, 0⟩
/-- DRM_CH_RT_c.SKIPS [47:40], RC, reset 0 (08_dram_tier.md). -/
def DRM_CH_RT_SKIPS : Fld := ⟨176, 40, 8, .rc, .const, 0⟩
/-- DRM_CH_ECC_c.CE [23:0], RC, reset 0 (08_dram_tier.md). -/
def DRM_CH_ECC_CE : Fld := ⟨177, 0, 24, .rc, .const, 0⟩
/-- DRM_CH_ECC_c.UE [39:24], RC, reset 0 (08_dram_tier.md). -/
def DRM_CH_ECC_UE : Fld := ⟨178, 24, 16, .rc, .const, 0⟩
/-- DRM_CH_ECC_c.MARKED [51:40], RO, reset 0 (08_dram_tier.md). -/
def DRM_CH_ECC_MARKED : Fld := ⟨179, 40, 12, .ro, .const, 0⟩
/-- DRM_UE_c.VALID [0:0], RC, reset 0 (08_dram_tier.md). -/
def DRM_UE_VALID : Fld := ⟨180, 0, 1, .rc, .const, 0⟩
/-- DRM_UE_c.SUBCH [1:1], RO, reset 0 (08_dram_tier.md). -/
def DRM_UE_SUBCH : Fld := ⟨181, 1, 1, .ro, .const, 0⟩
/-- DRM_UE_c.RANK [2:2], RO, reset 0 (08_dram_tier.md). -/
def DRM_UE_RANK : Fld := ⟨182, 2, 1, .ro, .const, 0⟩
/-- DRM_UE_c.BG [5:3], RO, reset 0 (08_dram_tier.md). -/
def DRM_UE_BG : Fld := ⟨183, 3, 3, .ro, .const, 0⟩
/-- DRM_UE_c.BANK [7:6], RO, reset 0 (08_dram_tier.md). -/
def DRM_UE_BANK : Fld := ⟨184, 6, 2, .ro, .const, 0⟩
/-- DRM_UE_c.ROW [25:8], RO, reset 0 (08_dram_tier.md). -/
def DRM_UE_ROW : Fld := ⟨185, 8, 18, .ro, .const, 0⟩
/-- DRM_UE_c.COL [32:26], RO, reset 0 (08_dram_tier.md). -/
def DRM_UE_COL : Fld := ⟨186, 26, 7, .ro, .const, 0⟩
/-- DRM_UE_c.SRC [40:33], RO, reset 0 (08_dram_tier.md). -/
def DRM_UE_SRC : Fld := ⟨187, 33, 8, .ro, .const, 0⟩
/-- MED_CFG.PADTO [9:0], PST, reset image (09_media_write_path.md). -/
def MED_CFG_PADTO : Fld := ⟨188, 0, 10, .pst, .image, 0⟩
/-- MED_CFG.RCLPAR [12:10], PST, reset image (09_media_write_path.md). -/
def MED_CFG_RCLPAR : Fld := ⟨189, 10, 3, .pst, .image, 0⟩
/-- MED_STG.SIZE [15:0], RO, reset 512 (09_media_write_path.md). -/
def MED_STG_SIZE : Fld := ⟨190, 0, 16, .ro, .const, 512⟩
/-- MED_STG.SHARE [31:16], RO, reset 0 (09_media_write_path.md). -/
def MED_STG_SHARE : Fld := ⟨191, 16, 16, .ro, .const, 0⟩
/-- MED_STG.USED [47:32], RO, reset 0 (09_media_write_path.md). -/
def MED_STG_USED : Fld := ⟨192, 32, 16, .ro, .const, 0⟩
/-- MED_STG.WAITS [63:48], RC, reset 0 (09_media_write_path.md). -/
def MED_STG_WAITS : Fld := ⟨193, 48, 16, .rc, .const, 0⟩
/-- MED_RCL.START [21:0], PST, reset image (09_media_write_path.md). -/
def MED_RCL_START : Fld := ⟨194, 0, 22, .pst, .image, 0⟩
/-- MED_RCL.STOP [43:22], PST, reset image (09_media_write_path.md). -/
def MED_RCL_STOP : Fld := ⟨195, 22, 22, .pst, .image, 0⟩
/-- MED_RCL.MINSTALE [51:44], PST, reset image (09_media_write_path.md). -/
def MED_RCL_MINSTALE : Fld := ⟨196, 44, 8, .pst, .image, 0⟩
/-- MED_RCL2.FLOOR [21:0], PST, reset image (09_media_write_path.md). -/
def MED_RCL2_FLOOR : Fld := ⟨197, 0, 22, .pst, .image, 0⟩
/-- MED_AGE.NOW [23:0], RO, reset 0 (09_media_write_path.md). -/
def MED_AGE_NOW : Fld := ⟨198, 0, 24, .ro, .const, 0⟩
/-- MED_AGE.REFRESH [39:24], RO, reset 720 (09_media_write_path.md). -/
def MED_AGE_REFRESH : Fld := ⟨199, 24, 16, .ro, .const, 720⟩
/-- MED_WEAR.RETIRE [26:0], RO, reset 100,000,000 (09_media_write_path.md). -/
def MED_WEAR_RETIRE : Fld := ⟨200, 0, 27, .ro, .const, 100000000⟩
/-- MED_WEAR.SPREAD [47:32], PST, reset image (09_media_write_path.md). -/
def MED_WEAR_SPREAD : Fld := ⟨201, 32, 16, .pst, .image, 0⟩
/-- MED_STK_k.EMPTY [21:0], RO, reset 0 (09_media_write_path.md). -/
def MED_STK_EMPTY : Fld := ⟨202, 0, 22, .ro, .const, 0⟩
/-- MED_STK_k.SPARE [43:22], RO, reset 0 (09_media_write_path.md). -/
def MED_STK_SPARE : Fld := ⟨203, 22, 22, .ro, .const, 0⟩
/-- MED_STK_k.PRESENT [44:44], RO, reset fuse (09_media_write_path.md). -/
def MED_STK_PRESENT : Fld := ⟨204, 44, 1, .ro, .fuse, 0⟩
/-- MED_STK_k.FENCED [45:45], RO, reset 0 (09_media_write_path.md). -/
def MED_STK_FENCED : Fld := ⟨205, 45, 1, .ro, .const, 0⟩
/-- MED_STK_SEG_k.CLOSED [21:0], RO, reset 0 (09_media_write_path.md). -/
def MED_STK_SEG_CLOSED : Fld := ⟨206, 0, 22, .ro, .const, 0⟩
/-- MED_STK_SEG_k.RETIRED [43:22], RO, reset 0 (09_media_write_path.md). -/
def MED_STK_SEG_RETIRED : Fld := ⟨207, 22, 22, .ro, .const, 0⟩
/-- MED_STK_SEG_k.RCL [46:44], RO, reset 0 (09_media_write_path.md). -/
def MED_STK_SEG_RCL : Fld := ⟨208, 44, 3, .ro, .const, 0⟩
/-- MED_STK_PRG_k.NEWP [31:0], RC, reset 0 (09_media_write_path.md). -/
def MED_STK_PRG_NEWP : Fld := ⟨209, 0, 32, .rc, .const, 0⟩
/-- MED_STK_PRG_k.RELP [63:32], RC, reset 0 (09_media_write_path.md). -/
def MED_STK_PRG_RELP : Fld := ⟨210, 32, 32, .rc, .const, 0⟩
/-- MED_STK_PAD_k.PAD [31:0], RC, reset 0 (09_media_write_path.md). -/
def MED_STK_PAD_PAD : Fld := ⟨211, 0, 32, .rc, .const, 0⟩
/-- MED_STK_PAD_k.PFAIL [47:32], RC, reset 0 (09_media_write_path.md). -/
def MED_STK_PAD_PFAIL : Fld := ⟨212, 32, 16, .rc, .const, 0⟩
/-- MED_STK_PAD_k.REFR [63:48], RC, reset 0 (09_media_write_path.md). -/
def MED_STK_PAD_REFR : Fld := ⟨213, 48, 16, .rc, .const, 0⟩
/-- MED_STK_WEAR_k.WMIN [26:0], RO, reset 0 (09_media_write_path.md). -/
def MED_STK_WEAR_WMIN : Fld := ⟨214, 0, 27, .ro, .const, 0⟩
/-- MED_STK_WEAR_k.WMAX [53:27], RO, reset 0 (09_media_write_path.md). -/
def MED_STK_WEAR_WMAX : Fld := ⟨215, 27, 27, .ro, .const, 0⟩
/-- MED_DRIFT_b.UPTO [23:0], RO, reset table of R242 (10_media_health.md). -/
def MED_DRIFT_UPTO : Fld := ⟨216, 0, 24, .ro, .fuse, 0⟩
/-- MED_DRIFT_b.OFS [31:24], RO, reset table of R242 (10_media_health.md). -/
def MED_DRIFT_OFS : Fld := ⟨217, 24, 8, .ro, .fuse, 0⟩
/-- MED_HLTH.STEP [2:0], PST, reset image (10_media_health.md). -/
def MED_HLTH_STEP : Fld := ⟨218, 0, 3, .pst, .image, 0⟩
/-- MED_HLTH.CBITS [7:3], PST, reset image (10_media_health.md). -/
def MED_HLTH_CBITS : Fld := ⟨219, 3, 5, .pst, .image, 0⟩
/-- MED_HLTH.ERSTEP [10:8], PST, reset image (10_media_health.md). -/
def MED_HLTH_ERSTEP : Fld := ⟨220, 8, 3, .pst, .image, 0⟩
/-- MED_HLTH.DIEUE [23:12], PST, reset image (10_media_health.md). -/
def MED_HLTH_DIEUE : Fld := ⟨221, 12, 12, .pst, .image, 0⟩
/-- MED_HLTH.OVFMAX [27:24], PST, reset image (10_media_health.md). -/
def MED_HLTH_OVFMAX : Fld := ⟨222, 24, 4, .pst, .image, 0⟩
/-- MED_HLTH.PFMAX [31:28], PST, reset image (10_media_health.md). -/
def MED_HLTH_PFMAX : Fld := ⟨223, 28, 4, .pst, .image, 0⟩
/-- MED_RBD.RATE [7:0], PST, reset image (10_media_health.md). -/
def MED_RBD_RATE : Fld := ⟨224, 0, 8, .pst, .image, 0⟩
/-- MED_RBD.PAR [10:8], PST, reset image (10_media_health.md). -/
def MED_RBD_PAR : Fld := ⟨225, 8, 3, .pst, .image, 0⟩
/-- MED_PLAN.SRC [1:0], RO, reset 0 (10_media_health.md). -/
def MED_PLAN_SRC : Fld := ⟨226, 0, 2, .ro, .const, 0⟩
/-- MED_PLAN.NOGRADE [2:2], RO, reset 0 (10_media_health.md). -/
def MED_PLAN_NOGRADE : Fld := ⟨227, 2, 1, .ro, .const, 0⟩
/-- MED_PLAN.LOWERED [3:3], RO, reset 0 (10_media_health.md). -/
def MED_PLAN_LOWERED : Fld := ⟨228, 3, 1, .ro, .const, 0⟩
/-- MED_PLAN.ADV [17:4], RO, reset 0 (10_media_health.md). -/
def MED_PLAN_ADV : Fld := ⟨229, 4, 14, .ro, .const, 0⟩
/-- MED_PLAN.AGESTAR [33:18], RO, reset 0 (10_media_health.md). -/
def MED_PLAN_AGESTAR : Fld := ⟨230, 18, 16, .ro, .const, 0⟩
/-- MED_PLAN.WDIE [39:34], RO, reset 0 (10_media_health.md). -/
def MED_PLAN_WDIE : Fld := ⟨231, 34, 6, .ro, .const, 0⟩
/-- MED_PLAN.WSTK [43:40], RO, reset 0 (10_media_health.md). -/
def MED_PLAN_WSTK : Fld := ⟨232, 40, 4, .ro, .const, 0⟩
/-- MED_PLAN.SAMPLE [51:44], RO, reset 64 (10_media_health.md). -/
def MED_PLAN_SAMPLE : Fld := ⟨233, 44, 8, .ro, .const, 64⟩
/-- MED_PLAN.GUARD [59:52], RO, reset 8 (10_media_health.md). -/
def MED_PLAN_GUARD : Fld := ⟨234, 52, 8, .ro, .const, 8⟩
/-- MED_HSTK_k.FAILED [2:0], RO, reset 0 (10_media_health.md). -/
def MED_HSTK_FAILED : Fld := ⟨235, 0, 3, .ro, .const, 0⟩
/-- MED_HSTK_k.REBUILD [3:3], RO, reset 0 (10_media_health.md). -/
def MED_HSTK_REBUILD : Fld := ⟨236, 3, 1, .ro, .const, 0⟩
/-- MED_HSTK_k.RBDIE [9:4], RO, reset 0x3F (10_media_health.md). -/
def MED_HSTK_RBDIE : Fld := ⟨237, 4, 6, .ro, .const, 63⟩
/-- MED_HSTK_k.DONOR [31:10], RO, reset 0 (10_media_health.md). -/
def MED_HSTK_DONOR : Fld := ⟨238, 10, 22, .ro, .const, 0⟩
/-- MED_HSTK_k.RBLEFT [53:32], RO, reset 0 (10_media_health.md). -/
def MED_HSTK_RBLEFT : Fld := ⟨239, 32, 22, .ro, .const, 0⟩
/-- MED_HSTK_k.ERQ [62:54], RO, reset 0 (10_media_health.md). -/
def MED_HSTK_ERQ : Fld := ⟨240, 54, 9, .ro, .const, 0⟩
/-- MED_HSTK2_k.RECON [31:0], RC, reset 0 (10_media_health.md). -/
def MED_HSTK2_RECON : Fld := ⟨241, 0, 32, .rc, .const, 0⟩
/-- MED_HSTK2_k.ERDROP [47:32], RC, reset 0 (10_media_health.md). -/
def MED_HSTK2_ERDROP : Fld := ⟨242, 32, 16, .rc, .const, 0⟩
/-- MED_HSTK2_k.POISON [63:48], RC, reset 0 (10_media_health.md). -/
def MED_HSTK2_POISON : Fld := ⟨243, 48, 16, .rc, .const, 0⟩
/-- MED_DIE_k_d.TRIM [7:0], RO, reset 0 (10_media_health.md). -/
def MED_DIE_TRIM : Fld := ⟨244, 0, 8, .ro, .const, 0⟩
/-- MED_DIE_k_d.STATE [9:8], RO, reset 0 (10_media_health.md). -/
def MED_DIE_STATE : Fld := ⟨245, 8, 2, .ro, .const, 0⟩
/-- MED_DIE_k_d.LADDER [25:10], RC, reset 0 (10_media_health.md). -/
def MED_DIE_LADDER : Fld := ⟨246, 10, 16, .rc, .const, 0⟩
/-- MED_DIE_k_d.RECON [41:26], RC, reset 0 (10_media_health.md). -/
def MED_DIE_RECON : Fld := ⟨247, 26, 16, .rc, .const, 0⟩
/-- MED_DIE_k_d.OVF [45:42], RO, reset 0 (10_media_health.md). -/
def MED_DIE_OVF : Fld := ⟨248, 42, 4, .ro, .const, 0⟩
/-- MED_DIE_k_d.PFCNT [49:46], RO, reset 0 (10_media_health.md). -/
def MED_DIE_PFCNT : Fld := ⟨249, 46, 4, .ro, .const, 0⟩
/-- MED_DIE_k_d.WIN [57:50], RO, reset 0 (10_media_health.md). -/
def MED_DIE_WIN : Fld := ⟨250, 50, 8, .ro, .const, 0⟩
/-- FLM_CFG.MARGIN [5:0], PST, reset image (11_flume_links.md). -/
def FLM_CFG_MARGIN : Fld := ⟨251, 0, 6, .pst, .image, 0⟩
/-- FLM_CFG.LERR [15:8], PST, reset image (11_flume_links.md). -/
def FLM_CFG_LERR : Fld := ⟨252, 8, 8, .pst, .image, 0⟩
/-- FLM_CFG.RPLMAX [25:16], PST, reset image (11_flume_links.md). -/
def FLM_CFG_RPLMAX : Fld := ⟨253, 16, 10, .pst, .image, 0⟩
/-- FLM_CFG.RTNMAX [29:26], PST, reset image (11_flume_links.md). -/
def FLM_CFG_RTNMAX : Fld := ⟨254, 26, 4, .pst, .image, 0⟩
/-- FLM_LNK_k.STATE [2:0], RO, reset 0 (11_flume_links.md). -/
def FLM_LNK_STATE : Fld := ⟨255, 0, 3, .ro, .const, 0⟩
/-- FLM_LNK_k.PRESENT [3:3], RO, reset fuse (11_flume_links.md). -/
def FLM_LNK_PRESENT : Fld := ⟨256, 3, 1, .ro, .fuse, 0⟩
/-- FLM_LNK_k.FENCED [4:4], RO, reset 0 (11_flume_links.md). -/
def FLM_LNK_FENCED : Fld := ⟨257, 4, 1, .ro, .const, 0⟩
/-- FLM_LNK_k.SWAP0 [7:5], RO, reset 7 (11_flume_links.md). -/
def FLM_LNK_SWAP0 : Fld := ⟨258, 5, 3, .ro, .const, 7⟩
/-- FLM_LNK_k.SWAP1 [10:8], RO, reset 7 (11_flume_links.md). -/
def FLM_LNK_SWAP1 : Fld := ⟨259, 8, 3, .ro, .const, 7⟩
/-- FLM_LNK_k.RATE [12:11], RO, reset 0 (11_flume_links.md). -/
def FLM_LNK_RATE : Fld := ⟨260, 11, 2, .ro, .const, 0⟩
/-- FLM_LNK_k.EYEMIN [18:13], RO, reset 0 (11_flume_links.md). -/
def FLM_LNK_EYEMIN : Fld := ⟨261, 13, 6, .ro, .const, 0⟩
/-- FLM_LNK_k.ATT [20:19], RO, reset 0 (11_flume_links.md). -/
def FLM_LNK_ATT : Fld := ⟨262, 19, 2, .ro, .const, 0⟩
/-- FLM_LNK_ERR_k.CRC [23:0], RC, reset 0 (11_flume_links.md). -/
def FLM_LNK_ERR_CRC : Fld := ⟨263, 0, 24, .rc, .const, 0⟩
/-- FLM_LNK_ERR_k.REPLAY [47:24], RC, reset 0 (11_flume_links.md). -/
def FLM_LNK_ERR_REPLAY : Fld := ⟨264, 24, 24, .rc, .const, 0⟩
/-- FLM_LNK_ERR_k.RETRAIN [55:48], RC, reset 0 (11_flume_links.md). -/
def FLM_LNK_ERR_RETRAIN : Fld := ⟨265, 48, 8, .rc, .const, 0⟩
/-- FLM_LNK_CR_k.AVCMD [11:0], RO, reset 0 (11_flume_links.md). -/
def FLM_LNK_CR_AVCMD : Fld := ⟨266, 0, 12, .ro, .const, 0⟩
/-- FLM_LNK_CR_k.AVDAT [23:12], RO, reset 0 (11_flume_links.md). -/
def FLM_LNK_CR_AVDAT : Fld := ⟨267, 12, 12, .ro, .const, 0⟩
/-- FLM_LNK_CR_k.OUTCMD [35:24], RO, reset 0 (11_flume_links.md). -/
def FLM_LNK_CR_OUTCMD : Fld := ⟨268, 24, 12, .ro, .const, 0⟩
/-- FLM_LNK_CR_k.OUTDAT [47:36], RO, reset 0 (11_flume_links.md). -/
def FLM_LNK_CR_OUTDAT : Fld := ⟨269, 36, 12, .ro, .const, 0⟩
/-- FLM_TAP_k_d_l.PRE [5:0], PST, reset 0 (11_flume_links.md). -/
def FLM_TAP_PRE : Fld := ⟨270, 0, 6, .pst, .const, 0⟩
/-- FLM_TAP_k_d_l.MAIN [13:8], PST, reset 63 (11_flume_links.md). -/
def FLM_TAP_MAIN : Fld := ⟨271, 8, 6, .pst, .const, 63⟩
/-- FLM_TAP_k_d_l.POST [21:16], PST, reset 0 (11_flume_links.md). -/
def FLM_TAP_POST : Fld := ⟨272, 16, 6, .pst, .const, 0⟩
/-- FLM_TAP_k_d_l.EYE [29:24], RO, reset 0 (11_flume_links.md). -/
def FLM_TAP_EYE : Fld := ⟨273, 24, 6, .ro, .const, 0⟩
/-- FLM_TAP_k_d_l.BELOW [30:30], RO, reset 0 (11_flume_links.md). -/
def FLM_TAP_BELOW : Fld := ⟨274, 30, 1, .ro, .const, 0⟩
/-- FLM_PG_k.EN [0:0], PST, reset 0 (11_flume_links.md). -/
def FLM_PG_EN : Fld := ⟨275, 0, 1, .pst, .const, 0⟩
/-- FLM_PG_k.DIR [1:1], PST, reset 0 (11_flume_links.md). -/
def FLM_PG_DIR : Fld := ⟨276, 1, 1, .pst, .const, 0⟩
/-- FLM_PG_k.PAT [4:2], PST, reset 0 (11_flume_links.md). -/
def FLM_PG_PAT : Fld := ⟨277, 2, 3, .pst, .const, 0⟩
/-- FLM_PG_k.LANES [9:5], PST, reset 0 (11_flume_links.md). -/
def FLM_PG_LANES : Fld := ⟨278, 5, 5, .pst, .const, 0⟩
/-- FLM_PG_k.CLR [10:10], WO, reset 0 (11_flume_links.md). -/
def FLM_PG_CLR : Fld := ⟨279, 10, 1, .wo, .const, 0⟩
/-- FLM_UPAT_k.PATTERN [63:0], PST, reset 0 (11_flume_links.md). -/
def FLM_UPAT_PATTERN : Fld := ⟨280, 0, 64, .pst, .const, 0⟩
/-- FLM_INJ_k.LANE [2:0], PST, reset 0 (11_flume_links.md). -/
def FLM_INJ_LANE : Fld := ⟨281, 0, 3, .pst, .const, 0⟩
/-- FLM_INJ_k.MODE [3:3], PST, reset 0 (11_flume_links.md). -/
def FLM_INJ_MODE : Fld := ⟨282, 3, 1, .pst, .const, 0⟩
/-- FLM_INJ_k.BLEN [9:4], PST, reset 0 (11_flume_links.md). -/
def FLM_INJ_BLEN : Fld := ⟨283, 4, 6, .pst, .const, 0⟩
/-- FLM_INJ_k.GO [15:15], PST, reset 0 (11_flume_links.md). -/
def FLM_INJ_GO : Fld := ⟨284, 15, 1, .pst, .const, 0⟩
/-- FLM_INJ_k.COUNT [47:16], RC, reset 0 (11_flume_links.md). -/
def FLM_INJ_COUNT : Fld := ⟨285, 16, 32, .rc, .const, 0⟩
/-- FLM_PCNT_k_l.ERR [31:0], RC, reset 0 (11_flume_links.md). -/
def FLM_PCNT_ERR : Fld := ⟨286, 0, 32, .rc, .const, 0⟩
/-- FLM_PCNT_k_l.LOCK [32:32], RO, reset 0 (11_flume_links.md). -/
def FLM_PCNT_LOCK : Fld := ⟨287, 32, 1, .ro, .const, 0⟩
/-- FLM_PCNT_k_l.BITS [63:33], RC, reset 0 (11_flume_links.md). -/
def FLM_PCNT_BITS : Fld := ⟨288, 33, 31, .rc, .const, 0⟩
/-- COU_MAP.FENCED [15:0], RO, reset 0 (12_courier.md). -/
def COU_MAP_FENCED : Fld := ⟨289, 0, 16, .ro, .const, 0⟩
/-- COU_MAP.ACTIVE [20:16], RO, reset fuse (12_courier.md). -/
def COU_MAP_ACTIVE : Fld := ⟨290, 16, 5, .ro, .fuse, 0⟩
/-- COU_PART_n.BASE [17:0], IMG, reset image (12_courier.md). -/
def COU_PART_BASE : Fld := ⟨291, 0, 18, .img, .image, 0⟩
/-- COU_PART_n.COUNT [50:32], IMG, reset image (12_courier.md). -/
def COU_PART_COUNT : Fld := ⟨292, 32, 19, .img, .image, 0⟩
/-- COU_RQ_n.QUOTA [18:0], PST, reset image (12_courier.md). -/
def COU_RQ_QUOTA : Fld := ⟨293, 0, 19, .pst, .image, 0⟩
/-- COU_RQ_n.USED [50:32], RO, reset 0 (12_courier.md). -/
def COU_RQ_USED : Fld := ⟨294, 32, 19, .ro, .const, 0⟩
/-- COU_ROPEN.CTX [47:6], RW, reset 0 (12_courier.md). -/
def COU_ROPEN_CTX : Fld := ⟨295, 6, 42, .rw, .const, 0⟩
/-- COU_ROPEN.OP [49:48], RW, reset 0 (12_courier.md). -/
def COU_ROPEN_OP : Fld := ⟨296, 48, 2, .rw, .const, 0⟩
/-- COU_ROPEN.GO [63:63], WO, reset 0 (12_courier.md). -/
def COU_ROPEN_GO : Fld := ⟨297, 63, 1, .wo, .const, 0⟩
/-- COU_RSTAT.RING [17:0], RW, reset 0 (12_courier.md). -/
def COU_RSTAT_RING : Fld := ⟨298, 0, 18, .rw, .const, 0⟩
/-- COU_RSTAT.BUSY [18:18], RO, reset 0 (12_courier.md). -/
def COU_RSTAT_BUSY : Fld := ⟨299, 18, 1, .ro, .const, 0⟩
/-- COU_RSTAT.RESULT [22:19], RO, reset 0 (12_courier.md). -/
def COU_RSTAT_RESULT : Fld := ⟨300, 19, 4, .ro, .const, 0⟩
/-- COU_RSTAT.REFUSED [23:23], W1C, reset 0 (12_courier.md). -/
def COU_RSTAT_REFUSED : Fld := ⟨301, 23, 1, .w1c, .const, 0⟩
/-- COU_ENG_e.DESC [31:0], RC, reset 0 (12_courier.md). -/
def COU_ENG_DESC : Fld := ⟨302, 0, 32, .rc, .const, 0⟩
/-- COU_ENG_e.INPROG [38:32], RO, reset 0 (12_courier.md). -/
def COU_ENG_INPROG : Fld := ⟨303, 32, 7, .ro, .const, 0⟩
/-- COU_ENG_B_e.BYTES [47:0], RC, reset 0 (12_courier.md). -/
def COU_ENG_B_BYTES : Fld := ⟨304, 0, 48, .rc, .const, 0⟩
/-- COU_ENG_B_e.ERRS [63:48], RC, reset 0 (12_courier.md). -/
def COU_ENG_B_ERRS : Fld := ⟨305, 48, 16, .rc, .const, 0⟩
/-- QOS_CFG.AGE [7:0], PST, reset image (13_regulation.md). -/
def QOS_CFG_AGE : Fld := ⟨306, 0, 8, .pst, .image, 0⟩
/-- QOS_CFG.XPCT [14:8], RO, reset 40 (13_regulation.md). -/
def QOS_CFG_XPCT : Fld := ⟨307, 8, 7, .ro, .const, 40⟩
/-- QOS_CFG.LPCT [21:15], RO, reset 50 (13_regulation.md). -/
def QOS_CFG_LPCT : Fld := ⟨308, 15, 7, .ro, .const, 50⟩
/-- QOS_CFG.DEGR [22:22], RO, reset 0 (13_regulation.md). -/
def QOS_CFG_DEGR : Fld := ⟨309, 22, 1, .ro, .const, 0⟩
/-- QOS_HEAD_n.CEIL [1:0], PST, reset image (13_regulation.md). -/
def QOS_HEAD_CEIL : Fld := ⟨310, 0, 2, .pst, .image, 0⟩
/-- QOS_HEAD_n.RANK [5:2], PST, reset image (13_regulation.md). -/
def QOS_HEAD_RANK : Fld := ⟨311, 2, 4, .pst, .image, 0⟩
/-- QOS_HEAD_n.SCALED [6:6], RO, reset 0 (13_regulation.md). -/
def QOS_HEAD_SCALED : Fld := ⟨312, 6, 1, .ro, .const, 0⟩
/-- QOS_BUD_A_n_c.DRAM [14:0], RO, reset image (13_regulation.md). -/
def QOS_BUD_A_DRAM : Fld := ⟨313, 0, 15, .ro, .image, 0⟩
/-- QOS_BUD_A_n_c.MEDIA [23:15], PST, reset image (13_regulation.md). -/
def QOS_BUD_A_MEDIA : Fld := ⟨314, 15, 9, .pst, .image, 0⟩
/-- QOS_BUD_A_n_c.COU [38:24], RO, reset image (13_regulation.md). -/
def QOS_BUD_A_COU : Fld := ⟨315, 24, 15, .ro, .image, 0⟩
/-- QOS_BUD_A_n_c.CFG_DRAM [53:39], PST, reset image (13_regulation.md). -/
def QOS_BUD_A_CFG_DRAM : Fld := ⟨316, 39, 15, .pst, .image, 0⟩
/-- QOS_BUD_B_n_c.TRK [9:0], PST, reset image (13_regulation.md). -/
def QOS_BUD_B_TRK : Fld := ⟨317, 0, 10, .pst, .image, 0⟩
/-- QOS_BUD_B_n_c.WQ [17:10], PST, reset image (13_regulation.md). -/
def QOS_BUD_B_WQ : Fld := ⟨318, 10, 8, .pst, .image, 0⟩
/-- QOS_BUD_B_n_c.FC [34:18], PST, reset image (13_regulation.md). -/
def QOS_BUD_B_FC : Fld := ⟨319, 18, 17, .pst, .image, 0⟩
/-- QOS_BUD_B_n_c.CFG_COU [49:35], PST, reset image (13_regulation.md). -/
def QOS_BUD_B_CFG_COU : Fld := ⟨320, 35, 15, .pst, .image, 0⟩
/-- QOS_RES_A_r.CAP [15:0], RO, reset 0 (13_regulation.md). -/
def QOS_RES_A_CAP : Fld := ⟨321, 0, 16, .ro, .const, 0⟩
/-- QOS_RES_A_r.TOTAL [39:16], RO, reset 0 (13_regulation.md). -/
def QOS_RES_A_TOTAL : Fld := ⟨322, 16, 24, .ro, .const, 0⟩
/-- QOS_RES_A_r.SPENT [63:40], RO, reset 0 (13_regulation.md). -/
def QOS_RES_A_SPENT : Fld := ⟨323, 40, 24, .ro, .const, 0⟩
/-- QOS_RES_B_r.HELD [23:0], RO, reset 0 (13_regulation.md). -/
def QOS_RES_B_HELD : Fld := ⟨324, 0, 24, .ro, .const, 0⟩
/-- QOS_RES_B_r.POOL [47:24], RO, reset 0 (13_regulation.md). -/
def QOS_RES_B_POOL : Fld := ⟨325, 24, 24, .ro, .const, 0⟩
/-- QOS_DEM_n.DEM [31:0], RC, reset 0 (13_regulation.md). -/
def QOS_DEM_DEM : Fld := ⟨326, 0, 32, .rc, .const, 0⟩
/-- QOS_DEM_n.BORROW [63:32], RC, reset 0 (13_regulation.md). -/
def QOS_DEM_BORROW : Fld := ⟨327, 32, 32, .rc, .const, 0⟩
/-- HPT_QMAP.Q0 [2:0], IMG, reset image (14_host_ports.md). -/
def HPT_QMAP_Q0 : Fld := ⟨328, 0, 3, .img, .image, 0⟩
/-- HPT_QMAP.Q1 [5:3], IMG, reset image (14_host_ports.md). -/
def HPT_QMAP_Q1 : Fld := ⟨329, 3, 3, .img, .image, 0⟩
/-- HPT_QMAP.Q2 [8:6], IMG, reset image (14_host_ports.md). -/
def HPT_QMAP_Q2 : Fld := ⟨330, 6, 3, .img, .image, 0⟩
/-- HPT_QMAP.Q3 [11:9], IMG, reset image (14_host_ports.md). -/
def HPT_QMAP_Q3 : Fld := ⟨331, 9, 3, .img, .image, 0⟩
/-- HPT_QMAP.Q4 [14:12], IMG, reset image (14_host_ports.md). -/
def HPT_QMAP_Q4 : Fld := ⟨332, 12, 3, .img, .image, 0⟩
/-- HPT_QMAP.Q5 [17:15], IMG, reset image (14_host_ports.md). -/
def HPT_QMAP_Q5 : Fld := ⟨333, 15, 3, .img, .image, 0⟩
/-- HPT_QMAP.Q6 [20:18], IMG, reset image (14_host_ports.md). -/
def HPT_QMAP_Q6 : Fld := ⟨334, 18, 3, .img, .image, 0⟩
/-- HPT_QMAP.Q7 [23:21], IMG, reset image (14_host_ports.md). -/
def HPT_QMAP_Q7 : Fld := ⟨335, 21, 3, .img, .image, 0⟩
/-- HPT_QMAP.Q8 [26:24], IMG, reset image (14_host_ports.md). -/
def HPT_QMAP_Q8 : Fld := ⟨336, 24, 3, .img, .image, 0⟩
/-- HPT_QMAP.Q9 [29:27], IMG, reset image (14_host_ports.md). -/
def HPT_QMAP_Q9 : Fld := ⟨337, 27, 3, .img, .image, 0⟩
/-- HPT_QMAP.Q10 [32:30], IMG, reset image (14_host_ports.md). -/
def HPT_QMAP_Q10 : Fld := ⟨338, 30, 3, .img, .image, 0⟩
/-- HPT_QMAP.Q11 [35:33], IMG, reset image (14_host_ports.md). -/
def HPT_QMAP_Q11 : Fld := ⟨339, 33, 3, .img, .image, 0⟩
/-- HPT_QMAP.Q12 [38:36], IMG, reset image (14_host_ports.md). -/
def HPT_QMAP_Q12 : Fld := ⟨340, 36, 3, .img, .image, 0⟩
/-- HPT_QMAP.Q13 [41:39], IMG, reset image (14_host_ports.md). -/
def HPT_QMAP_Q13 : Fld := ⟨341, 39, 3, .img, .image, 0⟩
/-- HPT_QMAP.Q14 [44:42], IMG, reset image (14_host_ports.md). -/
def HPT_QMAP_Q14 : Fld := ⟨342, 42, 3, .img, .image, 0⟩
/-- HPT_QMAP.Q15 [47:45], IMG, reset image (14_host_ports.md). -/
def HPT_QMAP_Q15 : Fld := ⟨343, 45, 3, .img, .image, 0⟩
/-- HPT_HCFG_h.MAXRATE [1:0], IMG, reset image (14_host_ports.md). -/
def HPT_HCFG_MAXRATE : Fld := ⟨344, 0, 2, .img, .image, 0⟩
/-- HPT_HCFG_h.SRIS [2:2], IMG, reset image (14_host_ports.md). -/
def HPT_HCFG_SRIS : Fld := ⟨345, 2, 1, .img, .image, 0⟩
/-- HPT_HCFG_h.IDEREQ [3:3], IMG, reset image (14_host_ports.md). -/
def HPT_HCFG_IDEREQ : Fld := ⟨346, 3, 1, .img, .image, 0⟩
/-- HPT_HCFG_h.IDEMODE [4:4], IMG, reset image (14_host_ports.md). -/
def HPT_HCFG_IDEMODE : Fld := ⟨347, 4, 1, .img, .image, 0⟩
/-- HPT_HCFG_h.LOFLIT [5:5], IMG, reset image (14_host_ports.md). -/
def HPT_HCFG_LOFLIT : Fld := ⟨348, 5, 1, .img, .image, 0⟩
/-- HPT_LNK_h.STATE [2:0], RO, reset 0 (14_host_ports.md). -/
def HPT_LNK_STATE : Fld := ⟨349, 0, 3, .ro, .const, 0⟩
/-- HPT_LNK_h.RATE [4:3], RO, reset 0 (14_host_ports.md). -/
def HPT_LNK_RATE : Fld := ⟨350, 3, 2, .ro, .const, 0⟩
/-- HPT_LNK_h.WIDTH [6:5], RO, reset 0 (14_host_ports.md). -/
def HPT_LNK_WIDTH : Fld := ⟨351, 5, 2, .ro, .const, 0⟩
/-- HPT_LNK_h.LOFLIT [7:7], RO, reset 0 (14_host_ports.md). -/
def HPT_LNK_LOFLIT : Fld := ⟨352, 7, 1, .ro, .const, 0⟩
/-- HPT_LNK_h.IDE [9:8], RO, reset 0 (14_host_ports.md). -/
def HPT_LNK_IDE : Fld := ⟨353, 8, 2, .ro, .const, 0⟩
/-- HPT_LNK_h.FCAUSE [12:10], RO, reset 0 (14_host_ports.md). -/
def HPT_LNK_FCAUSE : Fld := ⟨354, 10, 3, .ro, .const, 0⟩
/-- HPT_LNK_h.VIRAL [13:13], RO, reset 0 (14_host_ports.md). -/
def HPT_LNK_VIRAL : Fld := ⟨355, 13, 1, .ro, .const, 0⟩
/-- HPT_ERR_h.FECFIX [23:0], RC, reset 0 (14_host_ports.md). -/
def HPT_ERR_FECFIX : Fld := ⟨356, 0, 24, .rc, .const, 0⟩
/-- HPT_ERR_h.REPLAY [47:24], RC, reset 0 (14_host_ports.md). -/
def HPT_ERR_REPLAY : Fld := ⟨357, 24, 24, .rc, .const, 0⟩
/-- HPT_ERR_h.RETRAIN [55:48], RC, reset 0 (14_host_ports.md). -/
def HPT_ERR_RETRAIN : Fld := ⟨358, 48, 8, .rc, .const, 0⟩
/-- HPT_ERR2_h.IDEFAIL [15:0], RC, reset 0 (14_host_ports.md). -/
def HPT_ERR2_IDEFAIL : Fld := ⟨359, 0, 16, .rc, .const, 0⟩
/-- HPT_ERR2_h.OUTVIEW [31:16], RC, reset 0 (14_host_ports.md). -/
def HPT_ERR2_OUTVIEW : Fld := ⟨360, 16, 16, .rc, .const, 0⟩
/-- HPT_ERR2_h.PROTO [47:32], RC, reset 0 (14_host_ports.md). -/
def HPT_ERR2_PROTO : Fld := ⟨361, 32, 16, .rc, .const, 0⟩
/-- HPT_PG_q.EN [0:0], PST, reset 0 (14_host_ports.md). -/
def HPT_PG_EN : Fld := ⟨362, 0, 1, .pst, .const, 0⟩
/-- HPT_PG_q.DIR [1:1], PST, reset 0 (14_host_ports.md). -/
def HPT_PG_DIR : Fld := ⟨363, 1, 1, .pst, .const, 0⟩
/-- HPT_PG_q.PAT [4:2], PST, reset 0 (14_host_ports.md). -/
def HPT_PG_PAT : Fld := ⟨364, 2, 3, .pst, .const, 0⟩
/-- HPT_PG_q.LANES [9:5], PST, reset 0 (14_host_ports.md). -/
def HPT_PG_LANES : Fld := ⟨365, 5, 5, .pst, .const, 0⟩
/-- HPT_PG_q.CLR [10:10], WO, reset 0 (14_host_ports.md). -/
def HPT_PG_CLR : Fld := ⟨366, 10, 1, .wo, .const, 0⟩
/-- HPT_UPAT_q.PATTERN [63:0], PST, reset 0 (14_host_ports.md). -/
def HPT_UPAT_PATTERN : Fld := ⟨367, 0, 64, .pst, .const, 0⟩
/-- HPT_INJ_q.LANE [2:0], PST, reset 0 (14_host_ports.md). -/
def HPT_INJ_LANE : Fld := ⟨368, 0, 3, .pst, .const, 0⟩
/-- HPT_INJ_q.MODE [3:3], PST, reset 0 (14_host_ports.md). -/
def HPT_INJ_MODE : Fld := ⟨369, 3, 1, .pst, .const, 0⟩
/-- HPT_INJ_q.BLEN [9:4], PST, reset 0 (14_host_ports.md). -/
def HPT_INJ_BLEN : Fld := ⟨370, 4, 6, .pst, .const, 0⟩
/-- HPT_INJ_q.GO [15:15], PST, reset 0 (14_host_ports.md). -/
def HPT_INJ_GO : Fld := ⟨371, 15, 1, .pst, .const, 0⟩
/-- HPT_INJ_q.COUNT [47:16], RC, reset 0 (14_host_ports.md). -/
def HPT_INJ_COUNT : Fld := ⟨372, 16, 32, .rc, .const, 0⟩
/-- HPT_PCNT_q_l.ERR [31:0], RC, reset 0 (14_host_ports.md). -/
def HPT_PCNT_ERR : Fld := ⟨373, 0, 32, .rc, .const, 0⟩
/-- HPT_PCNT_q_l.LOCK [32:32], RO, reset 0 (14_host_ports.md). -/
def HPT_PCNT_LOCK : Fld := ⟨374, 32, 1, .ro, .const, 0⟩
/-- HPT_PCNT_q_l.BITS [63:33], RC, reset 0 (14_host_ports.md). -/
def HPT_PCNT_BITS : Fld := ⟨375, 33, 31, .rc, .const, 0⟩
/-- TLR_PLAN.CAPM [15:0], RO, reset 0 (15_tailrace.md). -/
def TLR_PLAN_CAPM : Fld := ⟨376, 0, 16, .ro, .const, 0⟩
/-- TLR_PLAN.TMAX [28:16], RO, reset 0 (15_tailrace.md). -/
def TLR_PLAN_TMAX : Fld := ⟨377, 16, 13, .ro, .const, 0⟩
/-- TLR_PLAN.TFLUSH [41:29], RO, reset 0 (15_tailrace.md). -/
def TLR_PLAN_TFLUSH : Fld := ⟨378, 29, 13, .ro, .const, 0⟩
/-- TLR_PLAN.VABORT [51:42], RO, reset 0 (15_tailrace.md). -/
def TLR_PLAN_VABORT : Fld := ⟨379, 42, 10, .ro, .const, 0⟩
/-- TLR_PLAN.SHORT [52:52], RO, reset 0 (15_tailrace.md). -/
def TLR_PLAN_SHORT : Fld := ⟨380, 52, 1, .ro, .const, 0⟩
/-- TLR_PLAN.CAPPED [53:53], RO, reset 0 (15_tailrace.md). -/
def TLR_PLAN_CAPPED : Fld := ⟨381, 53, 1, .ro, .const, 0⟩
/-- TLR_STAT.ARMED [0:0], RO, reset 0 (15_tailrace.md). -/
def TLR_STAT_ARMED : Fld := ⟨382, 0, 1, .ro, .const, 0⟩
/-- TLR_STAT.ACTIVE [1:1], RO, reset 0 (15_tailrace.md). -/
def TLR_STAT_ACTIVE : Fld := ⟨383, 1, 1, .ro, .const, 0⟩
/-- TLR_STAT.CAUSE [3:2], RO, reset 0 (15_tailrace.md). -/
def TLR_STAT_CAUSE : Fld := ⟨384, 2, 2, .ro, .const, 0⟩
/-- TLR_STAT.STEP [6:4], RO, reset 0 (15_tailrace.md). -/
def TLR_STAT_STEP : Fld := ⟨385, 4, 3, .ro, .const, 0⟩
/-- TLR_STAT.GPFQ [7:7], RO, reset 0 (15_tailrace.md). -/
def TLR_STAT_GPFQ : Fld := ⟨386, 7, 1, .ro, .const, 0⟩
/-- TLR_STAT.RISK [8:8], RO, reset 0 (15_tailrace.md). -/
def TLR_STAT_RISK : Fld := ⟨387, 8, 1, .ro, .const, 0⟩
/-- TLR_STAT.BANKV [18:9], RO, reset 0 (15_tailrace.md). -/
def TLR_STAT_BANKV : Fld := ⟨388, 9, 10, .ro, .const, 0⟩
/-- TLR_LAST.RESULT [1:0], RO, reset 0 (15_tailrace.md). -/
def TLR_LAST_RESULT : Fld := ⟨389, 0, 2, .ro, .const, 0⟩
/-- TLR_LAST.CAUSE [3:2], RO, reset 0 (15_tailrace.md). -/
def TLR_LAST_CAUSE : Fld := ⟨390, 2, 2, .ro, .const, 0⟩
/-- TLR_LAST.TIME [16:4], RO, reset 0 (15_tailrace.md). -/
def TLR_LAST_TIME : Fld := ⟨391, 4, 13, .ro, .const, 0⟩
/-- TLR_LAST.BANKEND [26:17], RO, reset 0 (15_tailrace.md). -/
def TLR_LAST_BANKEND : Fld := ⟨392, 17, 10, .ro, .const, 0⟩
/-- TLR_CNT.GPF [31:0], RC, reset 0 (15_tailrace.md). -/
def TLR_CNT_GPF : Fld := ⟨393, 0, 32, .rc, .const, 0⟩
/-- TLR_CNT.DSC [63:32], RO, reset 0 (15_tailrace.md). -/
def TLR_CNT_DSC : Fld := ⟨394, 32, 32, .ro, .const, 0⟩
/-- PWR_CFG.RETRY [0:0], PST, reset fuse (16_headrace.md). -/
def PWR_CFG_RETRY : Fld := ⟨395, 0, 1, .pst, .fuse, 0⟩
/-- PWR_STAT.SEL [1:0], RO, reset 0 (16_headrace.md). -/
def PWR_STAT_SEL : Fld := ⟨396, 0, 2, .ro, .const, 0⟩
/-- PWR_STAT.PG [2:2], RO, reset 0 (16_headrace.md). -/
def PWR_STAT_PG : Fld := ⟨397, 2, 1, .ro, .const, 0⟩
/-- PWR_STAT.ILIM [3:3], RO, reset 0 (16_headrace.md). -/
def PWR_STAT_ILIM : Fld := ⟨398, 3, 1, .ro, .const, 0⟩
/-- PWR_STAT.LATCH [4:4], RO, reset 0 (16_headrace.md). -/
def PWR_STAT_LATCH : Fld := ⟨399, 4, 1, .ro, .const, 0⟩
/-- PWR_STAT.TRIES [6:5], RO, reset 0 (16_headrace.md). -/
def PWR_STAT_TRIES : Fld := ⟨400, 5, 2, .ro, .const, 0⟩
/-- PWR_STAT.A_WIN [7:7], RO, reset 0 (16_headrace.md). -/
def PWR_STAT_A_WIN : Fld := ⟨401, 7, 1, .ro, .const, 0⟩
/-- PWR_STAT.B_WIN [8:8], RO, reset 0 (16_headrace.md). -/
def PWR_STAT_B_WIN : Fld := ⟨402, 8, 1, .ro, .const, 0⟩
/-- PWR_STAT.A_STUCK [9:9], RO, reset 0 (16_headrace.md). -/
def PWR_STAT_A_STUCK : Fld := ⟨403, 9, 1, .ro, .const, 0⟩
/-- PWR_STAT.B_STUCK [10:10], RO, reset 0 (16_headrace.md). -/
def PWR_STAT_B_STUCK : Fld := ⟨404, 10, 1, .ro, .const, 0⟩
/-- PWR_STAT.OVHOLD [11:11], RO, reset 0 (16_headrace.md). -/
def PWR_STAT_OVHOLD : Fld := ⟨405, 11, 1, .ro, .const, 0⟩
/-- PWR_STAT.SEAT [13:12], RO, reset 0 (16_headrace.md). -/
def PWR_STAT_SEAT : Fld := ⟨406, 12, 2, .ro, .const, 0⟩
/-- PWR_MON.VA [9:0], RO, reset 0 (16_headrace.md). -/
def PWR_MON_VA : Fld := ⟨407, 0, 10, .ro, .const, 0⟩
/-- PWR_MON.VB [19:10], RO, reset 0 (16_headrace.md). -/
def PWR_MON_VB : Fld := ⟨408, 10, 10, .ro, .const, 0⟩
/-- PWR_MON.VBUS [29:20], RO, reset 0 (16_headrace.md). -/
def PWR_MON_VBUS : Fld := ⟨409, 20, 10, .ro, .const, 0⟩
/-- PWR_MON.IIN [39:30], RO, reset 0 (16_headrace.md). -/
def PWR_MON_IIN : Fld := ⟨410, 30, 10, .ro, .const, 0⟩
/-- PWR_CNT.CHGB [15:0], RC, reset 0 (16_headrace.md). -/
def PWR_CNT_CHGB : Fld := ⟨411, 0, 16, .rc, .const, 0⟩
/-- PWR_CNT.CHGA [31:16], RC, reset 0 (16_headrace.md). -/
def PWR_CNT_CHGA : Fld := ⟨412, 16, 16, .rc, .const, 0⟩
/-- PWR_CNT.ILIMS [47:32], RC, reset 0 (16_headrace.md). -/
def PWR_CNT_ILIMS : Fld := ⟨413, 32, 16, .rc, .const, 0⟩
/-- PWR_CNT.TRIPS [55:48], RC, reset 0 (16_headrace.md). -/
def PWR_CNT_TRIPS : Fld := ⟨414, 48, 8, .rc, .const, 0⟩
/-- PWR_BANK.STATE [1:0], RO, reset 0 (16_headrace.md). -/
def PWR_BANK_STATE : Fld := ⟨415, 0, 2, .ro, .const, 0⟩
/-- PWR_BANK.CTIME [17:2], RO, reset 0 (16_headrace.md). -/
def PWR_BANK_CTIME : Fld := ⟨416, 2, 16, .ro, .const, 0⟩
/-- PWR_LAST.CAUSE [2:0], RO, reset 0 (16_headrace.md). -/
def PWR_LAST_CAUSE : Fld := ⟨417, 0, 3, .ro, .const, 0⟩
/-- PWR_LAST.FEED [4:3], RO, reset 0 (16_headrace.md). -/
def PWR_LAST_FEED : Fld := ⟨418, 3, 2, .ro, .const, 0⟩
/-- PWR_LAST.VOUT [14:5], RO, reset 0 (16_headrace.md). -/
def PWR_LAST_VOUT : Fld := ⟨419, 5, 10, .ro, .const, 0⟩
/-- PWR_LAST.IPK [24:15], RO, reset 0 (16_headrace.md). -/
def PWR_LAST_IPK : Fld := ⟨420, 15, 10, .ro, .const, 0⟩
/-- MOD_STATE.STATE [2:0], RO, reset 0x1 (17_modes_startup.md). -/
def MOD_STATE_STATE : Fld := ⟨421, 0, 3, .ro, .const, 1⟩
/-- MOD_STATE.PREV [5:3], RO, reset 0 (17_modes_startup.md). -/
def MOD_STATE_PREV : Fld := ⟨422, 3, 3, .ro, .const, 0⟩
/-- MOD_STATE.PATH [7:6], RO, reset 0 (17_modes_startup.md). -/
def MOD_STATE_PATH : Fld := ⟨423, 6, 2, .ro, .const, 0⟩
/-- MOD_STATE.GRADE [9:8], RO, reset 0 (17_modes_startup.md). -/
def MOD_STATE_GRADE : Fld := ⟨424, 8, 2, .ro, .const, 0⟩
/-- MOD_STATE.CLEAN [10:10], RO, reset 0 (17_modes_startup.md). -/
def MOD_STATE_CLEAN : Fld := ⟨425, 10, 1, .ro, .const, 0⟩
/-- MOD_STATE.STFAIL [11:11], RO, reset 0 (17_modes_startup.md). -/
def MOD_STATE_STFAIL : Fld := ⟨426, 11, 1, .ro, .const, 0⟩
/-- MOD_STATE.DEG_FENCE [12:12], RO, reset 0 (17_modes_startup.md). -/
def MOD_STATE_DEG_FENCE : Fld := ⟨427, 12, 1, .ro, .const, 0⟩
/-- MOD_STATE.DEG_SUB [13:13], RO, reset 0 (17_modes_startup.md). -/
def MOD_STATE_DEG_SUB : Fld := ⟨428, 13, 1, .ro, .const, 0⟩
/-- MOD_STATE.DEG_SCALE [14:14], RO, reset 0 (17_modes_startup.md). -/
def MOD_STATE_DEG_SCALE : Fld := ⟨429, 14, 1, .ro, .const, 0⟩
/-- MOD_STATE.MCMD [15:15], RO, reset 0 (17_modes_startup.md). -/
def MOD_STATE_MCMD : Fld := ⟨430, 15, 1, .ro, .const, 0⟩
/-- MOD_STATE.STARTMS [31:16], RO, reset 0 (17_modes_startup.md). -/
def MOD_STATE_STARTMS : Fld := ⟨431, 16, 16, .ro, .const, 0⟩
/-- MOD_CTL.REQ [2:0], PST, reset 0 (17_modes_startup.md). -/
def MOD_CTL_REQ : Fld := ⟨432, 0, 3, .pst, .const, 0⟩
/-- MOD_CTL.BUSY [3:3], RO, reset 0 (17_modes_startup.md). -/
def MOD_CTL_BUSY : Fld := ⟨433, 3, 1, .ro, .const, 0⟩
/-- MOD_CTL.RESULT [6:4], RO, reset 0 (17_modes_startup.md). -/
def MOD_CTL_RESULT : Fld := ⟨434, 4, 3, .ro, .const, 0⟩
/-- MOD_CFG.WAKEEN [4:0], PST, reset image (17_modes_startup.md). -/
def MOD_CFG_WAKEEN : Fld := ⟨435, 0, 5, .pst, .image, 0⟩
/-- MOD_CFG.FEEDMASK [21:8], PST, reset image (17_modes_startup.md). -/
def MOD_CFG_FEEDMASK : Fld := ⟨436, 8, 14, .pst, .image, 0⟩
/-- MOD_CFG.L2WAIT [35:24], PST, reset image (17_modes_startup.md). -/
def MOD_CFG_L2WAIT : Fld := ⟨437, 24, 12, .pst, .image, 0⟩
/-- MOD_CFG.TWAKE [43:36], PST, reset image (17_modes_startup.md). -/
def MOD_CFG_TWAKE : Fld := ⟨438, 36, 8, .pst, .image, 0⟩
/-- MOD_CFG.HOSTREQ [59:44], PST, reset image (17_modes_startup.md). -/
def MOD_CFG_HOSTREQ : Fld := ⟨439, 44, 16, .pst, .image, 0⟩
/-- MOD_WTIMER.DELAY [31:0], PST, reset 0 (17_modes_startup.md). -/
def MOD_WTIMER_DELAY : Fld := ⟨440, 0, 32, .pst, .const, 0⟩
/-- MOD_PADREL.MEDIA [0:0], PST, reset 0 (17_modes_startup.md). -/
def MOD_PADREL_MEDIA : Fld := ⟨441, 0, 1, .pst, .const, 0⟩
/-- MOD_PADREL.SIDE [1:1], PST, reset 0 (17_modes_startup.md). -/
def MOD_PADREL_SIDE : Fld := ⟨442, 1, 1, .pst, .const, 0⟩
/-- MOD_PADREL.MHELD [2:2], RO, reset 0 (17_modes_startup.md). -/
def MOD_PADREL_MHELD : Fld := ⟨443, 2, 1, .ro, .const, 0⟩
/-- MOD_PADREL.SHELD [3:3], RO, reset 0 (17_modes_startup.md). -/
def MOD_PADREL_SHELD : Fld := ⟨444, 3, 1, .ro, .const, 0⟩
/-- MOD_WAKE.SRC [2:0], RO, reset 0 (17_modes_startup.md). -/
def MOD_WAKE_SRC : Fld := ⟨445, 0, 3, .ro, .const, 0⟩
/-- MOD_WAKE.HEAD [6:3], RO, reset 0 (17_modes_startup.md). -/
def MOD_WAKE_HEAD : Fld := ⟨446, 3, 4, .ro, .const, 0⟩
/-- MOD_WAKE.OUTCOME [8:7], RO, reset 0 (17_modes_startup.md). -/
def MOD_WAKE_OUTCOME : Fld := ⟨447, 7, 2, .ro, .const, 0⟩
/-- MOD_WAKE.ATTEMPTS [10:9], RO, reset 0 (17_modes_startup.md). -/
def MOD_WAKE_ATTEMPTS : Fld := ⟨448, 9, 2, .ro, .const, 0⟩
/-- MOD_WAKE.FSTEP [13:11], RO, reset 0 (17_modes_startup.md). -/
def MOD_WAKE_FSTEP : Fld := ⟨449, 11, 3, .ro, .const, 0⟩
/-- MOD_WAKE.CODE [21:14], RO, reset 0 (17_modes_startup.md). -/
def MOD_WAKE_CODE : Fld := ⟨450, 14, 8, .ro, .const, 0⟩
/-- MOD_WAKE.WAKEMS [37:22], RO, reset 0 (17_modes_startup.md). -/
def MOD_WAKE_WAKEMS : Fld := ⟨451, 22, 16, .ro, .const, 0⟩
/-- MOD_WAKE_T.TIME [47:0], RO, reset 0 (17_modes_startup.md). -/
def MOD_WAKE_T_TIME : Fld := ⟨452, 0, 48, .ro, .const, 0⟩
/-- MOD_CNT.STOPS [15:0], RC, reset 0 (17_modes_startup.md). -/
def MOD_CNT_STOPS : Fld := ⟨453, 0, 16, .rc, .const, 0⟩
/-- MOD_CNT.WAKES [31:16], RC, reset 0 (17_modes_startup.md). -/
def MOD_CNT_WAKES : Fld := ⟨454, 16, 16, .rc, .const, 0⟩
/-- MOD_CNT.WFAIL [47:32], RC, reset 0 (17_modes_startup.md). -/
def MOD_CNT_WFAIL : Fld := ⟨455, 32, 16, .rc, .const, 0⟩
/-- MOD_CNT.DEGR [63:48], RC, reset 0 (17_modes_startup.md). -/
def MOD_CNT_DEGR : Fld := ⟨456, 48, 16, .rc, .const, 0⟩
/-- PST_STAT.CUR [0:0], RO, reset 0 (18_firmware_images.md). -/
def PST_STAT_CUR : Fld := ⟨457, 0, 1, .ro, .const, 0⟩
/-- PST_STAT.STAGING [1:1], RO, reset 0 (18_firmware_images.md). -/
def PST_STAT_STAGING : Fld := ⟨458, 1, 1, .ro, .const, 0⟩
/-- PST_STAT.APPLYING [2:2], RO, reset 0 (18_firmware_images.md). -/
def PST_STAT_APPLYING : Fld := ⟨459, 2, 1, .ro, .const, 0⟩
/-- PST_STAT.CLERKS [6:3], RO, reset 0 (18_firmware_images.md). -/
def PST_STAT_CLERKS : Fld := ⟨460, 3, 4, .ro, .const, 0⟩
/-- PST_STAT.CLKRST [7:7], RO, reset 0 (18_firmware_images.md). -/
def PST_STAT_CLKRST : Fld := ⟨461, 7, 1, .ro, .const, 0⟩
/-- PST_STAT.RESULT [11:8], RO, reset 0 (18_firmware_images.md). -/
def PST_STAT_RESULT : Fld := ⟨462, 8, 4, .ro, .const, 0⟩
/-- PST_STAT.RESTARTS [31:16], RC, reset 0 (18_firmware_images.md). -/
def PST_STAT_RESTARTS : Fld := ⟨463, 16, 16, .rc, .const, 0⟩
/-- PST_STAT.FLOOR [63:32], RO, reset 0 (18_firmware_images.md). -/
def PST_STAT_FLOOR : Fld := ⟨464, 32, 32, .ro, .const, 0⟩
/-- PST_SLOT_A_s.VERSION [31:0], RO, reset 0 (18_firmware_images.md). -/
def PST_SLOT_A_VERSION : Fld := ⟨465, 0, 32, .ro, .const, 0⟩
/-- PST_SLOT_A_s.IFLOOR [63:32], RO, reset 0 (18_firmware_images.md). -/
def PST_SLOT_A_IFLOOR : Fld := ⟨466, 32, 32, .ro, .const, 0⟩
/-- PST_SLOT_B_s.SEQ [31:0], RO, reset 0 (18_firmware_images.md). -/
def PST_SLOT_B_SEQ : Fld := ⟨467, 0, 32, .ro, .const, 0⟩
/-- PST_SLOT_B_s.STATE [33:32], RO, reset 0 (18_firmware_images.md). -/
def PST_SLOT_B_STATE : Fld := ⟨468, 32, 2, .ro, .const, 0⟩
/-- PST_SLOT_B_s.KEYIDX [35:34], RO, reset 0 (18_firmware_images.md). -/
def PST_SLOT_B_KEYIDX : Fld := ⟨469, 34, 2, .ro, .const, 0⟩
/-- PST_SLOT_B_s.PAGES [47:36], RO, reset 0 (18_firmware_images.md). -/
def PST_SLOT_B_PAGES : Fld := ⟨470, 36, 12, .ro, .const, 0⟩
/-- PST_FW.PMVER [31:0], RO, reset 0 (18_firmware_images.md). -/
def PST_FW_PMVER : Fld := ⟨471, 0, 32, .ro, .const, 0⟩
/-- PST_FW.CLVER [63:32], RO, reset 0 (18_firmware_images.md). -/
def PST_FW_CLVER : Fld := ⟨472, 32, 32, .ro, .const, 0⟩
/-- PST_PROT.DROPS [23:0], RC, reset 0 (18_firmware_images.md). -/
def PST_PROT_DROPS : Fld := ⟨473, 0, 24, .rc, .const, 0⟩
/-- PST_PROT.LAST [47:24], RO, reset 0 (18_firmware_images.md). -/
def PST_PROT_LAST : Fld := ⟨474, 24, 24, .ro, .const, 0⟩
/-- PST_PROT.HEAD [51:48], RO, reset 0 (18_firmware_images.md). -/
def PST_PROT_HEAD : Fld := ⟨475, 48, 4, .ro, .const, 0⟩
/-- PST_PROT.CLERK [52:52], RO, reset 0 (18_firmware_images.md). -/
def PST_PROT_CLERK : Fld := ⟨476, 52, 1, .ro, .const, 0⟩
/-- PST_CTL.HOSTW [15:0], IMG, reset image (18_firmware_images.md). -/
def PST_CTL_HOSTW : Fld := ⟨477, 0, 16, .img, .image, 0⟩
/-- PST_CALLS.DONE [23:0], RC, reset 0 (18_firmware_images.md). -/
def PST_CALLS_DONE : Fld := ⟨478, 0, 24, .rc, .const, 0⟩
/-- PST_CALLS.REFUSED [47:24], RC, reset 0 (18_firmware_images.md). -/
def PST_CALLS_REFUSED : Fld := ⟨479, 24, 24, .rc, .const, 0⟩
/-- PST_CALLS.EVDROP [63:48], RC, reset 0 (18_firmware_images.md). -/
def PST_CALLS_EVDROP : Fld := ⟨480, 48, 16, .rc, .const, 0⟩
/-- FLT_CFG.AUTOACK [1:0], PST, reset image (19_faults_events.md). -/
def FLT_CFG_AUTOACK : Fld := ⟨481, 0, 2, .pst, .image, 0⟩
/-- FLT_LAST.UNIT [15:0], RO, reset 0 (19_faults_events.md). -/
def FLT_LAST_UNIT : Fld := ⟨482, 0, 16, .ro, .const, 0⟩
/-- FLT_LAST.CLASS [18:16], RO, reset 0 (19_faults_events.md). -/
def FLT_LAST_CLASS : Fld := ⟨483, 16, 3, .ro, .const, 0⟩
/-- FLT_LAST.ESC [19:19], RO, reset 0 (19_faults_events.md). -/
def FLT_LAST_ESC : Fld := ⟨484, 19, 1, .ro, .const, 0⟩
/-- FLT_LAST.SRC [29:20], RO, reset 0 (19_faults_events.md). -/
def FLT_LAST_SRC : Fld := ⟨485, 20, 10, .ro, .const, 0⟩
/-- FLT_CNT.CORR [19:0], RC, reset 0 (19_faults_events.md). -/
def FLT_CNT_CORR : Fld := ⟨486, 0, 20, .rc, .const, 0⟩
/-- FLT_CNT.CONT [35:20], RC, reset 0 (19_faults_events.md). -/
def FLT_CNT_CONT : Fld := ⟨487, 20, 16, .rc, .const, 0⟩
/-- FLT_CNT.FATAL [43:36], RC, reset 0 (19_faults_events.md). -/
def FLT_CNT_FATAL : Fld := ⟨488, 36, 8, .rc, .const, 0⟩
/-- FLT_CNT.MGT [55:44], RC, reset 0 (19_faults_events.md). -/
def FLT_CNT_MGT : Fld := ⟨489, 44, 12, .rc, .const, 0⟩
/-- FLT_CNT.QDROP [63:56], RC, reset 0 (19_faults_events.md). -/
def FLT_CNT_QDROP : Fld := ⟨490, 56, 8, .rc, .const, 0⟩
/-- FLT_DLS.COUNT [12:0], RO, reset 0 (19_faults_events.md). -/
def FLT_DLS_COUNT : Fld := ⟨491, 0, 13, .ro, .const, 0⟩
/-- FLT_DLS.OVF [13:13], RO, reset 0 (19_faults_events.md). -/
def FLT_DLS_OVF : Fld := ⟨492, 13, 1, .ro, .const, 0⟩
/-- FLT_DLS.LOST [45:14], RO, reset 0 (19_faults_events.md). -/
def FLT_DLS_LOST : Fld := ⟨493, 14, 32, .ro, .const, 0⟩
/-- FLT_DLS_OVT.TIME [63:0], RO, reset 0 (19_faults_events.md). -/
def FLT_DLS_OVT_TIME : Fld := ⟨494, 0, 64, .ro, .const, 0⟩
/-- FLT_BKT_CFG_k.DEPTH [15:0], PST, reset image (19_faults_events.md). -/
def FLT_BKT_CFG_DEPTH : Fld := ⟨495, 0, 16, .pst, .image, 0⟩
/-- FLT_BKT_CFG_k.DRAIN [39:16], PST, reset image (19_faults_events.md). -/
def FLT_BKT_CFG_DRAIN : Fld := ⟨496, 16, 24, .pst, .image, 0⟩
/-- FLT_U_k_i.CORR [0:0], PST, reset 0 (19_faults_events.md). -/
def FLT_U_CORR : Fld := ⟨497, 0, 1, .pst, .const, 0⟩
/-- FLT_U_k_i.CONT [1:1], PST, reset 0 (19_faults_events.md). -/
def FLT_U_CONT : Fld := ⟨498, 1, 1, .pst, .const, 0⟩
/-- FLT_U_k_i.FATAL [2:2], PST, reset 0 (19_faults_events.md). -/
def FLT_U_FATAL : Fld := ⟨499, 2, 1, .pst, .const, 0⟩
/-- FLT_U_k_i.FENCED [3:3], RO, reset 0 (19_faults_events.md). -/
def FLT_U_FENCED : Fld := ⟨500, 3, 1, .ro, .const, 0⟩
/-- FLT_U_k_i.ESC [4:4], RO, reset 0 (19_faults_events.md). -/
def FLT_U_ESC : Fld := ⟨501, 4, 1, .ro, .const, 0⟩
/-- FLT_U_k_i.NCORR [23:8], RC, reset 0 (19_faults_events.md). -/
def FLT_U_NCORR : Fld := ⟨502, 8, 16, .rc, .const, 0⟩
/-- FLT_U_k_i.NCONT [31:24], RC, reset 0 (19_faults_events.md). -/
def FLT_U_NCONT : Fld := ⟨503, 24, 8, .rc, .const, 0⟩
/-- FLT_U_k_i.NFATAL [35:32], RO, reset 0 (19_faults_events.md). -/
def FLT_U_NFATAL : Fld := ⟨504, 32, 4, .ro, .const, 0⟩
/-- FLT_BKT_LVL_i.LEVEL [15:0], RO, reset 0 (19_faults_events.md). -/
def FLT_BKT_LVL_LEVEL : Fld := ⟨505, 0, 16, .ro, .const, 0⟩
/-- FLT_BKT_LVL_i.OVF [23:16], RC, reset 0 (19_faults_events.md). -/
def FLT_BKT_LVL_OVF : Fld := ⟨506, 16, 8, .rc, .const, 0⟩
/-- EVT_CNT.RAISED [31:0], RC, reset 0 (19_faults_events.md). -/
def EVT_CNT_RAISED : Fld := ⟨507, 0, 32, .rc, .const, 0⟩
/-- EVT_CNT.LOGOVF [47:32], RC, reset 0 (19_faults_events.md). -/
def EVT_CNT_LOGOVF : Fld := ⟨508, 32, 16, .rc, .const, 0⟩
/-- EVT_CNT.CLKDROP [63:48], RC, reset 0 (19_faults_events.md). -/
def EVT_CNT_CLKDROP : Fld := ⟨509, 48, 16, .rc, .const, 0⟩
/-- EVT_PEND_i.PEND [63:0], W1C, reset 0 (19_faults_events.md). -/
def EVT_PEND_PEND : Fld := ⟨510, 0, 64, .w1c, .const, 0⟩
/-- EVT_ROUTE_s.HEADS [15:0], PST, reset image (19_faults_events.md). -/
def EVT_ROUTE_HEADS : Fld := ⟨511, 0, 16, .pst, .image, 0⟩
/-- EVT_ROUTE_s.VEC [22:16], PST, reset image (19_faults_events.md). -/
def EVT_ROUTE_VEC : Fld := ⟨512, 16, 7, .pst, .image, 0⟩
/-- EVT_ROUTE_s.LOG [25:24], PST, reset image (19_faults_events.md). -/
def EVT_ROUTE_LOG : Fld := ⟨513, 24, 2, .pst, .image, 0⟩
/-- EVT_ROUTE_s.LOGEN [26:26], PST, reset image (19_faults_events.md). -/
def EVT_ROUTE_LOGEN : Fld := ⟨514, 26, 1, .pst, .image, 0⟩
/-- EVT_ROUTE_s.CLERK [27:27], PST, reset image (19_faults_events.md). -/
def EVT_ROUTE_CLERK : Fld := ⟨515, 27, 1, .pst, .image, 0⟩
/-- LOG_STAT.BUSY [0:0], RO, reset 0 (20_logbook.md). -/
def LOG_STAT_BUSY : Fld := ⟨516, 0, 1, .ro, .const, 0⟩
/-- LOG_STAT.WP [1:1], RO, reset 0 (20_logbook.md). -/
def LOG_STAT_WP : Fld := ⟨517, 1, 1, .ro, .const, 0⟩
/-- LOG_STAT.ENERGY [2:2], RO, reset 0 (20_logbook.md). -/
def LOG_STAT_ENERGY : Fld := ⟨518, 2, 1, .ro, .const, 0⟩
/-- LOG_STAT.LASTRES [5:3], RO, reset 0 (20_logbook.md). -/
def LOG_STAT_LASTRES : Fld := ⟨519, 3, 3, .ro, .const, 0⟩
/-- LOG_STAT.PUACT [7:6], RO, reset 0 (20_logbook.md). -/
def LOG_STAT_PUACT : Fld := ⟨520, 6, 2, .ro, .const, 0⟩
/-- LOG_STAT.PUPART [10:8], RO, reset 0 (20_logbook.md). -/
def LOG_STAT_PUPART : Fld := ⟨521, 8, 3, .ro, .const, 0⟩
/-- LOG_STAT.PUPAGE [23:11], RO, reset 0 (20_logbook.md). -/
def LOG_STAT_PUPAGE : Fld := ⟨522, 11, 13, .ro, .const, 0⟩
/-- LOG_PART_p.BASE [12:0], RO, reset fuse (20_logbook.md). -/
def LOG_PART_BASE : Fld := ⟨523, 0, 13, .ro, .fuse, 0⟩
/-- LOG_PART_p.PAGES [25:13], RO, reset fuse (20_logbook.md). -/
def LOG_PART_PAGES : Fld := ⟨524, 13, 13, .ro, .fuse, 0⟩
/-- LOG_PART_p.DATA [38:26], RO, reset fuse (20_logbook.md). -/
def LOG_PART_DATA : Fld := ⟨525, 26, 13, .ro, .fuse, 0⟩
/-- LOG_PART_p.FREE [45:39], RO, reset 0 (20_logbook.md). -/
def LOG_PART_FREE : Fld := ⟨526, 39, 7, .ro, .const, 0⟩
/-- LOG_PART_p.RETIRED [52:46], RO, reset 0 (20_logbook.md). -/
def LOG_PART_RETIRED : Fld := ⟨527, 46, 7, .ro, .const, 0⟩
/-- LOG_PART_p.PROT [53:53], RO, reset fuse (20_logbook.md). -/
def LOG_PART_PROT : Fld := ⟨528, 53, 1, .ro, .fuse, 0⟩
/-- LOG_PART_W_p.WMAX [19:0], RO, reset 0 (20_logbook.md). -/
def LOG_PART_W_WMAX : Fld := ⟨529, 0, 20, .ro, .const, 0⟩
/-- LOG_PART_W_p.WMIN [39:20], RO, reset 0 (20_logbook.md). -/
def LOG_PART_W_WMIN : Fld := ⟨530, 20, 20, .ro, .const, 0⟩
/-- LOG_PART_W_p.WRITES [63:40], RC, reset 0 (20_logbook.md). -/
def LOG_PART_W_WRITES : Fld := ⟨531, 40, 24, .rc, .const, 0⟩
/-- LOG_CNT.WRITES [31:0], RC, reset 0 (20_logbook.md). -/
def LOG_CNT_WRITES : Fld := ⟨532, 0, 32, .rc, .const, 0⟩
/-- LOG_CNT.BUSY [47:32], RC, reset 0 (20_logbook.md). -/
def LOG_CNT_BUSY : Fld := ⟨533, 32, 16, .rc, .const, 0⟩
/-- LOG_CNT.VFAIL [63:48], RC, reset 0 (20_logbook.md). -/
def LOG_CNT_VFAIL : Fld := ⟨534, 48, 16, .rc, .const, 0⟩
/-- CNT_CTL.FREEZE [0:0], PST, reset 0 (21_counters.md). -/
def CNT_CTL_FREEZE : Fld := ⟨535, 0, 1, .pst, .const, 0⟩
/-- CNT_CTL.SNAP [1:1], PST, reset 0 (21_counters.md). -/
def CNT_CTL_SNAP : Fld := ⟨536, 1, 1, .pst, .const, 0⟩
/-- CNT_CTL.CLR [2:2], PST, reset 0 (21_counters.md). -/
def CNT_CTL_CLR : Fld := ⟨537, 2, 1, .pst, .const, 0⟩
/-- CNT_CTL.SNAPSEQ [47:16], RO, reset 0 (21_counters.md). -/
def CNT_CTL_SNAPSEQ : Fld := ⟨538, 16, 32, .ro, .const, 0⟩
/-- CNT_UREN.UREN [15:0], PST, reset image (21_counters.md). -/
def CNT_UREN_UREN : Fld := ⟨539, 0, 16, .pst, .image, 0⟩
/-- CNT_RING_A.BASE [47:6], PST, reset 0 (21_counters.md). -/
def CNT_RING_A_BASE : Fld := ⟨540, 6, 42, .pst, .const, 0⟩
/-- CNT_RING_A.HEAD [51:48], PST, reset 0 (21_counters.md). -/
def CNT_RING_A_HEAD : Fld := ⟨541, 48, 4, .pst, .const, 0⟩
/-- CNT_RING_A.LOGSZ [56:52], PST, reset 0 (21_counters.md). -/
def CNT_RING_A_LOGSZ : Fld := ⟨542, 52, 5, .pst, .const, 0⟩
/-- CNT_RING_B.PERIOD [19:0], PST, reset 0 (21_counters.md). -/
def CNT_RING_B_PERIOD : Fld := ⟨543, 0, 20, .pst, .const, 0⟩
/-- CNT_RING_B.EN [20:20], PST, reset 0 (21_counters.md). -/
def CNT_RING_B_EN : Fld := ⟨544, 20, 1, .pst, .const, 0⟩
/-- CNT_RING_B.ERR [23:21], RO, reset 0 (21_counters.md). -/
def CNT_RING_B_ERR : Fld := ⟨545, 21, 3, .ro, .const, 0⟩
/-- CNT_RING_B.DROPS [55:24], RC, reset 0 (21_counters.md). -/
def CNT_RING_B_DROPS : Fld := ⟨546, 24, 32, .rc, .const, 0⟩
/-- CNT_RING_C.PROD [31:0], RO, reset 0 (21_counters.md). -/
def CNT_RING_C_PROD : Fld := ⟨547, 0, 32, .ro, .const, 0⟩
/-- CNT_RING_C.CONS [63:32], RW, reset 0 (21_counters.md). -/
def CNT_RING_C_CONS : Fld := ⟨548, 32, 32, .rw, .const, 0⟩
/-- CNT_SNAPTS.TIME [63:0], RO, reset 0 (21_counters.md). -/
def CNT_SNAPTS_TIME : Fld := ⟨549, 0, 64, .ro, .const, 0⟩
/-- CNT_SAT_j.SAT [63:0], W1C, reset 0 (21_counters.md). -/
def CNT_SAT_SAT : Fld := ⟨550, 0, 64, .w1c, .const, 0⟩
/-- CNT_SEL_i.EVENT [11:0], PST, reset 0 (21_counters.md). -/
def CNT_SEL_EVENT : Fld := ⟨551, 0, 12, .pst, .const, 0⟩
/-- CNT_SEL_i.HFILT [27:12], PST, reset 0xFFFF (21_counters.md). -/
def CNT_SEL_HFILT : Fld := ⟨552, 12, 16, .pst, .const, 65535⟩
/-- CNT_SEL_i.CFILT [32:28], PST, reset 0x1F (21_counters.md). -/
def CNT_SEL_CFILT : Fld := ⟨553, 28, 5, .pst, .const, 31⟩
/-- CNT_SEL_i.UNIT [37:33], PST, reset 0x1F (21_counters.md). -/
def CNT_SEL_UNIT : Fld := ⟨554, 33, 5, .pst, .const, 31⟩
/-- CNT_SEL_i.PUBLIC [38:38], PST, reset 0 (21_counters.md). -/
def CNT_SEL_PUBLIC : Fld := ⟨555, 38, 1, .pst, .const, 0⟩
/-- CNT_SEL_i.EN [39:39], PST, reset 0 (21_counters.md). -/
def CNT_SEL_EN : Fld := ⟨556, 39, 1, .pst, .const, 0⟩
/-- CNT_VAL_i.VALUE [47:0], RO, reset 0 (21_counters.md). -/
def CNT_VAL_VALUE : Fld := ⟨557, 0, 48, .ro, .const, 0⟩
/-- CNT_SNAP_i.VALUE [47:0], RO, reset 0 (21_counters.md). -/
def CNT_SNAP_VALUE : Fld := ⟨558, 0, 48, .ro, .const, 0⟩
/-- MGT_SMB.ADDR [6:0], IMG, reset image (22_management.md). -/
def MGT_SMB_ADDR : Fld := ⟨559, 0, 7, .img, .image, 0⟩
/-- MGT_SMB.SPEED [9:8], RO, reset 0 (22_management.md). -/
def MGT_SMB_SPEED : Fld := ⟨560, 8, 2, .ro, .const, 0⟩
/-- MGT_MCTP.EID [7:0], IMG, reset image (22_management.md). -/
def MGT_MCTP_EID : Fld := ⟨561, 0, 8, .img, .image, 0⟩
/-- MGT_MCTP.AEID [15:8], RO, reset 0 (22_management.md). -/
def MGT_MCTP_AEID : Fld := ⟨562, 8, 8, .ro, .const, 0⟩
/-- MGT_MCTP.SESS [36:32], RO, reset 0 (22_management.md). -/
def MGT_MCTP_SESS : Fld := ⟨563, 32, 5, .ro, .const, 0⟩
/-- MGT_DMA.USER [1:0], RO, reset 0 (22_management.md). -/
def MGT_DMA_USER : Fld := ⟨564, 0, 2, .ro, .const, 0⟩
/-- MGT_DMA.HEAD [5:2], RO, reset 0 (22_management.md). -/
def MGT_DMA_HEAD : Fld := ⟨565, 2, 4, .ro, .const, 0⟩
/-- MGT_ERR.SMBERR [15:0], RC, reset 0 (22_management.md). -/
def MGT_ERR_SMBERR : Fld := ⟨566, 0, 16, .rc, .const, 0⟩
/-- MGT_ERR.MCTPERR [31:16], RC, reset 0 (22_management.md). -/
def MGT_ERR_MCTPERR : Fld := ⟨567, 16, 16, .rc, .const, 0⟩
/-- MGT_ERR.SMBREJ [47:32], RC, reset 0 (22_management.md). -/
def MGT_ERR_SMBREJ : Fld := ⟨568, 32, 16, .rc, .const, 0⟩
/-- MGT_ERR.SPDMERR [63:48], RC, reset 0 (22_management.md). -/
def MGT_ERR_SPDMERR : Fld := ⟨569, 48, 16, .rc, .const, 0⟩

/-- Registers 0 to 19 of the window, in the order of the chapters. -/
def regDefs0 : List RegDef := [
  ⟨"CAP_UNITS", 0x807000, 64, false, [],
    [ CAP_UNITS_PART, CAP_UNITS_STEP_MAJ, CAP_UNITS_STEP_MIN, CAP_UNITS_HEADS, CAP_UNITS_DRAM_CH, CAP_UNITS_MED_STK, CAP_UNITS_FLM_LNK, CAP_UNITS_COU_ENG, CAP_UNITS_HOME_SL, CAP_UNITS_MIL_ENG, CAP_UNITS_PERSIST, CAP_UNITS_DRIFT]⟩,
  ⟨"CAP_SPACE", 0x807008, 64, false, [],
    [ CAP_SPACE_COMMIT_EXT, CAP_SPACE_ELASTIC_EXT, CAP_SPACE_LIMIT_EXT]⟩,
  ⟨"CAP_RGN_A", 0x808000, 64, false, [(32, 256)],
    [ CAP_RGN_A_VALID, CAP_RGN_A_TYPE, CAP_RGN_A_COHER, CAP_RGN_A_CLASS, CAP_RGN_A_TIER, CAP_RGN_A_OPAQUE, CAP_RGN_A_ELASTIC, CAP_RGN_A_KEYDOM, CAP_RGN_A_ELEM, CAP_RGN_A_KEEP, CAP_RGN_A_HEADS]⟩,
  ⟨"CAP_RGN_B", 0x808008, 64, false, [(32, 256)],
    [ CAP_RGN_B_BASE_EXT, CAP_RGN_B_SIZE_EXT]⟩,
  ⟨"CAP_RGN_C", 0x808010, 64, false, [(32, 256)],
    [ CAP_RGN_C_DCR, CAP_RGN_C_HIST_ANY]⟩,
  ⟨"HOM_CFG", 0x810000, 64, false, [],
    [ HOM_CFG_HASH, HOM_CFG_HOLD, HOM_CFG_BITO, HOM_CFG_DEAD_N]⟩,
  ⟨"HOM_SLMAP", 0x810008, 64, false, [],
    [ HOM_SLMAP_SUB, HOM_SLMAP_REBUILD, HOM_SLMAP_FENCED]⟩,
  ⟨"HOM_HEAD", 0x810100, 64, false, [(8, 16)],
    [ HOM_HEAD_TO_RUN, HOM_HEAD_DEAD, HOM_HEAD_TO_TOTAL, HOM_HEAD_CONFLICT]⟩,
  ⟨"HOM_SL", 0x811000, 64, false, [(256, 17)],
    [ HOM_SL_SF_OCC, HOM_SL_TRK, HOM_SL_EVT_TRK, HOM_SL_ACTIVE, HOM_SL_FENCED, HOM_SL_LOGICAL]⟩,
  ⟨"HOM_SL_EVC", 0x811008, 64, false, [(256, 17)],
    [ HOM_SL_EVC_EVICT]⟩,
  ⟨"FCA_CFG", 0x820000, 64, false, [],
    [ FCA_CFG_LOCKW, FCA_CFG_PFD, FCA_CFG_PFEN, FCA_CFG_PDMAX]⟩,
  ⟨"FCA_MOP_ADDR", 0x820100, 64, true, [],
    [ FCA_MOP_ADDR_LINE]⟩,
  ⟨"FCA_MOP_CTL", 0x820108, 32, true, [],
    [ FCA_MOP_CTL_LINES, FCA_MOP_CTL_OP, FCA_MOP_CTL_GO]⟩,
  ⟨"FCA_MOP_STAT", 0x820110, 64, true, [],
    [ FCA_MOP_STAT_BUSY, FCA_MOP_STAT_RESULT, FCA_MOP_STAT_REFUSED, FCA_MOP_STAT_DONE, FCA_MOP_STAT_SKIP]⟩,
  ⟨"FCA_LOCKQ", 0x820200, 64, false, [(8, 16)],
    [ FCA_LOCKQ_QUOTA, FCA_LOCKQ_USED]⟩,
  ⟨"FCA_SL", 0x821000, 64, false, [(256, 17)],
    [ FCA_SL_VALID, FCA_SL_DIRTY, FCA_SL_LOCKED, FCA_SL_BYPASS]⟩,
  ⟨"FCA_SLP", 0x821008, 64, false, [(256, 17)],
    [ FCA_SLP_PDIRTY, FCA_SLP_STREAMS]⟩,
  ⟨"FCA_PERR", 0x821010, 64, false, [(256, 17)],
    [ FCA_PERR_FIXED, FCA_PERR_LAST_SET, FCA_PERR_LAST_WAY, FCA_PERR_LAST_TAG]⟩,
  ⟨"MIL_CMP_MAP", 0x830000, 64, false, [],
    [ MIL_CMP_MAP_SUB, MIL_CMP_MAP_FENCED, MIL_CMP_MAP_ACTIVE]⟩,
  ⟨"MIL_CMP_ENG", 0x830100, 64, false, [(16, 17)],
    [ MIL_CMP_ENG_COMP, MIL_CMP_ENG_DECOMP]⟩]

/-- Registers 20 to 39 of the window, in the order of the chapters. -/
def regDefs1 : List RegDef := [
  ⟨"MIL_CMP_ERR", 0x830108, 64, false, [(16, 17)],
    [ MIL_CMP_ERR_CHECK, MIL_CMP_ERR_BADSTR]⟩,
  ⟨"MIL_CMP_HIST", 0x830300, 64, false, [(8, 16)],
    [ MIL_CMP_HIST_SHEETS]⟩,
  ⟨"MIL_CMP_RPK", 0x830380, 64, false, [],
    [ MIL_CMP_RPK_GROW, MIL_CMP_RPK_SHRINK]⟩,
  ⟨"MIL_SEAL_MAP", 0x831000, 64, false, [],
    [ MIL_SEAL_MAP_SUB, MIL_SEAL_MAP_FENCED, MIL_SEAL_MAP_ACTIVE]⟩,
  ⟨"MIL_SEAL_ENG", 0x831100, 64, false, [(16, 17)],
    [ MIL_SEAL_ENG_SEAL, MIL_SEAL_ENG_OPEN]⟩,
  ⟨"MIL_SEAL_ERR", 0x831108, 64, false, [(16, 17)],
    [ MIL_SEAL_ERR_CHECK, MIL_SEAL_ERR_UNCONF]⟩,
  ⟨"MIL_HALT_A", 0x831300, 64, false, [],
    [ MIL_HALT_A_CAUSE, MIL_HALT_A_CONFIRMED, MIL_HALT_A_FLUSHED, MIL_HALT_A_SHEET, MIL_HALT_A_KEYDOM, MIL_HALT_A_ENG1, MIL_HALT_A_ENG2, MIL_HALT_A_MASTER, MIL_HALT_A_SLICE]⟩,
  ⟨"MIL_HALT_B", 0x831308, 64, false, [],
    [ MIL_HALT_B_PAGE, MIL_HALT_B_GEN, MIL_HALT_B_TIER]⟩,
  ⟨"MIL_KD", 0x834000, 32, false, [(4, 4096)],
    [ MIL_KD_STATE, MIL_KD_PERSIST, MIL_KD_OPAQUE, MIL_KD_OWNER, MIL_KD_COU, MIL_KD_TIER, MIL_KD_SCRUB, MIL_KD_CLKDBG, MIL_KD_JTAG]⟩,
  ⟨"CAP_CLIM", 0x807010, 64, false, [],
    [ CAP_CLIM_CLIMIT, CAP_CLIM_PLIMIT]⟩,
  ⟨"CAP_CHG", 0x807018, 64, false, [],
    [ CAP_CHG_HEADROOM]⟩,
  ⟨"CAP_GPOOL", 0x807020, 64, false, [],
    [ CAP_GPOOL_NPOOL, CAP_GPOOL_LEVEL]⟩,
  ⟨"CAP_RES", 0x807028, 64, false, [],
    [ CAP_RES_TOTAL, CAP_RES_REMAIN]⟩,
  ⟨"CAP_WM", 0x807030, 64, false, [],
    [ CAP_WM_LOW, CAP_WM_CRIT, CAP_WM_HYST, CAP_WM_RELP, CAP_WM_RELMAX]⟩,
  ⟨"CAP_AUD", 0x807038, 64, false, [],
    [ CAP_AUD_RESULT, CAP_AUD_BUSY, CAP_AUD_KIND, CAP_AUD_SEQ]⟩,
  ⟨"CAP_PAR", 0x807100, 64, false, [(64, 2), (8, 7)],
    [ CAP_PAR_COUNT]⟩,
  ⟨"CAP_EQ", 0x807200, 64, false, [(16, 16)],
    [ CAP_EQ_QUOTA, CAP_EQ_RSHARE]⟩,
  ⟨"CAP_EU", 0x807208, 64, false, [(16, 16)],
    [ CAP_EU_USE, CAP_EU_OVER, CAP_EU_REFUSING, CAP_EU_RESUSED]⟩,
  ⟨"CAP_ED", 0x807300, 64, false, [(8, 16)],
    [ CAP_ED_REFUSED, CAP_ED_RELREQ]⟩,
  ⟨"TIE_CFG", 0x840000, 64, false, [],
    [ TIE_CFG_SAMPLE, TIE_CFG_EPOCH, TIE_CFG_PROMO, TIE_CFG_DEMO, TIE_CFG_MIGMAX]⟩]

/-- Registers 40 to 59 of the window, in the order of the chapters. -/
def regDefs2 : List RegDef := [
  ⟨"TIE_DWM", 0x840008, 64, false, [],
    [ TIE_DWM_START, TIE_DWM_STOP, TIE_DWM_MIGRES]⟩,
  ⟨"TIE_PIN", 0x840010, 64, false, [],
    [ TIE_PIN_LIMIT, TIE_PIN_USED]⟩,
  ⟨"TIE_STAT", 0x840018, 64, false, [],
    [ TIE_STAT_PROMO, TIE_STAT_DEMOT]⟩,
  ⟨"TIE_STAT2", 0x840020, 64, false, [],
    [ TIE_STAT2_ABORT, TIE_STAT2_QDROP, TIE_STAT2_INFLIGHT, TIE_STAT2_DEMOTH]⟩,
  ⟨"DRM_CFG", 0x850000, 64, false, [],
    [ DRM_CFG_WQ_HIGH, DRM_CFG_WQ_LOW, DRM_CFG_NR_THRESH, DRM_CFG_CE_ROW, DRM_CFG_MARGIN]⟩,
  ⟨"DRM_RTS", 0x850008, 64, false, [],
    [ DRM_RTS_PERIOD, DRM_RTS_PAUSE, DRM_RTS_NEXT]⟩,
  ⟨"DRM_PPR", 0x850010, 64, false, [],
    [ DRM_PPR_PENDING, DRM_PPR_APPLIED, DRM_PPR_UNREP]⟩,
  ⟨"DRM_CH", 0x850100, 64, false, [(64, 16)],
    [ DRM_CH_RDQ, DRM_CH_WRQ, DRM_CH_DRAIN, DRM_CH_FENCED, DRM_CH_PRESENT, DRM_CH_RTF0, DRM_CH_RTF1]⟩,
  ⟨"DRM_CH_NR", 0x850108, 64, false, [(64, 16)],
    [ DRM_CH_NR_NREF, DRM_CH_NR_FWD]⟩,
  ⟨"DRM_CH_RT", 0x850110, 64, false, [(64, 16)],
    [ DRM_CH_RT_DONE, DRM_CH_RT_MARG0, DRM_CH_RT_MARG1, DRM_CH_RT_FAILS, DRM_CH_RT_SKIPS]⟩,
  ⟨"DRM_CH_ECC", 0x850118, 64, false, [(64, 16)],
    [ DRM_CH_ECC_CE, DRM_CH_ECC_UE, DRM_CH_ECC_MARKED]⟩,
  ⟨"DRM_UE", 0x850120, 64, false, [(64, 16)],
    [ DRM_UE_VALID, DRM_UE_SUBCH, DRM_UE_RANK, DRM_UE_BG, DRM_UE_BANK, DRM_UE_ROW, DRM_UE_COL, DRM_UE_SRC]⟩,
  ⟨"MED_CFG", 0x860000, 64, false, [],
    [ MED_CFG_PADTO, MED_CFG_RCLPAR]⟩,
  ⟨"MED_STG", 0x860008, 64, false, [],
    [ MED_STG_SIZE, MED_STG_SHARE, MED_STG_USED, MED_STG_WAITS]⟩,
  ⟨"MED_RCL", 0x860010, 64, false, [],
    [ MED_RCL_START, MED_RCL_STOP, MED_RCL_MINSTALE]⟩,
  ⟨"MED_RCL2", 0x860018, 64, false, [],
    [ MED_RCL2_FLOOR]⟩,
  ⟨"MED_AGE", 0x860020, 64, false, [],
    [ MED_AGE_NOW, MED_AGE_REFRESH]⟩,
  ⟨"MED_WEAR", 0x860028, 64, false, [],
    [ MED_WEAR_RETIRE, MED_WEAR_SPREAD]⟩,
  ⟨"MED_STK", 0x860100, 64, false, [(64, 16)],
    [ MED_STK_EMPTY, MED_STK_SPARE, MED_STK_PRESENT, MED_STK_FENCED]⟩,
  ⟨"MED_STK_SEG", 0x860108, 64, false, [(64, 16)],
    [ MED_STK_SEG_CLOSED, MED_STK_SEG_RETIRED, MED_STK_SEG_RCL]⟩]

/-- Registers 60 to 79 of the window, in the order of the chapters. -/
def regDefs3 : List RegDef := [
  ⟨"MED_STK_PRG", 0x860110, 64, false, [(64, 16)],
    [ MED_STK_PRG_NEWP, MED_STK_PRG_RELP]⟩,
  ⟨"MED_STK_PAD", 0x860118, 64, false, [(64, 16)],
    [ MED_STK_PAD_PAD, MED_STK_PAD_PFAIL, MED_STK_PAD_REFR]⟩,
  ⟨"MED_STK_WEAR", 0x860120, 64, false, [(64, 16)],
    [ MED_STK_WEAR_WMIN, MED_STK_WEAR_WMAX]⟩,
  ⟨"MED_DRIFT", 0x861000, 64, false, [(8, 8)],
    [ MED_DRIFT_UPTO, MED_DRIFT_OFS]⟩,
  ⟨"MED_HLTH", 0x861040, 64, false, [],
    [ MED_HLTH_STEP, MED_HLTH_CBITS, MED_HLTH_ERSTEP, MED_HLTH_DIEUE, MED_HLTH_OVFMAX, MED_HLTH_PFMAX]⟩,
  ⟨"MED_RBD", 0x861048, 64, false, [],
    [ MED_RBD_RATE, MED_RBD_PAR]⟩,
  ⟨"MED_PLAN", 0x861050, 64, false, [],
    [ MED_PLAN_SRC, MED_PLAN_NOGRADE, MED_PLAN_LOWERED, MED_PLAN_ADV, MED_PLAN_AGESTAR, MED_PLAN_WDIE, MED_PLAN_WSTK, MED_PLAN_SAMPLE, MED_PLAN_GUARD]⟩,
  ⟨"MED_HSTK", 0x861100, 64, false, [(16, 16)],
    [ MED_HSTK_FAILED, MED_HSTK_REBUILD, MED_HSTK_RBDIE, MED_HSTK_DONOR, MED_HSTK_RBLEFT, MED_HSTK_ERQ]⟩,
  ⟨"MED_HSTK2", 0x861108, 64, false, [(16, 16)],
    [ MED_HSTK2_RECON, MED_HSTK2_ERDROP, MED_HSTK2_POISON]⟩,
  ⟨"MED_DIE", 0x862000, 64, false, [(512, 16), (8, 33)],
    [ MED_DIE_TRIM, MED_DIE_STATE, MED_DIE_LADDER, MED_DIE_RECON, MED_DIE_OVF, MED_DIE_PFCNT, MED_DIE_WIN]⟩,
  ⟨"FLM_CFG", 0x870000, 64, false, [],
    [ FLM_CFG_MARGIN, FLM_CFG_LERR, FLM_CFG_RPLMAX, FLM_CFG_RTNMAX]⟩,
  ⟨"FLM_LNK", 0x870100, 64, false, [(64, 16)],
    [ FLM_LNK_STATE, FLM_LNK_PRESENT, FLM_LNK_FENCED, FLM_LNK_SWAP0, FLM_LNK_SWAP1, FLM_LNK_RATE, FLM_LNK_EYEMIN, FLM_LNK_ATT]⟩,
  ⟨"FLM_LNK_ERR", 0x870108, 64, false, [(64, 16)],
    [ FLM_LNK_ERR_CRC, FLM_LNK_ERR_REPLAY, FLM_LNK_ERR_RETRAIN]⟩,
  ⟨"FLM_LNK_CR", 0x870110, 64, false, [(64, 16)],
    [ FLM_LNK_CR_AVCMD, FLM_LNK_CR_AVDAT, FLM_LNK_CR_OUTCMD, FLM_LNK_CR_OUTDAT]⟩,
  ⟨"FLM_TAP", 0x871000, 64, false, [(128, 16), (64, 2), (8, 5)],
    [ FLM_TAP_PRE, FLM_TAP_MAIN, FLM_TAP_POST, FLM_TAP_EYE, FLM_TAP_BELOW]⟩,
  ⟨"FLM_PG", 0x872000, 32, false, [(256, 16)],
    [ FLM_PG_EN, FLM_PG_DIR, FLM_PG_PAT, FLM_PG_LANES, FLM_PG_CLR]⟩,
  ⟨"FLM_UPAT", 0x872008, 64, false, [(256, 16)],
    [ FLM_UPAT_PATTERN]⟩,
  ⟨"FLM_INJ", 0x872010, 64, false, [(256, 16)],
    [ FLM_INJ_LANE, FLM_INJ_MODE, FLM_INJ_BLEN, FLM_INJ_GO, FLM_INJ_COUNT]⟩,
  ⟨"FLM_PCNT", 0x872020, 64, false, [(256, 16), (8, 5)],
    [ FLM_PCNT_ERR, FLM_PCNT_LOCK, FLM_PCNT_BITS]⟩,
  ⟨"COU_MAP", 0x880000, 64, false, [],
    [ COU_MAP_FENCED, COU_MAP_ACTIVE]⟩]

/-- Registers 80 to 99 of the window, in the order of the chapters. -/
def regDefs4 : List RegDef := [
  ⟨"COU_PART", 0x880100, 64, false, [(16, 16)],
    [ COU_PART_BASE, COU_PART_COUNT]⟩,
  ⟨"COU_RQ", 0x880108, 64, false, [(16, 16)],
    [ COU_RQ_QUOTA, COU_RQ_USED]⟩,
  ⟨"COU_ROPEN", 0x880200, 64, true, [],
    [ COU_ROPEN_CTX, COU_ROPEN_OP, COU_ROPEN_GO]⟩,
  ⟨"COU_RSTAT", 0x880208, 64, true, [],
    [ COU_RSTAT_RING, COU_RSTAT_BUSY, COU_RSTAT_RESULT, COU_RSTAT_REFUSED]⟩,
  ⟨"COU_ENG", 0x881000, 64, false, [(16, 16)],
    [ COU_ENG_DESC, COU_ENG_INPROG]⟩,
  ⟨"COU_ENG_B", 0x881008, 64, false, [(16, 16)],
    [ COU_ENG_B_BYTES, COU_ENG_B_ERRS]⟩,
  ⟨"QOS_CFG", 0x890000, 64, false, [],
    [ QOS_CFG_AGE, QOS_CFG_XPCT, QOS_CFG_LPCT, QOS_CFG_DEGR]⟩,
  ⟨"QOS_HEAD", 0x890040, 64, false, [(8, 16)],
    [ QOS_HEAD_CEIL, QOS_HEAD_RANK, QOS_HEAD_SCALED]⟩,
  ⟨"QOS_BUD_A", 0x891000, 64, false, [(64, 16), (16, 4)],
    [ QOS_BUD_A_DRAM, QOS_BUD_A_MEDIA, QOS_BUD_A_COU, QOS_BUD_A_CFG_DRAM]⟩,
  ⟨"QOS_BUD_B", 0x891008, 64, false, [(64, 16), (16, 4)],
    [ QOS_BUD_B_TRK, QOS_BUD_B_WQ, QOS_BUD_B_FC, QOS_BUD_B_CFG_COU]⟩,
  ⟨"QOS_RES_A", 0x892000, 64, false, [(16, 3)],
    [ QOS_RES_A_CAP, QOS_RES_A_TOTAL, QOS_RES_A_SPENT]⟩,
  ⟨"QOS_RES_B", 0x892008, 64, false, [(16, 3)],
    [ QOS_RES_B_HELD, QOS_RES_B_POOL]⟩,
  ⟨"QOS_DEM", 0x893000, 64, false, [(8, 16)],
    [ QOS_DEM_DEM, QOS_DEM_BORROW]⟩,
  ⟨"HPT_QMAP", 0x8a0000, 64, false, [],
    [ HPT_QMAP_Q0, HPT_QMAP_Q1, HPT_QMAP_Q2, HPT_QMAP_Q3, HPT_QMAP_Q4, HPT_QMAP_Q5, HPT_QMAP_Q6, HPT_QMAP_Q7, HPT_QMAP_Q8, HPT_QMAP_Q9, HPT_QMAP_Q10, HPT_QMAP_Q11, HPT_QMAP_Q12, HPT_QMAP_Q13, HPT_QMAP_Q14, HPT_QMAP_Q15]⟩,
  ⟨"HPT_HCFG", 0x8a0100, 64, false, [(64, 16)],
    [ HPT_HCFG_MAXRATE, HPT_HCFG_SRIS, HPT_HCFG_IDEREQ, HPT_HCFG_IDEMODE, HPT_HCFG_LOFLIT]⟩,
  ⟨"HPT_LNK", 0x8a0108, 64, false, [(64, 16)],
    [ HPT_LNK_STATE, HPT_LNK_RATE, HPT_LNK_WIDTH, HPT_LNK_LOFLIT, HPT_LNK_IDE, HPT_LNK_FCAUSE, HPT_LNK_VIRAL]⟩,
  ⟨"HPT_ERR", 0x8a0110, 64, false, [(64, 16)],
    [ HPT_ERR_FECFIX, HPT_ERR_REPLAY, HPT_ERR_RETRAIN]⟩,
  ⟨"HPT_ERR2", 0x8a0118, 64, false, [(64, 16)],
    [ HPT_ERR2_IDEFAIL, HPT_ERR2_OUTVIEW, HPT_ERR2_PROTO]⟩,
  ⟨"HPT_PG", 0x8a2000, 32, false, [(256, 16)],
    [ HPT_PG_EN, HPT_PG_DIR, HPT_PG_PAT, HPT_PG_LANES, HPT_PG_CLR]⟩,
  ⟨"HPT_UPAT", 0x8a2008, 64, false, [(256, 16)],
    [ HPT_UPAT_PATTERN]⟩]

/-- Registers 100 to 119 of the window, in the order of the chapters. -/
def regDefs5 : List RegDef := [
  ⟨"HPT_INJ", 0x8a2010, 64, false, [(256, 16)],
    [ HPT_INJ_LANE, HPT_INJ_MODE, HPT_INJ_BLEN, HPT_INJ_GO, HPT_INJ_COUNT]⟩,
  ⟨"HPT_PCNT", 0x8a2020, 64, false, [(256, 16), (8, 4)],
    [ HPT_PCNT_ERR, HPT_PCNT_LOCK, HPT_PCNT_BITS]⟩,
  ⟨"TLR_PLAN", 0x8b0000, 64, false, [],
    [ TLR_PLAN_CAPM, TLR_PLAN_TMAX, TLR_PLAN_TFLUSH, TLR_PLAN_VABORT, TLR_PLAN_SHORT, TLR_PLAN_CAPPED]⟩,
  ⟨"TLR_STAT", 0x8b0008, 64, false, [],
    [ TLR_STAT_ARMED, TLR_STAT_ACTIVE, TLR_STAT_CAUSE, TLR_STAT_STEP, TLR_STAT_GPFQ, TLR_STAT_RISK, TLR_STAT_BANKV]⟩,
  ⟨"TLR_LAST", 0x8b0010, 64, false, [],
    [ TLR_LAST_RESULT, TLR_LAST_CAUSE, TLR_LAST_TIME, TLR_LAST_BANKEND]⟩,
  ⟨"TLR_CNT", 0x8b0018, 64, false, [],
    [ TLR_CNT_GPF, TLR_CNT_DSC]⟩,
  ⟨"PWR_CFG", 0x8c0000, 32, false, [],
    [ PWR_CFG_RETRY]⟩,
  ⟨"PWR_STAT", 0x8c0008, 64, false, [],
    [ PWR_STAT_SEL, PWR_STAT_PG, PWR_STAT_ILIM, PWR_STAT_LATCH, PWR_STAT_TRIES, PWR_STAT_A_WIN, PWR_STAT_B_WIN, PWR_STAT_A_STUCK, PWR_STAT_B_STUCK, PWR_STAT_OVHOLD, PWR_STAT_SEAT]⟩,
  ⟨"PWR_MON", 0x8c0010, 64, false, [],
    [ PWR_MON_VA, PWR_MON_VB, PWR_MON_VBUS, PWR_MON_IIN]⟩,
  ⟨"PWR_CNT", 0x8c0018, 64, false, [],
    [ PWR_CNT_CHGB, PWR_CNT_CHGA, PWR_CNT_ILIMS, PWR_CNT_TRIPS]⟩,
  ⟨"PWR_BANK", 0x8c0020, 64, false, [],
    [ PWR_BANK_STATE, PWR_BANK_CTIME]⟩,
  ⟨"PWR_LAST", 0x8c0028, 64, false, [],
    [ PWR_LAST_CAUSE, PWR_LAST_FEED, PWR_LAST_VOUT, PWR_LAST_IPK]⟩,
  ⟨"MOD_STATE", 0x8d0000, 64, false, [],
    [ MOD_STATE_STATE, MOD_STATE_PREV, MOD_STATE_PATH, MOD_STATE_GRADE, MOD_STATE_CLEAN, MOD_STATE_STFAIL, MOD_STATE_DEG_FENCE, MOD_STATE_DEG_SUB, MOD_STATE_DEG_SCALE, MOD_STATE_MCMD, MOD_STATE_STARTMS]⟩,
  ⟨"MOD_CTL", 0x8d0008, 32, false, [],
    [ MOD_CTL_REQ, MOD_CTL_BUSY, MOD_CTL_RESULT]⟩,
  ⟨"MOD_CFG", 0x8d0010, 64, false, [],
    [ MOD_CFG_WAKEEN, MOD_CFG_FEEDMASK, MOD_CFG_L2WAIT, MOD_CFG_TWAKE, MOD_CFG_HOSTREQ]⟩,
  ⟨"MOD_WTIMER", 0x8d0018, 64, false, [],
    [ MOD_WTIMER_DELAY]⟩,
  ⟨"MOD_PADREL", 0x8d0020, 32, false, [],
    [ MOD_PADREL_MEDIA, MOD_PADREL_SIDE, MOD_PADREL_MHELD, MOD_PADREL_SHELD]⟩,
  ⟨"MOD_WAKE", 0x8d0028, 64, false, [],
    [ MOD_WAKE_SRC, MOD_WAKE_HEAD, MOD_WAKE_OUTCOME, MOD_WAKE_ATTEMPTS, MOD_WAKE_FSTEP, MOD_WAKE_CODE, MOD_WAKE_WAKEMS]⟩,
  ⟨"MOD_WAKE_T", 0x8d0030, 64, false, [],
    [ MOD_WAKE_T_TIME]⟩,
  ⟨"MOD_CNT", 0x8d0038, 64, false, [],
    [ MOD_CNT_STOPS, MOD_CNT_WAKES, MOD_CNT_WFAIL, MOD_CNT_DEGR]⟩]

/-- Registers 120 to 139 of the window, in the order of the chapters. -/
def regDefs6 : List RegDef := [
  ⟨"PST_STAT", 0x8e0000, 64, false, [],
    [ PST_STAT_CUR, PST_STAT_STAGING, PST_STAT_APPLYING, PST_STAT_CLERKS, PST_STAT_CLKRST, PST_STAT_RESULT, PST_STAT_RESTARTS, PST_STAT_FLOOR]⟩,
  ⟨"PST_SLOT_A", 0x8e0010, 64, false, [(16, 2)],
    [ PST_SLOT_A_VERSION, PST_SLOT_A_IFLOOR]⟩,
  ⟨"PST_SLOT_B", 0x8e0018, 64, false, [(16, 2)],
    [ PST_SLOT_B_SEQ, PST_SLOT_B_STATE, PST_SLOT_B_KEYIDX, PST_SLOT_B_PAGES]⟩,
  ⟨"PST_FW", 0x8e0030, 64, false, [],
    [ PST_FW_PMVER, PST_FW_CLVER]⟩,
  ⟨"PST_PROT", 0x8e0038, 64, false, [],
    [ PST_PROT_DROPS, PST_PROT_LAST, PST_PROT_HEAD, PST_PROT_CLERK]⟩,
  ⟨"PST_CTL", 0x8e0040, 32, false, [],
    [ PST_CTL_HOSTW]⟩,
  ⟨"PST_CALLS", 0x8e0048, 64, false, [],
    [ PST_CALLS_DONE, PST_CALLS_REFUSED, PST_CALLS_EVDROP]⟩,
  ⟨"FLT_CFG", 0x8f0000, 64, false, [],
    [ FLT_CFG_AUTOACK]⟩,
  ⟨"FLT_LAST", 0x8f0008, 64, false, [],
    [ FLT_LAST_UNIT, FLT_LAST_CLASS, FLT_LAST_ESC, FLT_LAST_SRC]⟩,
  ⟨"FLT_CNT", 0x8f0010, 64, false, [],
    [ FLT_CNT_CORR, FLT_CNT_CONT, FLT_CNT_FATAL, FLT_CNT_MGT, FLT_CNT_QDROP]⟩,
  ⟨"FLT_DLS", 0x8f0018, 64, false, [],
    [ FLT_DLS_COUNT, FLT_DLS_OVF, FLT_DLS_LOST]⟩,
  ⟨"FLT_DLS_OVT", 0x8f0020, 64, false, [],
    [ FLT_DLS_OVT_TIME]⟩,
  ⟨"FLT_BKT_CFG", 0x8f0040, 64, false, [(8, 3)],
    [ FLT_BKT_CFG_DEPTH, FLT_BKT_CFG_DRAIN]⟩,
  ⟨"FLT_U", 0x8f0900, 64, false, [(256, 10), (8, 32)],
    [ FLT_U_CORR, FLT_U_CONT, FLT_U_FATAL, FLT_U_FENCED, FLT_U_ESC, FLT_U_NCORR, FLT_U_NCONT, FLT_U_NFATAL]⟩,
  ⟨"FLT_BKT_LVL", 0x8f2000, 32, false, [(4, 609)],
    [ FLT_BKT_LVL_LEVEL, FLT_BKT_LVL_OVF]⟩,
  ⟨"EVT_CNT", 0x8f8000, 64, false, [],
    [ EVT_CNT_RAISED, EVT_CNT_LOGOVF, EVT_CNT_CLKDROP]⟩,
  ⟨"EVT_PEND", 0x8f8100, 64, false, [(8, 16)],
    [ EVT_PEND_PEND]⟩,
  ⟨"EVT_ROUTE", 0x8fa000, 64, false, [(8, 1024)],
    [ EVT_ROUTE_HEADS, EVT_ROUTE_VEC, EVT_ROUTE_LOG, EVT_ROUTE_LOGEN, EVT_ROUTE_CLERK]⟩,
  ⟨"LOG_STAT", 0x900000, 64, false, [],
    [ LOG_STAT_BUSY, LOG_STAT_WP, LOG_STAT_ENERGY, LOG_STAT_LASTRES, LOG_STAT_PUACT, LOG_STAT_PUPART, LOG_STAT_PUPAGE]⟩,
  ⟨"LOG_PART", 0x900100, 64, false, [(16, 8)],
    [ LOG_PART_BASE, LOG_PART_PAGES, LOG_PART_DATA, LOG_PART_FREE, LOG_PART_RETIRED, LOG_PART_PROT]⟩]

/-- Registers 140 to 155 of the window, in the order of the chapters. -/
def regDefs7 : List RegDef := [
  ⟨"LOG_PART_W", 0x900108, 64, false, [(16, 8)],
    [ LOG_PART_W_WMAX, LOG_PART_W_WMIN, LOG_PART_W_WRITES]⟩,
  ⟨"LOG_CNT", 0x900200, 64, false, [],
    [ LOG_CNT_WRITES, LOG_CNT_BUSY, LOG_CNT_VFAIL]⟩,
  ⟨"CNT_CTL", 0x910000, 64, false, [],
    [ CNT_CTL_FREEZE, CNT_CTL_SNAP, CNT_CTL_CLR, CNT_CTL_SNAPSEQ]⟩,
  ⟨"CNT_UREN", 0x910008, 32, false, [],
    [ CNT_UREN_UREN]⟩,
  ⟨"CNT_RING_A", 0x910010, 64, false, [],
    [ CNT_RING_A_BASE, CNT_RING_A_HEAD, CNT_RING_A_LOGSZ]⟩,
  ⟨"CNT_RING_B", 0x910018, 64, false, [],
    [ CNT_RING_B_PERIOD, CNT_RING_B_EN, CNT_RING_B_ERR, CNT_RING_B_DROPS]⟩,
  ⟨"CNT_RING_C", 0x910020, 64, false, [],
    [ CNT_RING_C_PROD, CNT_RING_C_CONS]⟩,
  ⟨"CNT_SNAPTS", 0x910028, 64, false, [],
    [ CNT_SNAPTS_TIME]⟩,
  ⟨"CNT_SAT", 0x910040, 64, false, [(8, 4)],
    [ CNT_SAT_SAT]⟩,
  ⟨"CNT_SEL", 0x911000, 64, false, [(8, 256)],
    [ CNT_SEL_EVENT, CNT_SEL_HFILT, CNT_SEL_CFILT, CNT_SEL_UNIT, CNT_SEL_PUBLIC, CNT_SEL_EN]⟩,
  ⟨"CNT_VAL", 0x912000, 64, false, [(8, 256)],
    [ CNT_VAL_VALUE]⟩,
  ⟨"CNT_SNAP", 0x913000, 64, false, [(8, 256)],
    [ CNT_SNAP_VALUE]⟩,
  ⟨"MGT_SMB", 0x920000, 32, false, [],
    [ MGT_SMB_ADDR, MGT_SMB_SPEED]⟩,
  ⟨"MGT_MCTP", 0x920008, 64, false, [],
    [ MGT_MCTP_EID, MGT_MCTP_AEID, MGT_MCTP_SESS]⟩,
  ⟨"MGT_DMA", 0x920010, 64, false, [],
    [ MGT_DMA_USER, MGT_DMA_HEAD]⟩,
  ⟨"MGT_ERR", 0x920018, 64, false, [],
    [ MGT_ERR_SMBERR, MGT_ERR_MCTPERR, MGT_ERR_SMBREJ, MGT_ERR_SPDMERR]⟩]

/-- Every register of the window (R488). -/
def regDefs : List RegDef :=
  regDefs0 ++ regDefs1 ++ regDefs2 ++ regDefs3 ++ regDefs4 ++ regDefs5 ++ regDefs6 ++ regDefs7

end Sys2Proof.Machine
end

