-- ==== Sys2Proof/Machine/State.lean ====
section
/-! DEFINITION. The state of the block as plain data: every register field, buffer, queue, counter, mode and pin the
spec gives the module, the queue of waiting commands, and the state after reset. INVENTORY.md lists each piece with its
rule. -/
namespace Sys2Proof.Machine
/-- A 16-bit set of heads, bit h for head h (R44). -/
abbrev Heads := BitVec 16

/-- The three parts of the family (R5). -/
inductive Part where
  | c960f | c960d | c480f
  deriving DecidableEq, Repr

/-- The service classes (R44). -/
inductive Cls where
  | express | priority | standard | bulk
  deriving DecidableEq, Repr

/-- The back-invalidate snoops the home sends (R80, R82). -/
inductive Snp where
  | inv | data | cur
  deriving DecidableEq, Repr

/-- The back-invalidate responses (R82). -/
inductive Rsp where
  | i | s | e
  deriving DecidableEq, Repr

/-- The data-less responses of the home (R85). -/
inductive Ndr where
  | cmp | cmpS | cmpE | conflictAck
  deriving DecidableEq, Repr

/-- The return codes the rules name for mailbox commands (chapter 22 and the rules that refuse). -/
inductive Ret where
  | success | background | invalidInput | unsupported | internal | retry | busy | invalidSecurity | writeProtected
  | dataTransferOutOfOrder | transferInProgress | invalidSlot | noMedia | invalidPhysical | invalidExtent
  | invalidHandle | resourcesExhausted | unsupportedPage | invalidLog | activationFailed | aborted
  deriving DecidableEq, Repr

/-- What the device sends out: messages to hosts, interrupts, command responses (the model's own record of outputs). -/
inductive Out where
  | memData (h : Nat) (haddr : Nat) (data : Line) (poison : Bool) (mv : Meta) (load : Nat)
  | ndr (h : Nat) (haddr : Nat) (kind : Ndr) (load : Nat)
  | snoop (h : Nat) (haddr : Nat) (kind : Snp) (blk : Bool)
  | msix (h : Nat) (vec : Nat)
  | mbox (dest : Route) (code : Ret) (ext : Nat) (payload : List Nat)
  | dcEvent (h : Nat) (kind : Nat) (extents : List Nat)
  | viral (h : Nat)
  | unsupportedReq (h : Nat) (haddr : Nat)
  | io (h : Nat) (value : Nat)
  | gpfRsp (h : Nat) (phase : Nat)
  | flume (k : Nat) (kind : Nat) (seq : Nat)
  | mgmt (kind : Nat) (payload : List Nat)
  | xfer (kind : Nat) (payload : List Nat)
  deriving DecidableEq, Repr

/-- A page entry (R56). A page the map does not list is Never written (R58, R60). -/
structure PageEntry where
  parcel : Nat
  run : Nat
  size : BitVec 64
  gen : Nat
  written : Bool
  tier : Bool
  pinned : Bool
  repack : Bool
  anyPoison : Bool
  deriving DecidableEq, Repr

/-- The record of one extent of an elastic region that a head has been offered or holds (R50 to R53, R180, R183). -/
structure Extent where
  offered : Heads
  accepted : Heads
  tag : Nat
  charge : Nat
  held : Nat
  requested : Heads
  releasing : Heads
  clearing : Bool
  deriving DecidableEq, Repr

/-- The address model: page entries, stored bytes and the 64-byte blocks of them that no read can correct, extents and their history, regions' held counts, the integrity tree's
view of what is cached (chapter 02). -/
structure Mem where
  pages : Map PageEntry
  store : List Host.Cell
  lost : List Nat
  backPoison : List Nat
  cached : List Nat
  history : List Nat
  extents : Map Extent
  journal : Nat
  committed : Nat
  durable : Map PageEntry
  base : Map PageEntry
  records : List (Nat × Option PageEntry)
  rootMark : Nat
  unjournaled : List Nat
  entryWait : List Nat
  checkpointDue : Bool
  deriving DecidableEq, Repr

/-- An entry of the snoop filter (R77): its physical slice, state, holders, hold stamp, pending and timed-out flags. The
list of silent holders and the order of grants are what R79 and R86 need beside them. -/
structure FiltEntry where
  slice : Nat
  excl : Bool
  holders : Heads
  stamp : Nat
  held : Bool
  pending : Bool
  timedOut : Bool
  silent : Heads
  granted : Nat
  deriving DecidableEq, Repr

/-- An eviction tracker in use (R79). -/
structure EvtTracker where
  slice : Nat
  idx : Nat
  line : Nat
  excl : Bool
  holders : Heads
  silent : Heads
  deriving DecidableEq, Repr

/-- What a snoop is outstanding for. -/
inductive SnpFor where
  | request (id : Nat)
  | evict (slice idx : Nat)
  | release (ext : Nat)
  | rebuild
  | drain
  | erase (dom : Nat)
  | courier (key : Nat)
  deriving DecidableEq, Repr

/-- An outstanding snoop: the head snooped, the lines of the sheet it covers that are unsatisfied, its kind (R82, R83, R90). -/
structure Snoop where
  head : Nat
  line : Nat
  blk : Bool
  left : List Nat
  kind : Snp
  why : SnpFor
  sent : Nat
  deriving DecidableEq, Repr

/-- The requests the home takes (R80). -/
inductive ReqKind where
  | rd | rdData | inv | clnEvct | wr | wrPtl
  deriving DecidableEq, Repr

/-- Where an accepted request stands. -/
inductive Stage where
  | queued        -- waits in the per-line queue (R75)
  | hold          -- waits for the hold time of the holder (R87)
  | way           -- waits for a filter way or an eviction tracker (R79)
  | snoop         -- waits for its snoops (R82)
  | alloc         -- waits for a front-cache way or buffer entry (R102, R103)
  | pdirty        -- waits for the persistent dirty limit (R104)
  | entry         -- waits for its page entry (R69)
  | fill          -- waits for a sheet fill (R24)
  deriving DecidableEq, Repr

/-- A request in a request tracker (R74), in the order of acceptance. `mute`: its head was reset, and its responses are discarded
(R338). -/
structure Req where
  id : Nat
  head : Nat
  kind : ReqKind
  line : Nat
  haddr : Nat
  mv : Meta
  data : Line
  mask : Mask
  poison : Bool
  cls : Cls
  ovd : Bool
  stage : Stage
  mute : Bool
  deriving DecidableEq, Repr

/-- A request held at the heads' ingress (R94, R348), as it arrived. -/
structure HeldReq where
  head : Nat
  kind : ReqKind
  haddr : Nat
  mv : Meta
  data : Line
  mask : Mask
  poison : Bool
  deriving DecidableEq, Repr

/-- The home slices (chapter 03). Map keys: the filter by line; slices are fields of the entries. -/
structure Home where
  filt : Map FiltEntry
  evt : List EvtTracker
  snoops : List Snoop
  reqs : List Req
  held : List HeldReq
  headPtr : Map Nat
  nextReq : Nat
  grants : Nat
  dead : Heads
  rebuilding : Option Nat
  deriving DecidableEq, Repr

/-- A front-cache line (R101). The map key is (slice × 4,096 + set) × 16 + way. `lockHead` is the head that locked it. -/
structure FcLine where
  line : Nat
  dirty : Bool
  pers : Bool
  locked : Bool
  lockHead : Nat
  poison : Bool
  owner : Nat
  cls : Cls
  mask : Mask
  data : Line
  wrote : Nat
  deriving DecidableEq, Repr

/-- One line of a sheet held in the write-back buffer. -/
structure WbLine where
  idx : Nat
  mask : Mask
  data : Line
  poison : Bool
  deriving DecidableEq, Repr

/-- An entry of the sheet write-back buffer (R103). `keep`: a flush or early cleaning that leaves the lines present. -/
structure WbEntry where
  id : Nat
  slice : Nat
  sheet : Nat
  lines : List WbLine
  owner : Nat
  cls : Cls
  mop : Option Nat
  deriving DecidableEq, Repr

/-- A stream detector (R108). -/
structure Stream where
  slice : Nat
  head : Nat
  page : Nat
  last : Nat
  stride : Int
  conf : Nat
  used : Nat
  deriving DecidableEq, Repr

/-- Why a sheet is being fetched. -/
inductive FillFor where
  | demand | prefetch | lock (h : Nat)
  deriving DecidableEq, Repr

/-- A sheet fill in flight (R24, R102): the sheet, what it is for, the ways chosen for its absent lines, and whether it reads
the page's old run after a commit (R172). -/
structure Fill where
  sheet : Nat
  why : FillFor
  head : Nat
  cls : Cls
  ways : List Nat
  entry : PageEntry
  deriving DecidableEq, Repr

/-- A maintenance operation in progress (R113 to R116): the next head line and how many are left, the DPA lines whose fetch is
under way, the counts, the result, and the mailbox that asked for it. -/
structure Mop where
  head : Nat
  op : Nat
  haddr : Nat
  left : Nat
  waits : List Nat
  done : Nat
  skip : Nat
  result : Nat
  route : Option Route
  deriving DecidableEq, Repr

/-- The front cache (chapter 04). -/
structure Fc where
  lines : Map FcLine
  plru : Map Nat
  wbuf : List WbEntry
  streams : List Stream
  fills : List Fill
  mops : List Mop
  nextWb : Nat
  clock : Nat
  deriving DecidableEq, Repr

/-- A key slot (R145). -/
structure KeySlot where
  k1 : BitVec 256
  k2 : BitVec 256
  kt : BitVec 256
  h : BitVec 128
  deriving DecidableEq, Repr

/-- Keys (chapter 06). `erasing` lists the domains with an erase in progress and the session that asked. -/
structure Keys where
  slots : Map KeySlot
  metaKey : Option (BitVec 256)
  erasing : List (Nat × Route)
  deriving DecidableEq, Repr

/-- The six state counters of one tier, in flight split by kind (R169, R170). -/
structure Tier where
  total : Nat
  free : Nat
  owned : Nat
  stale : Nat
  growth : Nat
  reloc : Nat
  reserved : Nat
  quar : Nat
  deriving DecidableEq, Repr

/-- The parcel states (R169), in flight split by kind. -/
inductive PState where
  | free | owned | stale | growth | reloc | reserved | quar
  deriving DecidableEq, Repr

/-- Parcel accounting and tiering (chapter 07). -/
structure Cap where
  dram : Tier
  media : Tier
  pmap : Map PState
  rgnHeld : Map Nat
  debt : Map Nat
  heat : Map Nat
  sampled : Map Nat
  promoQ : List Nat
  sweep : Nat
  passFreed : Nat
  passFound : Bool
  demoting : Bool
  auditWalk : Option (Option Route)
  orphans : List Nat
  lostSinceWalk : Bool
  migReserve : Nat
  deriving DecidableEq, Repr

/-- What a page-lock holder is doing. -/
inductive WorkKind where
  | writeBack (wb : Nat)                          -- a sheet write-back, by its buffer entry (R30)
  | migrate (up : Bool) (hint : Bool)             -- a migration chosen by the tier engine or a hint (R190)
  | promote (wb : Nat)                            -- promotion on write for a write-back (R32)
  | relocate (stack : Nat)                        -- a relocation in a stack; 16: in any active stack (R233, R235, R249)
  deriving DecidableEq, Repr

/-- Where page work stands: waiting for the page lock, waiting for parcels or staging, or ready to commit. -/
inductive WorkStage where
  | waiting | noSpace | staging | ready
  deriving DecidableEq, Repr

/-- Page work under or waiting for the page lock (R34, R131, R190): the page, its kind, the new run and entry, the stored
image to be written, its staging slots, and the parcels it waits for in the staging area. -/
structure Work where
  id : Nat
  page : Nat
  sheet : Nat
  kind : WorkKind
  stage : WorkStage
  parcel : Nat
  need : Nat
  entry : PageEntry
  image : List Byte
  slots : List Nat
  want : Nat
  deriving DecidableEq, Repr

/-- A fault record (R420). -/
structure FaultRec where
  time : Nat
  unit : Nat
  cls : Nat
  flags : Nat
  src : Nat
  d1 : Nat
  d2 : Nat
  deriving DecidableEq, Repr

/-- A Dead-Letter record (R428). -/
structure DeadRec where
  line : Nat
  page : Bool
  cause : Nat
  head : Nat
  time : Nat
  deriving DecidableEq, Repr

/-- Faults (chapter 19). -/
structure Flt where
  queue : List FaultRec
  extra : List FaultRec
  dead : List DeadRec
  running : List Nat
  deriving DecidableEq, Repr

/-- A record of a CXL event log (R441). -/
structure EvtRec where
  src : Nat
  unit : Nat
  count : Nat
  deriving DecidableEq, Repr

/-- Event delivery (R439 to R441). Log keys: head × 4 + log. -/
structure Evt where
  logs : Map (List EvtRec)
  since : Map Nat
  policy : Map Nat
  dcLog : Map (List (Nat × Nat))
  clerkQ : List Nat
  last : Map Nat
  overflow : Map Nat
  deriving DecidableEq, Repr
/-- A token resource (R310): capacity, total, spent and pool tokens, the buckets by head × 4 + class, and the tokens still to
be removed from SPENT at the next refill. -/
structure TokRes where
  cap : Nat
  total : Nat
  spent : Nat
  pool : Nat
  buckets : Map Nat
  owed : Nat
  deriving DecidableEq, Repr

/-- A budget written and waiting for its refill (R315): the register field, its index, the value, refills to wait. -/
structure RateWait where
  fld : Nat
  idx : Nat
  value : Nat
  waits : Nat
  deriving DecidableEq, Repr

/-- An Overdraft request waiting at a resource (R314). -/
structure OverWait where
  req : Nat
  resource : Nat
  aged : Bool
  deriving DecidableEq, Repr

/-- Regulation (chapter 13): DRAM-tier access, media write and Courier engine time. -/
structure Qos where
  dram : TokRes
  media : TokRes
  cou : TokRes
  waits : List RateWait
  ovd : List OverWait
  deriving DecidableEq, Repr

/-- An IDE stream of a head (R334): 0 CXL.cachemem, 1 link, 2 and 3 selective. -/
structure IdeStream where
  head : Nat
  stream : Nat
  keys : Nat
  secure : Bool
  deriving DecidableEq, Repr

/-- Host ports (chapter 14). MSI-X table words: head × 512 + word; pending bits: head × 128 + vector. `moreCause`: heads for
which another fence cause arose since their fence; `liftPending`: heads whose fence is lifted and who wait for their next reset
(R425); `l2`: heads whose link is in L2; `heldMem`: heads whose requests a GPF flush holds (R348). -/
structure Ports where
  msix : Map Nat
  msixPend : List Nat
  fnMask : Heads
  ide : List IdeStream
  viral : Heads
  moreCause : Heads
  liftPending : Heads
  l2 : Heads
  heldMem : Heads
  testQuads : List Nat
  lastReq : Nat
  deriving DecidableEq, Repr

/-- A flush in progress (chapter 15): GPF heads to answer, heads queued for the next GPF flush, the buffer entries of the snapshot
that are not committed, its staging slots once they are known, whether the root record has been sent, whether a Cold Start
follows the flush, whether a Cold Restart waits for it, an Integrity Halt deferred by it (R167), its start in ns of standby time;
and the cause, the duration in µs and the bank voltage at the end of the last flush, which TLR_LAST shows at the next start. -/
structure Flush where
  gpfHeads : Heads
  gpfNext : Heads
  snapWb : List Nat
  snapSlots : Option (List Nat)
  rootSent : Bool
  restart : Bool
  restartWaits : Bool
  deferred : Bool
  started : Nat
  lastCause : Nat
  lastTime : Nat
  lastBank : Nat
  deriving DecidableEq, Repr

/-- A physical page of the Logbook store with its tag (R445). An unlisted page is erased with a blank tag. -/
structure LogPage where
  lpage : Nat
  seq : Nat
  wear : Nat
  mark : Bool
  crc : Nat
  retired : Bool
  data : List Byte
  deriving DecidableEq, Repr

/-- What a Logbook request writes: bytes at an offset of its partition (R448), the records waiting for the fault log ring
(R456), one record ahead of them (the Halt record), an update of a durable counter (R454), a root record of a kind (R455). -/
inductive LogJob where
  | bytes (off : Nat) (data : List Byte)
  | ring
  | record (r : FaultRec)
  | counter (idx value : Nat) (larger : Bool)
  | root (kind : Nat)
  deriving DecidableEq, Repr

/-- A Logbook write request (R446, R452): its priority (0 Halt record, 1 Tailrace root record, 2 others), its partition, what
it writes, whether its requester retries a refusal. -/
structure LogWrite where
  id : Nat
  prio : Nat
  part : Nat
  job : LogJob
  retries : Bool
  deriving DecidableEq, Repr

/-- The page write in progress (R446): its request, logical page, page image, shadow page, failed verifies so far, and the
records taken from the queue. -/
structure LogRun where
  req : LogWrite
  lpage : Nat
  image : List Byte
  shadow : Nat
  fails : Nat
  recs : List FaultRec
  deriving DecidableEq, Repr

/-- The Logbook store (chapter 20): pages, the SEQ of each partition, waiting requests, the page write in progress, requests
refused and waiting for their retry, the newest root record number, the next record of the repair map, and whether a Halt record
was committed after the newest root record (R347). -/
structure Book where
  pages : Map LogPage
  seq : Map Nat
  queue : List LogWrite
  run : Option LogRun
  refused : List LogWrite
  nextId : Nat
  roots : Nat
  mapNext : Nat
  haltNewer : Bool
  deriving DecidableEq, Repr

/-- Time: cycles of the fabric clock; units of 1/342 ns since the timestamp was last set or reset, its base value in ns;
units since standby power was applied (R10, R20, R389, R420). -/
structure Time where
  cycle : Nat
  units : Nat
  base : Nat
  standby : Nat
  deriving DecidableEq, Repr

/-- A 64-byte access in a channel's queue (R198): an id, the source (0 to 15 home slices, 0x10 to 0x1F Courier engines, 0x20 tier
engine, 0x28 Tailrace, 0x30 metadata cache), the DRAM-tier byte address, its head and class (none: device work), whether it
runs at Overdraft and has aged to Bulk (R314), whether it is a write, the data of a write or of a completed read, how often a read was passed over
(R200), and whether a read has its data, or an error, and waits for its turn to return (R201). -/
structure DAcc where
  id : Nat
  src : Nat
  addr : Nat
  head : Nat
  cls : Option Cls
  ovd : Bool
  aged : Bool
  write : Bool
  data : Line
  passed : Nat
  done : Bool
  bad : Bool
  deriving DecidableEq, Repr

/-- An entry of a bank's tally table (R203). -/
structure Tally where
  row : Nat
  count : Nat
  deriving DecidableEq, Repr

/-- The DRAM channels (chapter 08). Banks are numbered over the tier: ((channel × 2 + subchannel) × 2 + rank) × 32 +
bank group × 4 + bank; units are channel × 2 + subchannel. -/
structure Dram where
  rdq : Map (List DAcc)
  wrq : Map (List DAcc)
  issued : List DAcc
  held : List DAcc
  tally : Map (List Tally)
  neigh : List (Nat × Nat)
  openRow : Map Nat
  postponed : Map Nat
  paused : List Nat
  failRun : Map Nat
  ceRow : Map Nat
  marked : List Nat
  repaired : List Nat
  unrep : List Nat
  ueRecent : Map (List Nat)
  retries : Map Nat
  selfRefresh : Bool
  nextId : Nat
  deriving DecidableEq, Repr

/-- A segment's state (R223). -/
inductive SegState where
  | empty | open_ | closed | reclaiming | spare | retired | metadata
  deriving DecidableEq, Repr

/-- An entry of the segment table (R223), by stack × 2^21 + segment. `urgent`: marked for an urgent or stale reclaim. -/
structure Seg where
  state : SegState
  kind : Nat
  written : Nat
  owned : Nat
  wear : Nat
  born : Nat
  pfail : Bool
  urgent : Bool
  deriving DecidableEq, Repr

/-- A stripe being filled or programmed (R225 to R231): its stack, segment and stripe, its stream (0 P, 1 R, 2 V), the staging
slot of each allocated data position, whether it is due or in programme, whether the rest of its segment is pad written with
it, and when its first slot was allocated. -/
structure Stripe where
  stack : Nat
  seg : Nat
  stripe : Nat
  stream : Nat
  slots : List Nat
  programming : Bool
  final : Bool
  first : Nat
  deriving DecidableEq, Repr

/-- Slots of a run (R229 to R231): its stream, page, first parcel, need, parcels not yet verified, image, whether it is
committed, and the page work it serves. P-stream slots stand in the staging area, others in on-die buffers. -/
structure Slot where
  id : Nat
  stream : Nat
  page : Nat
  parcel : Nat
  need : Nat
  left : Nat
  image : List Byte
  committed : Bool
  work : Nat
  deriving DecidableEq, Repr

/-- Why a segment is reclaimed (R234). -/
inductive VictimKind where
  | rebuild | age | urgent | stale | spread
  deriving DecidableEq, Repr

/-- A reclaim in progress (R234, R235): `scanned` once the scan of its sectors has ended. -/
structure Reclaim where
  stack : Nat
  seg : Nat
  kind : VictimKind
  scanned : Bool
  deriving DecidableEq, Repr

/-- A sector read in progress (R244): its parcel, the logical die read, and its step of R244. -/
structure SectorRead where
  parcel : Nat
  die : Nat
  step : Nat
  deriving DecidableEq, Repr

/-- Media (chapters 09 and 10). Die keys: stack × 33 + die. -/
structure Media where
  segs : Map Seg
  stripes : List Stripe
  slots : List Slot
  reclaims : List Reclaim
  erq : Map (List Nat)
  failed : List (Nat × Nat)
  donors : Map (List Nat)
  remap : Map Nat
  rebuildLeft : Map (List Nat)
  reads : List SectorRead
  hourRecon : Map Nat
  pfDay : Map (List Nat)
  timeouts : Map Nat
  nextSlot : Nat
  staleOn : List Nat
  spareFrom : Map Nat
  donorNext : Map Nat
  deriving DecidableEq, Repr

/-- One direction of a Flume link (R267 to R269, R275): the SEQ of its sender's next new frame and of its oldest frame that is
not acknowledged; the SEQ its receiver expects and whether that discards frames until a replay; the credits of the sender,
available and outstanding, of the command and of the data class; the data lane of a swap in progress; the BIP-8 errors of
the last millisecond, as lane and time; the lanes without block lock. -/
structure FDir where
  next : Nat
  acked : Nat
  expect : Nat
  dropping : Bool
  avCmd : Nat
  outCmd : Nat
  avDat : Nat
  outDat : Nat
  swapping : Option Nat
  bip : List (Nat × Nat)
  lost : List Nat
  deriving DecidableEq, Repr

/-- A Flume link (chapter 11): its directions 0 and 1, attempts of the bring-up, a retrain under way, the times of the replays
of the last millisecond and of the retrains of the last second, the absent lanes (direction × 6 + lane), the lanes whose taps
Factory Test wrote (direction × 5 + lane), injections that wait for a swap (R279). -/
structure Link where
  d0 : FDir
  d1 : FDir
  attempts : Nat
  retraining : Bool
  replays : List Nat
  retrains : List Nat
  absent : List Nat
  fixed : List Nat
  inject : Nat
  deriving DecidableEq, Repr

/-- The Flume links, by number (chapter 11). -/
structure Flume where
  links : Map Link
  deriving DecidableEq, Repr

/-- The states of a Courier ring (R287 to R291). -/
inductive RingState where
  | closed | running | error
  deriving DecidableEq, Repr

/-- A descriptor in progress: index, engine, its bytes as fetched, bytes done, result, status, whether it is finished, when it
was fetched, the first differing byte, the offset of the first poisoned piece, the lines it read as poison, how many lines it
wrote as poison, and the five counts of a scrub (R285, R298 to R301). -/
structure Desc where
  index : Nat
  engine : Nat
  bytes : List Byte
  done : Nat
  result : Nat
  status : Nat
  finished : Bool
  started : Nat
  diff : Option Nat
  bad : Option Nat
  poisonRead : List Nat
  poisonWritten : Nat
  counts : List Nat
  deriving DecidableEq, Repr

/-- A Courier ring (R287): its context, HEAD, TAIL, STATE, ERR and the descriptor in progress. -/
structure Ring where
  head : Nat
  dbase : Nat
  cbase : Nat
  logsz : Nat
  cls : Cls
  vec : Nat
  tmo : Nat
  hd : Nat
  tl : Nat
  state : RingState
  err : Nat
  closing : Bool
  desc : Option Desc
  deriving DecidableEq, Repr

/-- The Courier (chapter 12): the rings that are not Closed; the snoops sent for a ring, or for the opening of one by a head
(2^18 + head), that are satisfied or timed out, by line (R292); the openings under way: head, ring, context line (R288). -/
structure Courier where
  rings : Map Ring
  clear : List (Nat × Nat)
  timed : List (Nat × Nat)
  opens : List (Nat × Nat × Nat)
  deriving DecidableEq, Repr

/-- The phases of the Headrace (R360): no standby power; waiting for the seat pins; insertion delay; gate ramp; ramp complete;
running; the dead time of a changeover; latched off. -/
inductive HeadPhase where
  | off | standby | insertion | ramp | ready | on | changeover | latched
  deriving DecidableEq, Repr

/-- The Headrace (chapter 16): which feed contacts are mated, the feed chosen by a ramp or a changeover, the fault timer's count, the
downstream converters, the 2 s wait for the bank, a wait for auto-retry, both seat pins de-asserted since the latch (R364); the
events that arose while the event fabric was down (R371). -/
structure Headrace where
  phase : HeadPhase
  contacts : List Bool
  target : Nat
  faultTimer : Bool
  converters : Bool
  bankTimer : Bool
  backoff : Bool
  reseat : Bool
  latched : List Nat
  deriving DecidableEq, Repr

/-- A re-plan whose record is not yet committed (R259 to R262, R350, R351): what its registers take. `trims`: trim, window and
health index of each die sampled; `margin`: a die had A* below 336 h; `page` and `bytes`: the plan record. -/
structure PlanRegs where
  src : Nat
  nograde : Bool
  lowered : Bool
  adv : Nat
  agestar : Nat
  wdie : Nat
  wstk : Nat
  refresh : Nat
  retire : Nat
  now : Nat
  ofs : List Nat
  trims : List (Nat × Nat × Nat)
  margin : Bool
  capm : Nat
  tmax : Nat
  tflush : Nat
  vabort : Nat
  short : Bool
  capped : Bool
  pdmax : Nat
  size : Nat
  stks : Nat
  page : Nat
  bytes : List Byte
  deriving DecidableEq, Repr

/-- Modes (chapter 17): the step of a drain in progress (R383; 0 none) and what it is for (0 Stop, 1 recovery, 2 an image
application), the heads whose links are not in L2, the wake, a recovery's measurements, a re-plan waiting for its record and
whether a Cold Start or a recovery waits on it, the measurements of a Cold Restart. `planStacks`: stacks fenced at the last
plan. -/
structure Modes where
  stopStep : Nat
  drainFor : Nat
  l2Left : Heads
  wakeAttempt : Nat
  wakeStep : Nat
  wakeFailed : Bool
  wakeSrc : Nat
  wakeHead : Nat
  wakeAt : Nat
  wakeFence : List Nat
  retryDue : Bool
  coldWake : Bool
  memActive : Bool
  planEnv : Option PlanEnv
  planWait : Option PlanRegs
  starting : Bool
  coldEnv : Option ColdEnv
  dirtyStart : Bool
  halting : Bool
  planStacks : Nat
  deriving DecidableEq, Repr

/-- An image transfer in progress (R412). -/
structure Transfer where
  slot : Nat
  offset : Nat
  route : Option Route
  pldm : Bool
  deriving DecidableEq, Repr

/-- The Postmaster and the Clerks (chapter 18): a transfer in progress; the image whose live data the device holds; the slot
that Configure applies; a slot being applied and whether by a rollback; the watchdogs' last refresh and
last expiry by core, in ms of standby time; a Clerk restart in progress; the cores running and fenced; a Halt record that the
standby logic holds (R395); the channels, stacks and Courier engines that the image enables, as masks. -/
structure Post where
  transfer : Option Transfer
  live : List Byte
  image : Option Nat
  applying : Option Nat
  rollback : Bool
  watchdog : Map Nat
  lastExpiry : Map Nat
  restarting : Bool
  coresUp : List Nat
  coreFence : List Nat
  heldHalt : Option FaultRec
  channels : Nat
  stks : Nat
  engines : Nat
  deriving DecidableEq, Repr

/-- A transfer of the management DMA channel (R480): the head for which it writes, the head address of its next line, the bytes left. -/
structure Dma where
  head : Nat
  addr : Nat
  data : List Byte
  deriving DecidableEq, Repr

/-- Performance counters (chapter 21): the counters that CNT_SEL.EN enables; the dump being written to the counter ring, one that is
due while an export has the channel, and a record dropped since the last one written (R464, R465). -/
structure Cnt where
  live : List Nat
  due : Option Dma
  dropped : Bool
  dump : Option Dma
  deriving DecidableEq, Repr

/-- An SPDM session (R475, R476): its number, the head or management side, the key-exchange material. -/
structure Session where
  id : Nat
  side : Route
  deriving DecidableEq, Repr

/-- Management (chapter 22). -/
structure Mgmt where
  smbAddr : Nat
  sessions : List Session
  nextSession : Nat
  sensors : Map Nat
  alarmed : List Nat
  receiver : Option Nat
  locate : Bool
  background : List (Nat × Route)
  exporting : Option (Route × Dma)
  alerts : Map Nat
  deriving DecidableEq, Repr

/-- Pins (chapter 24): levels, true for high; the JTAG instruction and the boundary cells it preloaded (R482); the function codes of
the SBIO pins (R495), and what their pads drove when Stop latched them (R385, R496), none for high impedance. -/
structure Pins where
  logwpN : Bool
  perstN : Heads
  seatN : List Bool
  wakeN : Bool
  faultN : Bool
  alertN : Bool
  activity : Bool
  locate : Bool
  jtag : Nat
  cells : Nat
  sbio : List Nat
  held : List (Option Bool)
  deriving DecidableEq, Repr
/-- Reasons the block stops with a fault. No command of the spec stops the block, so no meaning raises one: every refusal
the spec describes is an answer the block sends, in a next state. -/
inductive Fault where
  /-- Raised by no meaning; it stands so that the type is inhabited. Safe: a stop proves nothing about the hardware. -/
  | none
  deriving DecidableEq, Repr

/-- Reasons the model gives a command no meaning. -/
inductive Refusal where
  /-- Raised by an arm of exec whose command has no meaning yet. Safe: nothing can be proved of a step that is refused. -/
  | notModelled (mnemonic : String)
  deriving DecidableEq, Repr

/-- The state of the block. -/
structure State where
  part : Part
  regs : Map Nat
  mem : Mem
  home : Home
  fc : Fc
  keys : Keys
  cap : Cap
  work : List Work
  nextWork : Nat
  flt : Flt
  evt : Evt
  qos : Qos
  ports : Ports
  flush : Flush
  book : Book
  dram : Dram
  media : Media
  flume : Flume
  cou : Courier
  pwr : Headrace
  mode : Modes
  post : Post
  cnt : Cnt
  mgt : Mgmt
  pins : Pins
  time : Time
  upsets : List Upset
  free : Nat
  out : List Out
  pending : List Instr
  deriving DecidableEq, Repr

/-- A tier with no parcels counted: the counters' reset value (CAP_PAR, reset 0). -/
def Tier.zero : Tier := ⟨0, 0, 0, 0, 0, 0, 0, 0⟩
/-- No tokens (QOS_RES_A, reset 0). -/
def TokRes.zero : TokRes := ⟨0, 0, 0, 0, [], 0⟩

/-- The address model at reset: no page written, no parcel listed (log entry 3). -/
def Mem.init : Mem :=
  { pages := [], store := [], lost := [], backPoison := [], cached := [], history := [], extents := [], journal := 0,
    committed := 0, durable := [], base := [], records := [], rootMark := 0, unjournaled := [], entryWait := [], checkpointDue := false }
/-- Every filter empty, every head pointer 0 (R75, R97). -/
def Home.init : Home :=
  { filt := [], evt := [], snoops := [], reqs := [], held := [], headPtr := [], nextReq := 0, grants := 0, dead := 0,
    rebuilding := none }
/-- Every front-cache slice empty (R110); the pseudo-LRU bits are zero (log entry 5). -/
def Fc.init : Fc :=
  { lines := [], plru := [], wbuf := [], streams := [], fills := [], mops := [], nextWb := 0, clock := 0 }
/-- No key loaded (R150). -/
def Keys.init : Keys := { slots := [], metaKey := none, erasing := [] }
/-- No parcel counted before the first rebuild (log entry 4). -/
def Cap.init : Cap :=
  { dram := .zero, media := .zero, pmap := [], rgnHeld := [], debt := [], heat := [], sampled := [], promoQ := [],
    sweep := 0, passFreed := 0, passFound := false, demoting := false, auditWalk := none, orphans := [],
    lostSinceWalk := false, migReserve := 0 }
/-- No fault recorded. -/
def Flt.init : Flt := { queue := [], extra := [], dead := [], running := [] }
/-- No event logged. -/
def Evt.init : Evt := { logs := [], since := [], policy := [], dcLog := [], clerkQ := [], last := [], overflow := [] }
/-- No tokens before Configure sets the capacities. -/
def Qos.init : Qos := { dram := .zero, media := .zero, cou := .zero, waits := [], ovd := [] }
/-- Links down; MSI-X tables as PCI Express resets them, every vector masked (log entry 8). -/
def Ports.init : Ports :=
  { msix := [], msixPend := [], fnMask := 0, ide := [], viral := 0, moreCause := 0, liftPending := 0,
    l2 := 0, heldMem := 0, testQuads := [], lastReq := 0 }
/-- No flush. -/
def Flush.init : Flush :=
  { gpfHeads := 0, gpfNext := 0, snapWb := [], snapSlots := none, rootSent := false, restart := false, restartWaits := false,
    deferred := false, started := 0, lastCause := 0, lastTime := 0, lastBank := 0 }
/-- The Logbook store erased (log entry 9). -/
def Book.init : Book := { pages := [], seq := [], queue := [], run := none, refused := [], nextId := 0, roots := 0, mapNext := 0, haltNewer := false }
/-- Idle channels. -/
def Dram.init : Dram :=
  { rdq := [], wrq := [], issued := [], held := [], tally := [], neigh := [], openRow := [], postponed := [],
    paused := [], failRun := [], ceRow := [], marked := [], repaired := [], unrep := [], ueRecent := [],
    retries := [], selfRefresh := false, nextId := 0 }
/-- Segments Empty with WEAR 0 (log entry 7), no stream open. -/
def Media.init : Media :=
  { segs := [], stripes := [], slots := [], reclaims := [], erq := [], failed := [], donors := [],
    remap := [], rebuildLeft := [], reads := [], hourRecon := [], pfDay := [], timeouts := [], nextSlot := 0,
    staleOn := [], spareFrom := [], donorNext := [] }
/-- The Headrace without feeds. -/
def Headrace.init : Headrace :=
  { phase := .off, contacts := [false, false], target := 0, faultTimer := false, converters := false, bankTimer := false,
    backoff := false, reseat := false, latched := [] }
/-- No mode request; the factory-test flag clear. -/
def Modes.init : Modes :=
  { stopStep := 0, drainFor := 0, l2Left := 0, wakeAttempt := 0, wakeStep := 0, wakeFailed := false, wakeSrc := 0,
    wakeHead := 0, wakeAt := 0, wakeFence := [], retryDue := false, coldWake := false, memActive := false,
    planEnv := none, planWait := none, starting := false, coldEnv := none, dirtyStart := false, halting := false,
    planStacks := 0 }
/-- No image applied, every fused unit enabled, the Clerks not started. -/
def Post.init : Post :=
  { transfer := none, live := [], image := none, applying := none, rollback := false, watchdog := [],
    lastExpiry := [], restarting := false, coresUp := [], coreFence := [], heldHalt := none, channels := 0xFFFF,
    stks := 0xFFFF, engines := 0xFFFF }
/-- Management at reset. -/
def Mgmt.init : Mgmt :=
  { smbAddr := 0, sessions := [], nextSession := 1, sensors := [], alarmed := [], receiver := none, locate := false,
    background := [], exporting := none, alerts := [] }
/-- The pins at the levels their pulls give them (R493). -/
def Pins.init : Pins :=
  { logwpN := false, perstN := 0, seatN := [true, true], wakeN := true, faultN := true, alertN := true, activity := true,
    locate := true, jtag := 0, cells := 0, sbio := [], held := [] }

/-- The block of a given part right after reset: unpowered, every register at its Reset column (R14), every other piece
of state as its owner's rule leaves it before the first Cold Start. -/
def State.resetOf (p : Part) : State :=
  { part := p, regs := [], mem := .init, home := .init, fc := .init, keys := .init, cap := .init, work := [],
    nextWork := 0, flt := .init, evt := .init, qos := .init, ports := .init, flush := .init, book := .init,
    dram := .init, media := .init, flume := ⟨[]⟩, cou := ⟨[], [], [], []⟩, pwr := .init, mode := .init, post := .init,
    cnt := ⟨[], none, false, none⟩, mgt := .init, pins := .init, time := ⟨0, 0, 0, 0⟩, upsets := [], free := 0, out := [],
    pending := [] }

/-- The state after reset, of the flagship part WTH-C960F (log entry 2). -/
def State.reset : State := State.resetOf .c960f

end Sys2Proof.Machine
end

