-- ==== Sys2Proof/Machine/Ops.lean ====
section
/-! DEFINITION. The operations every family uses: reading and writing register fields (R13, R14), counting with
saturation, time, event delivery (R439 to R441), fault records (R420) and Dead-Letter records (R428 to R430). -/
namespace Sys2Proof.Machine

/-! Units of the parts (R5, R8). -/

def Part.heads : Part → Nat
  | .c960f | .c960d => 16
  | .c480f => 8
def Part.channels : Part → Nat
  | .c960f | .c960d => 16
  | .c480f => 8
def Part.stacks : Part → Nat
  | .c960f => 16
  | .c960d => 0
  | .c480f => 8
def Part.couriers : Part → Nat
  | .c960f | .c960d => 16
  | .c480f => 8
def Part.code : Part → Nat
  | .c960f => 1
  | .c960d => 2
  | .c480f => 3
/-- Persistent regions, GPF and drift handling are present (R5). -/
def Part.persist : Part → Bool
  | .c960f | .c480f => true
  | .c960d => false
/-- Host-visible capacity limit and usable DPA space, in extents (R42, R51). -/
def Part.limitExt : Part → Nat
  | .c960f => 1048576
  | .c960d => 49152
  | .c480f => 524288

/-- The partitions of the Logbook store: first physical page, physical pages, data pages, protected (R443). -/
def logParts : List (Nat × Nat × Nat × Bool) :=
  [(0, 16, 12, true), (16, 3104, 3073, true), (3120, 3104, 3073, true), (6224, 544, 512, true),
   (6768, 256, 240, false), (7024, 128, 120, false), (7152, 160, 128, false), (7312, 880, 864, false)]

/-- The value manufacture gives a field whose reset is "fuse", and the table of R242 for the drift table. -/
def fuseVal (p : Part) (f : Fld) (i : Nat) : Nat :=
  if f.id = CAP_UNITS_PART.id then p.code
  else if f.id = CAP_UNITS_HEADS.id then p.heads
  else if f.id = CAP_UNITS_DRAM_CH.id then p.channels
  else if f.id = CAP_UNITS_MED_STK.id then p.stacks
  else if f.id = CAP_UNITS_FLM_LNK.id then p.stacks
  else if f.id = CAP_UNITS_COU_ENG.id then p.couriers
  else if f.id = CAP_UNITS_HOME_SL.id then 16
  else if f.id = CAP_UNITS_MIL_ENG.id then 16
  else if f.id = CAP_UNITS_PERSIST.id then p.persist.toNat
  else if f.id = CAP_UNITS_DRIFT.id then p.persist.toNat
  else if f.id = CAP_SPACE_LIMIT_EXT.id then p.limitExt
  else if f.id = HOM_SLMAP_SUB.id then 0x1F
  else if f.id = HOM_SL_ACTIVE.id then (decide (i < 16)).toNat
  else if f.id = HOM_SL_LOGICAL.id then (if i < 16 then i else 0x1F)
  else if f.id = MIL_CMP_MAP_SUB.id then 0x1F
  else if f.id = MIL_CMP_MAP_ACTIVE.id then 16
  else if f.id = MIL_SEAL_MAP_SUB.id then 0x1F
  else if f.id = MIL_SEAL_MAP_ACTIVE.id then 16
  else if f.id = DRM_CH_PRESENT.id then (decide (i < p.channels)).toNat
  else if f.id = MED_STK_PRESENT.id then (decide (i < p.stacks)).toNat
  else if f.id = FLM_LNK_PRESENT.id then (decide (i < p.stacks)).toNat
  else if f.id = COU_MAP_ACTIVE.id then p.couriers
  else if f.id = MED_DRIFT_UPTO.id then ([1, 8, 48, 168, 360, 720, 1440, 16777215][i]?).getD 0
  else if f.id = MED_DRIFT_OFS.id then ([0, 2, 4, 6, 7, 8, 9, 10][i]?).getD 0
  else if f.id = LOG_PART_BASE.id then ((logParts[i]?).getD (0, 0, 0, false)).1
  else if f.id = LOG_PART_PAGES.id then ((logParts[i]?).getD (0, 0, 0, false)).2.1
  else if f.id = LOG_PART_DATA.id then ((logParts[i]?).getD (0, 0, 0, false)).2.2.1
  else if f.id = LOG_PART_PROT.id then ((logParts[i]?).getD (0, 0, 0, false)).2.2.2.toNat
  else 0

/-- A field's value before anything has set it (R14): the table's constant, the fused value, or zero for a field that the
live image sets, but for the SMBus address, which its table gives. -/
def Fld.initial (f : Fld) (p : Part) (i : Nat) : Nat :=
  match f.src with
  | .const => f.rst
  | .fuse => fuseVal p f i
  | .image => if f.id = MGT_SMB_ADDR.id then 0x58 else 0

/-- The place of field `f` of index `i` in the register map. -/
def Fld.key (f : Fld) (i : Nat) : Nat := Nat.pair f.id i

/-- The value of a register field, as wide as the field. -/
def State.rd (s : State) (f : Fld) (i : Nat := 0) : Nat := s.regs.get (f.key i) (f.initial s.part i) % 2 ^ f.w

/-- A register field set, its value cut to the field's width. -/
def State.wr (s : State) (f : Fld) (v : Nat) (i : Nat := 0) : State :=
  { s with regs := s.regs.put (f.key i) (v % 2 ^ f.w) }

/-- A one-bit field set from a Bool. -/
def State.wrB (s : State) (f : Fld) (b : Bool) (i : Nat := 0) : State := s.wr f b.toNat i

/-- A one-bit field read as a Bool. -/
def State.rdB (s : State) (f : Fld) (i : Nat := 0) : Bool := s.rd f i == 1

/-- A counter raised, saturating at all ones. -/
def State.bump (s : State) (f : Fld) (n : Nat) (i : Nat := 0) : State :=
  s.wr f (min (s.rd f i + n) (2 ^ f.w - 1)) i

/-- A bit of a field set or cleared. -/
def State.wrBit (s : State) (f : Fld) (b : Nat) (v : Bool) (i : Nat := 0) : State :=
  s.wr f (if v then s.rd f i ||| 2 ^ b else s.rd f i &&& ((2 ^ f.w - 1) ^^^ (2 ^ b))) i

/-- A bit of a field. -/
def State.rdBit (s : State) (f : Fld) (b : Nat) (i : Nat := 0) : Bool := (s.rd f i).testBit b

/-- A field brought back to its value before anything has set it. -/
def State.unset (s : State) (f : Fld) (i : Nat := 0) : State := { s with regs := s.regs.del (f.key i) }

/-- The mode (R372): the register is its home. -/
def State.modeCode (s : State) : Nat := s.rd MOD_STATE_STATE

/-- The modes whose data plane serves hosts (R372). -/
def State.serving (s : State) : Bool :=
  let m := s.modeCode
  (m == 0 && s.mode.memActive) || m == 3 || m == 4 || m == 5

/-- The Halt has begun. -/
def State.stopped (s : State) : Bool := s.modeCode == 7 || s.mode.halting

/-- A flush runs that stops every head: for the loss of power or of a seat, or before a Cold Restart (R346, R374). -/
def State.powerFlush (s : State) : Bool := s.rdB TLR_STAT_ACTIVE && s.rd TLR_STAT_CAUSE != 3

/-- A message sent. -/
def State.emit (s : State) (o : Out) : State := { s with out := s.out ++ [o] }

/-- The next free value, and the counter advanced. -/
def State.fresh (s : State) : Nat × State := (Config.freeValue s.free, { s with free := s.free + 1 })

/-- The device timestamp in ns (R420). -/
def State.stamp (s : State) : Nat := (s.time.base + s.time.units / 342) % 2 ^ 64

/-- Standby time in ns since standby power was applied (R389). -/
def State.standbyNs (s : State) : Nat := s.time.standby / 342

/-- Units of 1/342 ns in a fabric cycle of a root grade (R20): 0.5 ns, 1/1.9 ns, 1/1.8 ns. -/
def cycleUnits (grade : Nat) : Nat := if grade = 0 then 171 else if grade = 1 then 180 else 190

/-- One fabric cycle passes: the cycle count, the device timestamp and the standby counter advance (R10, R420, R389). -/
def tick (s : State) : State :=
  let u := cycleUnits (s.rd MOD_STATE_GRADE)
  { s with time := { s.time with cycle := s.time.cycle + 1, units := s.time.units + u, standby := s.time.standby + u } }

/-- Housekeeping ticks of 40 ns in some units of 1/342 ns (R356). -/
def houseTicks (u : Nat) : Nat := u / 13680

/-- Fold an operation over the heads of a set, in ascending order. -/
def forHeads (m : Heads) (f : Nat → State → State) (s : State) : State :=
  (List.range 16).foldl (fun s h => if m.getLsbD h then f h s else s) s

/-- Fold an operation over a list. -/
def forAll {α : Type} (l : List α) (f : α → State → State) (s : State) : State := l.foldl (fun s a => f a s) s

/-- The set of one head. -/
def headBit (h : Nat) : Heads := 1#16 <<< h

/-! Events. -/

/-- The head a source belongs to, for the sources of one head (R440). -/
def sourceHead (src : Nat) : Option Nat :=
  if 128 ≤ src ∧ src < 256 then some ((src - 128) / 8)
  else if 896 ≤ src ∧ src < 928 then some ((src - 896) % 16)
  else none

/-- The sources the event map reserves (R371, R392, R415, R434 to R438 and the chapters' lists); none is ever raised. -/
def sourceReserved (src : Nat) : Bool :=
  (32 ≤ src && src ≤ 47) || (55 ≤ src && src ≤ 63) || (77 ≤ src && src ≤ 79) || (397 ≤ src && src ≤ 447) ||
  (462 ≤ src && src ≤ 511) || (933 ≤ src && src ≤ 959) || (963 ≤ src && src ≤ 975) || (981 ≤ src && src ≤ 991) ||
  (999 ≤ src) || (256 ≤ src && src < 384 && src % 8 == 7) || (512 ≤ src && src < 640 && src % 8 == 7)

/-- A word of a head's MSI-X table; vectors are masked until software unmasks them (R332, log entry 8). -/
def State.msixWord (s : State) (h w : Nat) : Nat := s.ports.msix.get (h * 512 + w) (if w % 4 = 3 then 1 else 0)

/-- Whether a vector of a head, or its function, is masked. -/
def State.msixMasked (s : State) (h v : Nat) : Bool :=
  s.ports.fnMask.getLsbD h || (s.msixWord h (4 * v + 3)).testBit 0

/-- One MSI-X message, or the pending bit while the vector or the function is masked (R332, R439). -/
def msixSend (h v : Nat) (s : State) : State :=
  if s.msixMasked h v then
    { s with ports := { s.ports with msixPend := (h * 128 + v) :: s.ports.msixPend.filter (· ≠ h * 128 + v) } }
  else s.emit (.msix h v)

/-- Store a record of source `src` in log `l` of head `h`, or lose it on a full log (R441). -/
def logEvent (src unit h l : Nat) (s : State) : State :=
  let k := h * 4 + l
  let log := s.evt.logs.get k []
  if log.length < 256 then
    let total := s.evt.since.get (Nat.pair 0 src) 0
    let done := s.evt.since.get (Nat.pair 1 (src * 64 + k)) 0
    let s := { s with evt := { s.evt with
      logs := s.evt.logs.put k (log ++ [⟨src, unit, total - done⟩])
      since := s.evt.since.put (Nat.pair 1 (src * 64 + k)) total } }
    let pol := s.evt.policy.get k 0
    if pol % 4 = 1 then msixSend h (pol / 16) s else s
  else
    { s.bump EVT_CNT_LOGOVF 1 with evt := { s.evt with overflow := s.evt.overflow.put k (s.evt.overflow.get k 0 + 1) } }

/-- Queue an event for the Clerks (R439); while they restart the queue holds 256 (R398). -/
def clerkEvent (src : Nat) (s : State) : State :=
  if s.post.restarting && decide (256 ≤ s.evt.clerkQ.length) then s.bump PST_CALLS_EVDROP 1
  else if s.evt.clerkQ.length < 1024 then { s with evt := { s.evt with clerkQ := s.evt.clerkQ ++ [src] } }
  else s.bump EVT_CNT_CLKDROP 1

/-- The heads a raise of a source reaches (R439, R440). -/
def eventHeads (s : State) (src : Nat) : Heads :=
  match sourceHead src with
  | some h => headBit h
  | none => BitVec.ofNat 16 (s.rd EVT_ROUTE_HEADS src)

/-- Raise a source with the vector its messages use (R439, R440), before the counters see it. -/
def raiseCore (src unit vec : Nat) (s : State) : State :=
  if sourceReserved src then s
  else
    let hs := eventHeads s src
    let s := (s.wrBit EVT_PEND_PEND (src % 64) true (src / 64)).bump EVT_CNT_RAISED 1
    let s := { s with evt := { s.evt with since := s.evt.since.put (Nat.pair 0 src) (s.evt.since.get (Nat.pair 0 src) 0 + 1) } }
    let s := forHeads hs (fun h s => msixSend h vec s) s
    let s := if s.rdB EVT_ROUTE_LOGEN src then forHeads hs (fun h s => logEvent src unit h (s.rd EVT_ROUTE_LOG src) s) s else s
    if s.rdB EVT_ROUTE_CLERK src then clerkEvent src s else s

/-! Performance counters (R459 to R463). -/

/-- The class of an occurrence as CFILT numbers it: 0 to 3 the classes, 4 Overdraft. -/
def clsBit (c : Cls) (ovd : Bool) : Nat :=
  if ovd then 4 else match c with | .express => 0 | .priority => 1 | .standard => 2 | .bulk => 3

/-- A counter's filters pass an occurrence: its head and class, none for device work, and its unit (R459). -/
def State.cntPasses (s : State) (i ev : Nat) (who : Option (Nat × Nat)) (unit : Nat) : Bool :=
  s.rd CNT_SEL_EVENT i == ev && (s.rd CNT_SEL_UNIT i == 0x1F || s.rd CNT_SEL_UNIT i == unit) &&
  (match who with
    | some (h, c) => s.rdBit CNT_SEL_HFILT h i && s.rdBit CNT_SEL_CFILT c i
    | none => s.rd CNT_SEL_HFILT i == 0xFFFF && s.rd CNT_SEL_CFILT i == 0x1F)

/-- Nothing counts while FREEZE is set, in Stop and in the Halt (R462, R463). -/
def State.cntHeld (s : State) : Bool := s.rdB CNT_CTL_FREEZE || s.modeCode == 6 || s.stopped

/-- An amount is added to a counter; one that would pass its limit stays there, sets its bit and raises event 962 once, a raise
that is itself counted by `again` (R461). -/
def addCount (again : State → State) (i n : Nat) (s : State) : State :=
  let v := s.rd CNT_VAL_VALUE i + n
  if v < 2 ^ 48 then s.wr CNT_VAL_VALUE v i
  else
    let s := s.wr CNT_VAL_VALUE (2 ^ 48 - 1) i
    if s.rdBit CNT_SAT_SAT (i % 64) (i / 64) then s
    else again (raiseCore 962 0xFFFF (s.rd EVT_ROUTE_VEC 962) (s.wrBit CNT_SAT_SAT (i % 64) true (i / 64)))

/-- An occurrence of an event adds to the counters that select it (R459). The fuel bounds the counting of the raises of event 962. -/
def countEvent : Nat → Nat → Option (Nat × Nat) → Nat → Nat → State → State
  | 0, _, _, _, _, s => s
  | fuel + 1, ev, who, unit, n, s =>
    if s.cntHeld then s
    else s.cnt.live.foldl (fun s i =>
      if s.cntPasses i ev who unit then addCount (countEvent fuel 0xB00 none 0x1F 1) i n s else s) s

/-- One occurrence, or several, of an event. -/
def count (ev : Nat) (who : Option (Nat × Nat)) (unit n : Nat) (s : State) : State := countEvent 3 ev who unit n s

/-- Raise a source with the vector its messages use (R439); the raise is counted (R460). -/
def raiseVec (src unit vec : Nat) (s : State) : State :=
  if sourceReserved src then s else count 0xB00 none 0x1F 1 (raiseCore src unit vec s)

/-- Raise a source about a unit (R439). -/
def raiseUnit (src unit : Nat) (s : State) : State := raiseVec src unit (s.rd EVT_ROUTE_VEC src) s

/-- Raise a source (R439). -/
def raise (src : Nat) (s : State) : State := raiseUnit src 0xFFFF s

/-- Raise a source that is raised at most once per 1 ms (R333, R435, R436). `key` tells apart the heads or slices the
limit is kept for. -/
def raiseLimited (src key : Nat) (s : State) : State :=
  match s.evt.last.find (Nat.pair src key) with
  | some t =>
    if s.standbyNs < t + 1000000 then s
    else raise src { s with evt := { s.evt with last := s.evt.last.put (Nat.pair src key) s.standbyNs } }
  | none => raise src { s with evt := { s.evt with last := s.evt.last.put (Nat.pair src key) s.standbyNs } }

/-! Fault records. -/

/-- Remove the first element that meets a test. -/
def dropFirst {α : Type} (p : α → Bool) : List α → List α
  | [] => []
  | a :: l => if p a then l else a :: dropFirst p l

/-- The queue with room made for a record, as R420 orders the drops; `none` when it holds only Fatal and Halt records. -/
def makeRoom (q : List FaultRec) : Option (List FaultRec) :=
  if q.any (·.cls == 0) then some (dropFirst (·.cls == 0) q)
  else if q.any (·.cls == 1) then some (dropFirst (·.cls == 1) q)
  else if q.any (·.cls == 5) then some (dropFirst (·.cls == 5) q)
  else if q.any (·.cls == 3) then some (dropFirst (·.cls == 3) q)
  else none

/-- A record enters the queue to the fault log ring (R420). -/
def queueRec (r : FaultRec) (s : State) : State :=
  if s.flt.queue.length < 256 then { s with flt := { s.flt with queue := s.flt.queue ++ [r] } }
  else match makeRoom s.flt.queue with
    | some q => raise 23 ({ s with flt := { s.flt with queue := q ++ [r] } }.bump FLT_CNT_QDROP 1)
    | none =>
      if (r.cls == 2 || r.cls == 4) && s.flt.extra.length < 128 then
        { s with flt := { s.flt with extra := s.flt.extra ++ [r] } }
      else raise 23 (s.bump FLT_CNT_QDROP 1)

/-- A record of class 5, record only (R420). -/
def noteRec (src d1 d2 : Nat) (s : State) : State := queueRec ⟨s.stamp, 0xFFFF, 5, 0, src, d1, d2⟩ s

/-- A management fault (R423): recorded, counted, event 31 at most once per 1 ms. -/
def mgmtFault (idx src : Nat) (s : State) : State :=
  let u := 11 * 256 + idx
  let s := (((s.wr FLT_LAST_UNIT u).wr FLT_LAST_CLASS 3).wr FLT_LAST_ESC 0).wr FLT_LAST_SRC src
  raiseLimited 31 0 ((queueRec ⟨s.stamp, u, 3, 0, src, 0, 0⟩ s).bump FLT_CNT_MGT 1)

/-! Dead letters. -/

/-- A record covers a line: its own record, or its page's (R429). -/
def DeadRec.covers (d : DeadRec) (line : Nat) : Bool := if d.page then d.line / 64 == line / 64 else d.line == line

/-- Record a poisoned line (R429, R430). -/
def deadLetter (line cause head : Nat) (page : Bool := false) (s : State) : State :=
  if s.flt.dead.any (fun d => d.covers line && (!page || d.page)) then s
  else if s.flt.dead.length < 4096 then
    let s := { s with flt := { s.flt with dead := s.flt.dead ++ [⟨line, page, cause, head, s.stamp⟩] } }
    if s.flt.dead.length = 3072 then raise 29 s else s
  else
    let first := !(s.rdB FLT_DLS_OVF)
    let s := s.bump FLT_DLS_LOST 1
    if first then raise 30 ((s.wr FLT_DLS_OVF 1).wr FLT_DLS_OVT_TIME s.stamp) else s

/-- Remove the record of a line whose poison is cleared (R429). -/
def deadClearLine (line : Nat) (s : State) : State :=
  { s with flt := { s.flt with dead := s.flt.dead.filter (fun d => d.page || d.line ≠ line) } }

/-- Remove every record of a page that becomes Cleared or is zeroed (R429). -/
def deadClearPage (page : Nat) (s : State) : State :=
  { s with flt := { s.flt with dead := s.flt.dead.filter (fun d => d.line / 64 ≠ page) } }

/-- Remove the page record of a page whose ANY_POISON clears (R429). -/
def deadClearPageRec (page : Nat) (s : State) : State :=
  { s with flt := { s.flt with dead := s.flt.dead.filter (fun d => !(d.page && d.line / 64 == page)) } }

end Sys2Proof.Machine
end

