-- ==== Sys2Proof/Machine/Operands.lean ====
section
/-! DEFINITION. The address forms the commands name: device physical addresses (R41), regions and head views (R43 to
R48), the home slice of a page (R72, R73), front-cache and filter sets (R77, R100), parcels and their units (R56, R196),
data as bytes. -/
namespace Sys2Proof.Machine

/-! Bytes, words and lines, little-endian (R9). -/

/-- The bytes of a number, least significant first. -/
def leBytes : Nat → Nat → List Byte
  | 0, _ => []
  | n + 1, v => BitVec.ofNat 8 v :: leBytes n (v / 256)

/-- The number a list of bytes spells, least significant first. -/
def leNat : List Byte → Nat
  | [] => 0
  | b :: l => b.toNat + 256 * leNat l

/-- The 64 bytes of a line. -/
def lineBytes (l : Line) : List Byte := leBytes 64 l.toNat
/-- The line of 64 bytes; missing bytes are zero. -/
def bytesLine (b : List Byte) : Line := BitVec.ofNat 512 (leNat (b.take 64))
/-- `n` zero bytes. -/
def zeros (n : Nat) : List Byte := List.replicate n 0
/-- A list of bytes cut or filled with zeros to `n` bytes. -/
def fit (n : Nat) (b : List Byte) : List Byte := b.take n ++ zeros (n - b.length)
/-- `n` bytes from an offset. -/
def slice (b : List Byte) (off n : Nat) : List Byte := fit n ((b.drop off).take n)
/-- A field of a little-endian record. -/
def fieldAt (b : List Byte) (off n : Nat) : Nat := leNat (slice b off n)
/-- Bytes with some overwritten from an offset. -/
def patch (b : List Byte) (off : Nat) (new : List Byte) : List Byte :=
  b.take off ++ new ++ b.drop (off + new.length)
/-- Bits [hi:lo] of a number. -/
def bits (v lo w : Nat) : Nat := v / 2 ^ lo % 2 ^ w
/-- The exclusive-or of the b-bit groups of a number, `n` groups. -/
def foldXor (b : Nat) : Nat → Nat → Nat
  | 0, _ => 0
  | n + 1, v => (v % 2 ^ b) ^^^ foldXor b n (v / 2 ^ b)

/-- A line with the bytes of a mask replaced (R28). -/
def mergeLine (old new : Line) (m : Mask) : Line :=
  bytesLine (((lineBytes old).zip (lineBytes new)).zipIdx.map (fun ⟨(o, n), i⟩ => if m.getLsbD i then n else o))

/-- Every byte valid. -/
def fullMask : Mask := BitVec.allOnes 64

/-! Page numbers and lines. A line number is DPA[47:6], a sheet number DPA[47:8], a page number DPA[47:12] (R41). -/

def lineSheet (line : Nat) : Nat := line / 4
def linePage (line : Nat) : Nat := line / 64
def sheetPage (sheet : Nat) : Nat := sheet / 16
def pageExt (page : Nat) : Nat := page / 65536
def lineExt (line : Nat) : Nat := line / 4194304
def sheetLines (sheet : Nat) : List Nat := [4 * sheet, 4 * sheet + 1, 4 * sheet + 2, 4 * sheet + 3]

/-- The logical home slice of a page (R72): the fold of its nine 4-bit groups, or its low four bits. -/
def logicalSlice (s : State) (page : Nat) : Nat :=
  if s.rd HOM_CFG_HASH = 0 then foldXor 4 9 page else page % 16

/-- The physical slice that serves a logical slice (R73). -/
def physSlice (s : State) (n : Nat) : Nat := if s.rd HOM_SLMAP_SUB = n then 16 else n

/-- The physical slice of a line's page. -/
def sliceOf (s : State) (line : Nat) : Nat := physSlice s (logicalSlice s (linePage line))

/-- The filter set of a line, DPA[21:6] (R77). -/
def filtSet (line : Nat) : Nat := line % 65536

/-- The front-cache set of a line, DPA[17:6] ⊕ DPA[29:18] (R100). -/
def fcSet (line : Nat) : Nat := (line % 4096) ^^^ (line / 4096 % 4096)

/-! Regions. -/

/-- A region descriptor as the registers show it (R44). -/
structure Region where
  n : Nat
  typ : Nat
  db : Bool
  cls : Nat
  tier : Nat
  opq : Bool
  elastic : Bool
  keydom : Nat
  elem : Nat
  keep : Nat
  heads : Heads
  base : Nat
  size : Nat
  deriving DecidableEq, Repr

/-- Region n of the live image, if it exists. -/
def State.region (s : State) (n : Nat) : Option Region :=
  if s.rdB CAP_RGN_A_VALID n then
    some { n, typ := s.rd CAP_RGN_A_TYPE n, db := s.rdB CAP_RGN_A_COHER n, cls := s.rd CAP_RGN_A_CLASS n,
           tier := s.rd CAP_RGN_A_TIER n, opq := s.rdB CAP_RGN_A_OPAQUE n, elastic := s.rdB CAP_RGN_A_ELASTIC n,
           keydom := s.rd CAP_RGN_A_KEYDOM n, elem := s.rd CAP_RGN_A_ELEM n, keep := s.rd CAP_RGN_A_KEEP n,
           heads := BitVec.ofNat 16 (s.rd CAP_RGN_A_HEADS n), base := s.rd CAP_RGN_B_BASE_EXT n,
           size := s.rd CAP_RGN_B_SIZE_EXT n }
  else none

/-- The regions of the live image. -/
def State.regions (s : State) : List Region := (List.range 256).filterMap s.region

/-- The region holding an extent (R43). -/
def State.regionOf (s : State) (ext : Nat) : Option Region :=
  s.regions.find? (fun r => r.base ≤ ext && ext < r.base + r.size)

/-- Insert a region into a list in ascending DPA order. -/
def insertRegion (r : Region) : List Region → List Region
  | [] => [r]
  | a :: l => if r.base < a.base then r :: a :: l else a :: insertRegion r l

/-- Regions in ascending DPA order. -/
def sortRegions (l : List Region) : List Region := l.foldr insertRegion []

/-- The regions of a head in the order of its address space (R46). -/
def State.headRegions (s : State) (h : Nat) : List Region :=
  let mine := sortRegions (s.regions.filter (·.heads.getLsbD h))
  mine.filter (fun r => !r.elastic && r.typ ≠ 1) ++ mine.filter (fun r => !r.elastic && r.typ = 1) ++
    mine.filter (·.elastic)

/-- The DPA line of a head line in a list of regions laid out without gaps (R46). -/
def layoutFind : List Region → Nat → Option (Region × Nat)
  | [], _ => none
  | r :: l, a => if a < r.size * 4194304 then some (r, r.base * 4194304 + a) else layoutFind l (a - r.size * 4194304)

/-- The head line at which a list of regions laid out without gaps holds a DPA line. -/
def layoutInv : List Region → Nat → Nat → Option Nat
  | [], _, _ => none
  | r :: l, off, line =>
    if r.base * 4194304 ≤ line ∧ line < (r.base + r.size) * 4194304 then some (off + (line - r.base * 4194304))
    else layoutInv l (off + r.size * 4194304) line

/-- The head line of a DPA line in a head's view, which every snoop names (R96). -/
def State.headLine (s : State) (h line : Nat) : Nat := (layoutInv (s.headRegions h) 0 line).getD 0

/-- The key domain of a region accepts requests (R146). -/
def State.keyed (s : State) (dom : Nat) : Bool := s.rd MIL_KD_STATE dom == 1

/-- A head has accepted an extent (R48, R53). -/
def State.accepted (s : State) (h ext : Nat) : Bool :=
  match s.mem.extents.find ext with
  | some e => e.accepted.getLsbD h
  | none => false

/-- The region and DPA line of a request inside the view of a head (R46, R48); none when it is outside. -/
def State.view (s : State) (h hline : Nat) : Option (Region × Nat) :=
  match layoutFind (s.headRegions h) hline with
  | some (r, line) => if r.elastic && !(s.accepted h (lineExt line)) then none else some (r, line)
  | none => none

/-- A region's class code as a class (R44). -/
def clsOf (n : Nat) : Cls := if n = 0 then .express else if n = 1 then .priority else if n = 2 then .standard else .bulk
/-- The code of a class. -/
def Cls.code : Cls → Nat
  | .express => 0
  | .priority => 1
  | .standard => 2
  | .bulk => 3
/-- A class lowered to a head's ceiling (R307). -/
def State.ceil (s : State) (h : Nat) (c : Cls) : Cls := clsOf (max c.code (s.rd QOS_HEAD_CEIL h))

/-! Parcels. -/

/-- Bit [38] of PARCEL: media (R56). -/
def parcelMedia (p : Nat) : Bool := p.testBit 38
/-- The stack of a media parcel (R56). -/
def parcelStack (p : Nat) : Nat := bits p 34 4
/-- The segment of a media parcel: 4 MiB, 8,192 parcels of post-parity address (09, R220). -/
def parcelSeg (p : Nat) : Nat := bits p 13 21

/-- The unit of a DRAM parcel (R196): the exclusive-or of its b-bit groups. -/
def parcelUnit (s : State) (p : Nat) : Nat :=
  let b := if s.part.channels = 16 then 5 else 4
  foldXor b 9 (bits p 0 33)

/-- Where a DRAM-tier byte address lies (R196): unit, rank, bank group, bank, row, column block. -/
structure DLoc where
  unit : Nat
  rank : Nat
  bg : Nat
  bank : Nat
  row : Nat
  col : Nat
  deriving DecidableEq, Repr

/-- The placement of a DRAM-tier byte address (R196). -/
def dramLoc (s : State) (a : Nat) : DLoc :=
  let b := if s.part.channels = 16 then 5 else 4
  let q := a / 512
  let u := (q / 2 ^ b) * 512 + a % 512
  { unit := foldXor b 9 q, rank := bits u 18 1, bg := bits u 13 3 ^^^ bits u 22 3, bank := bits u 16 2 ^^^ bits u 25 2,
    row := bits u 19 18, col := bits u 6 7 }

/-- The number of a bank over the tier. -/
def DLoc.bankId (l : DLoc) : Nat := (l.unit * 2 + l.rank) * 32 + l.bg * 4 + l.bank
/-- The number of a row over the tier. -/
def DLoc.rowId (l : DLoc) : Nat := l.bankId * 262144 + l.row

/-- The parcels of a row (R196 read backwards): the 8 KiB of a row are sixteen parcels of its unit. -/
def rowParcels (s : State) (rowId : Nat) : List Nat :=
  let b := if s.part.channels = 16 then 5 else 4
  let row := rowId % 262144
  let bk := rowId / 262144
  let unit := bk / 64
  let rank := bk / 32 % 2
  let bg := (bk / 4 % 8) ^^^ bits row 3 3
  let bank := (bk % 4) ^^^ bits row 6 2
  (List.range 16).map (fun i =>
    let hi := (bg * 8192 + bank * 65536 + rank * 262144 + row * 524288) / 512 + i
    hi * 2 ^ b + (unit ^^^ foldXor b 8 hi))

/-- A fence bit. -/
def State.channelFenced (s : State) (c : Nat) : Bool := s.rdB DRM_CH_FENCED c
def State.stackFenced (s : State) (k : Nat) : Bool := s.rdB MED_STK_FENCED k

/-- A unit is present and enabled by the image applied at the last Cold Start (R376 step 3). -/
def State.channelOn (s : State) (c : Nat) : Bool := s.rdB DRM_CH_PRESENT c && s.post.channels.testBit c
def State.stackOn (s : State) (k : Nat) : Bool := s.rdB MED_STK_PRESENT k && s.post.stks.testBit k

/-- A parcel lies on a channel or stack that is fenced or not enabled. -/
def State.parcelFenced (s : State) (p : Nat) : Bool :=
  if parcelMedia p then s.stackFenced (parcelStack p) || !(s.stackOn (parcelStack p))
  else s.channelFenced (parcelUnit s p / 2) || !(s.channelOn (parcelUnit s p / 2))

/-- A parcel lies on hardware that may not be used: fenced, a row marked for repair, a retired segment (R169). -/
def State.parcelBad (s : State) (p : Nat) : Bool :=
  s.parcelFenced p ||
  (if parcelMedia p then
     match s.media.segs.find (parcelStack p * 2097152 + parcelSeg p) with
     | some g => g.state == .retired
     | none => false
   else s.dram.marked.contains (dramLoc s (p * 512)).rowId)

/-- The parcels of a run. -/
def runParcels (parcel run : Nat) : List Nat := (List.range run).map (parcel + ·)

/-- Every parcel of the DRAM tier (R194). -/
def Part.dramParcels (p : Part) : Nat := p.channels * 536870912
/-- Parcels of the metadata cache or metadata area, 256 GiB (R67, R173). -/
def metaParcels : Nat := 536870912

/-- The parcels below which DRAM-tier data lies: above are the staging area and the metadata cache (R197). -/
def State.dramDataTop (s : State) : Nat :=
  s.part.dramParcels - metaParcels - (if s.part.persist then s.rd MED_STG_SIZE * 2048 else 0)

/-! The byte store: contents of parcels, byte address = PARCEL × 512 + offset; an unlisted byte reads as zero (log entry
3). -/

/-- Read a byte. -/
def readByte (m : List Host.Cell) (a : Nat) : Byte := Map.get m a 0
/-- Write a byte, keeping the canonical form: no entry equal to what an unlisted byte reads as. -/
def writeByte (m : List Host.Cell) (a : Nat) (b : Byte) : List Host.Cell :=
  if b = 0 then Map.del m a else Map.put m a b
/-- The canonical form of the store: addresses strictly rising, no listed byte zero. -/
abbrev Memory.wf (m : List Host.Cell) : Prop := m.Pairwise (fun x y => x.1 < y.1) ∧ ∀ c ∈ m, c.2 ≠ 0
/-- Read bytes. -/
def readBytes (m : List Host.Cell) (a n : Nat) : List Byte := (List.range n).map (fun i => readByte m (a + i))
/-- Write bytes. -/
def writeBytes (m : List Host.Cell) (a : Nat) : List Byte → List Host.Cell
  | [] => m
  | b :: l => writeBytes (writeByte m a b) (a + 1) l

end Sys2Proof.Machine
end

