-- ==== Sys2Proof/Machine/DramOps.lean ====
section
/-! DEFINITION. The channel queues of the DRAM tier (R198 to R201): entering, holding, returning in order, and emptying them at a
fence. -/
namespace Sys2Proof.Machine

/-- The channel of a DRAM-tier byte address. -/
def addrChannel (s : State) (a : Nat) : Nat := (dramLoc s a).unit / 2

def State.readQ (s : State) (c : Nat) : List DAcc := s.dram.rdq.get c []
def State.writeQ (s : State) (c : Nat) : List DAcc := s.dram.wrq.get c []
def setReadQ (c : Nat) (l : List DAcc) (s : State) : State :=
  { s with dram := { s.dram with rdq := if l.isEmpty then s.dram.rdq.del c else s.dram.rdq.put c l } }
def setWriteQ (c : Nat) (l : List DAcc) (s : State) : State :=
  { s with dram := { s.dram with wrq := if l.isEmpty then s.dram.wrq.del c else s.dram.wrq.put c l } }

/-- Reads of a source that it has sent and not had back. -/
def State.openReads (s : State) (src : Nat) : List DAcc :=
  (s.dram.rdq.flatMap (·.2) ++ s.dram.issued ++ s.dram.held).filter (fun a => a.src == src && !a.write)

/-- A completed read returns once no older read of its source is open (R201): its data, or an error response. -/
def returnRead (a : DAcc) (s : State) : State :=
  if (s.openReads a.src).any (fun b => b.id < a.id) then s
  else { s with dram := { s.dram with issued := s.dram.issued.filter (fun b => b.id ≠ a.id) } }.emit
    (.xfer (if a.bad then 1 else 0) [a.src, a.id, a.addr, a.data.toNat])

/-- Completed reads return in the order in which their source sent them. -/
def dramReturn (s : State) : State :=
  forAll (s.dram.issued.mergeSort (fun a b => a.id ≤ b.id)) (fun a s => if a.done then returnRead a s else s) s

/-- A read has its data or its error. -/
def finishRead (a : DAcc) (data : Line) (bad : Bool) (s : State) : State :=
  dramReturn { s with dram := { s.dram with
    issued := s.dram.issued.filter (fun b => b.id ≠ a.id) ++ [{ a with data, bad, done := true }] } }

/-- Drain mode follows the length of the write queue (R199). -/
def drainMode (c : Nat) (s : State) : State :=
  let n := (s.writeQ c).length
  if s.rd DRM_CFG_WQ_HIGH ≤ n then s.wr DRM_CH_DRAIN 1 c else if n ≤ s.rd DRM_CFG_WQ_LOW then s.wr DRM_CH_DRAIN 0 c else s

/-- An access enters its channel's queue (R198, R201). A read of a block with a queued write takes its data; a write to such a
block replaces it; a full queue holds the access at its source. -/
def enterQueue (a : DAcc) (s : State) : State :=
  let c := addrChannel s a.addr
  if a.write then
    match (s.writeQ c).find? (fun b => b.addr == a.addr) with
    | some _ =>
      (setWriteQ c ((s.writeQ c).map (fun (b : DAcc) => if b.addr = a.addr then { b with data := a.data } else b)) s).emit (.xfer 2 [a.src, a.id])
    | none =>
      if 128 ≤ (s.writeQ c).length then
        raiseLimited (512 + 8 * c + 6) 0 { s with dram := { s.dram with held := s.dram.held ++ [a] } }
      else drainMode c ((setWriteQ c (s.writeQ c ++ [a]) s).emit (.xfer 2 [a.src, a.id]))
  else
    match (s.writeQ c).find? (fun b => b.addr == a.addr) with
    | some b => finishRead a b.data false (s.bump DRM_CH_NR_FWD 1 c)
    | none =>
      if 128 ≤ (s.readQ c).length then { s with dram := { s.dram with held := s.dram.held ++ [a] } }
      else setReadQ c (s.readQ c ++ [a]) s

/-- Accesses held at their sources enter as far as there is room, in their order. -/
def releaseAccesses (s : State) : State :=
  forAll s.dram.held enterQueue { s with dram := { s.dram with held := [] } }

/-- The accesses of a channel that is fenced: reads complete with an error response, writes are discarded (R212). -/
def dropChannel (c : Nat) (s : State) : State :=
  let mine := fun (a : DAcc) => addrChannel s a.addr == c
  let reads := s.readQ c ++ s.dram.issued.filter (fun a => mine a && !a.done) ++ s.dram.held.filter (fun a => mine a && !a.write)
  let s := setReadQ c [] (setWriteQ c [] s)
  let s := { s with dram := { s.dram with
    issued := s.dram.issued.filter (fun a => !(mine a) || a.done) ++ reads.map (fun (a : DAcc) => { a with done := true, bad := true, data := 0 })
    held := s.dram.held.filter (fun a => !(mine a)) } }
  dramReturn (s.wr DRM_CH_DRAIN 0 c)

end Sys2Proof.Machine
end

