-- ==== Sys2Proof/Machine/Parcels.lean ====
section
/-! DEFINITION. The accounting unit (R169 to R172): the state counters of the two tiers, which change only by moving a
count from one state to another; the per-parcel states; held counts, elastic use, the general pool (R179, R180). -/
namespace Sys2Proof.Machine

/-- A state counter of a tier. -/
def Tier.get (t : Tier) : PState → Nat
  | .free => t.free
  | .owned => t.owned
  | .stale => t.stale
  | .growth => t.growth
  | .reloc => t.reloc
  | .reserved => t.reserved
  | .quar => t.quar

/-- A state counter set. -/
def Tier.set (t : Tier) (k : PState) (v : Nat) : Tier :=
  match k with
  | .free => { t with free := v }
  | .owned => { t with owned := v }
  | .stale => { t with stale := v }
  | .growth => { t with growth := v }
  | .reloc => { t with reloc := v }
  | .reserved => { t with reserved := v }
  | .quar => { t with quar := v }

/-- Move parcels from one counter to another in a single update (R170); never more than the first holds. -/
def Tier.move (t : Tier) (a b : PState) (n : Nat) : Tier :=
  let k := min n (t.get a)
  let t' := t.set a (t.get a - k)
  t'.set b (t'.get b + k)

/-- The six state counters of R170 sum to the tier's parcels. -/
abbrev Tier.conserved (t : Tier) : Prop :=
  t.free + t.owned + t.stale + (t.growth + t.reloc) + t.reserved + t.quar = t.total

/-- A transition of the accounting unit in a tier (true: media). -/
def moveCount (media : Bool) (a b : PState) (n : Nat) (s : State) : State :=
  if media then { s with cap := { s.cap with media := s.cap.media.move a b n } }
  else { s with cap := { s.cap with dram := s.cap.dram.move a b n } }

/-- The tier counters. -/
def State.tier (s : State) (media : Bool) : Tier := if media then s.cap.media else s.cap.dram

/-- Data segments of a stack (R217). -/
def dataSegs : Nat := 0x1F8000

/-- A segment's table entry; an unlisted segment is Metadata in the metadata area, Spare from the stack's spare bound up, and
Empty below it (R174, R224, log entry 7). -/
def State.seg (s : State) (k g : Nat) : Seg :=
  s.media.segs.get (k * 2097152 + g)
    (if dataSegs ≤ g then ⟨.metadata, 3, 0, 0, 0, 0, false, false⟩
     else if s.media.spareFrom.get k dataSegs ≤ g then ⟨.spare, 0, 0, 0, 0, 0, false, false⟩
     else ⟨.empty, 0, 0, 0, 0, 0, false, false⟩)

/-- The state of a parcel: as listed; otherwise free, unless it lies in a reserved structure or on bad hardware. -/
def State.pstate (s : State) (p : Nat) : PState :=
  match s.cap.pmap.find p with
  | some k => k
  | none =>
    if !(parcelMedia p) && s.dramDataTop ≤ p then .reserved
    else if s.parcelBad p then .quar
    else if parcelMedia p then
      (match (s.seg (parcelStack p) (parcelSeg p)).state with
       | .spare | .metadata => .reserved
       | _ => .free)
    else .free

/-- List a parcel's state; free parcels are not listed. -/
def setPState (p : Nat) (k : PState) (s : State) : State :=
  { s with cap := { s.cap with pmap := if k = .free then s.cap.pmap.del p else s.cap.pmap.put p k } }

/-- A segment's table entry set. -/
def setSeg (k g : Nat) (e : Seg) (s : State) : State :=
  { s with media := { s.media with segs := s.media.segs.put (k * 2097152 + g) e } }

/-- Raise or lower the OWNED count of the segment of a media parcel (R223). -/
def segOwned (p : Nat) (up : Bool) (s : State) : State :=
  if parcelMedia p then
    let e := s.seg (parcelStack p) (parcelSeg p)
    setSeg (parcelStack p) (parcelSeg p) { e with owned := if up then e.owned + 1 else e.owned - 1 } s
  else s

/-- A parcel that is free returns to the migration reserve while that is below its size (R172). -/
def refillReserve (s : State) : State :=
  if s.part.persist && s.cap.migReserve < s.rd TIE_DWM_MIGRES * 2097152 then
    let s := moveCount false .free .reserved 1 s
    { s with cap := { s.cap with migReserve := s.cap.migReserve + 1 } }
  else s

/-- A stale DRAM-tier parcel returns to free (R172). -/
def staleToFree (p : Nat) (s : State) : State :=
  if parcelMedia p then s
  else refillReserve (setPState p .free (moveCount false .stale .free 1 s))

/-- A parcel is still read by a fill that began under an entry naming it (R172). -/
def State.filling (s : State) (p : Nat) : Bool :=
  s.fc.fills.any (fun f => f.entry.parcel ≤ p && p < f.entry.parcel + f.entry.run)

/-- A parcel that its page entry no longer names: to quarantined on bad hardware, else to stale, and a DRAM-tier parcel that
no fill is reading on to free (R170 to R172). -/
def disownParcel (p : Nat) (s : State) : State :=
  let s := segOwned p false s
  if s.parcelBad p then setPState p .quar (moveCount (parcelMedia p) .owned .quar 1 s)
  else
    let s := setPState p .stale (moveCount (parcelMedia p) .owned .stale 1 s)
    if s.filling p then s else staleToFree p s

/-- Every parcel of a run disowned. -/
def disownRun (parcel run : Nat) (s : State) : State := forAll (runParcels parcel run) disownParcel s

/-- The in-flight parcels of a run become owned at a commit (R170). -/
def ownRun (kind : PState) (parcel run : Nat) (s : State) : State :=
  forAll (runParcels parcel run) (fun p s =>
    segOwned p true (setPState p .owned (moveCount (parcelMedia p) kind .owned 1 s))) s

/-- The in-flight parcels of a run return to free at an abort; on bad hardware on to quarantined (R170, R171). -/
def abortRun (kind : PState) (parcel run : Nat) (s : State) : State :=
  forAll (runParcels parcel run) (fun p s =>
    let s := moveCount (parcelMedia p) kind .free 1 s
    if s.parcelBad p then setPState p .quar (moveCount (parcelMedia p) .free .quar 1 s)
    else if parcelMedia p then setPState p .free s
    else refillReserve (setPState p .free s)) s

/-- Mark the parcels of an allocated run in flight. -/
def inFlightRun (kind : PState) (frm : PState) (parcel run : Nat) (s : State) : State :=
  forAll (runParcels parcel run) (fun p s => setPState p kind (moveCount (parcelMedia p) frm kind 1 s)) s

/-- The first run of `n` free parcels of the DRAM tier found by trying starts in turn. -/
def findRun (s : State) (n : Nat) : Nat → Nat → Option Nat
  | 0, _ => none
  | fuel + 1, p =>
    let top := s.dramDataTop
    let p := if top < p + n then 0 else p
    if top < n then none
    else if (runParcels p n).all (fun q => s.pstate q == .free) then some p
    else findRun s n fuel (p + 1)

/-- Where free parcels for a run of `n` are found in the DRAM tier: the spec does not say which free parcels an allocation
takes, so the search starts at a free value (log entry 13). -/
def allocDram (n : Nat) (s : State) : Option Nat × State :=
  let (v, s) := s.fresh
  (findRun s n (16 * (s.cap.pmap.length + 1) + 4096) (Config.allocHint v % (s.dramDataTop + 1)), s)

/-! Page entries. -/

/-- A page entry; an unlisted page is Never written and reads as all zero fields (R58). -/
def PageEntry.none : PageEntry := ⟨0, 0, 0, 0, false, false, false, false, false⟩
def State.entry (s : State) (page : Nat) : PageEntry := s.mem.pages.get page .none

/-- The size code of a sheet (R56, R57). -/
def PageEntry.code (e : PageEntry) (n : Nat) : Nat := bits e.size.toNat (4 * n) 4
/-- A size code set. -/
def PageEntry.setCode (e : PageEntry) (n c : Nat) : PageEntry :=
  { e with size := (e.size &&& ~~~(15#64 <<< (4 * n))) ||| (BitVec.ofNat 64 c <<< (4 * n)) }

/-- Bytes stored for a size code (R57). -/
def codeBytes (c : Nat) : Nat := if c ≤ 8 then 32 * c else 0

/-- The region of a page. -/
def State.pageRegion (s : State) (page : Nat) : Option Region := s.regionOf (pageExt page)

/-- Pages change in number of parcels held: regions' and extents' held counts follow, and a
reserve debt falls with the elastic use of its head (R179, R180, R184). -/
def heldChange (page : Nat) (up : Bool) (n : Nat) (s : State) : State :=
  let ch := fun v => if up then v + n else v - n
  let s := match s.pageRegion page with
    | some r => { s with cap := { s.cap with rgnHeld := s.cap.rgnHeld.put r.n (ch (s.cap.rgnHeld.get r.n 0)) } }
    | none => s
  match s.mem.extents.find (pageExt page) with
  | some e =>
    let s := { s with mem := { s.mem with extents := s.mem.extents.put (pageExt page) { e with held := ch e.held } } }
    if up || s.cap.debt.get e.charge 0 = 0 then s
    else { s with cap := { s.cap with debt := s.cap.debt.put e.charge (s.cap.debt.get e.charge 0 - n) } }
  | none => s

/-- The charge head of a page of an elastic region (R180). -/
def State.chargeHead (s : State) (page : Nat) : Option Nat :=
  match s.mem.extents.find (pageExt page) with
  | some e => some e.charge
  | none => none

/-- Elastic use of a head: the held counts of the extents it is charge head of (R180). -/
def State.elasticUse (s : State) (h : Nat) : Nat :=
  s.mem.extents.foldl (fun a x => if x.2.charge = h then a + x.2.held else a) 0

/-- A head is above quota (R180): QUOTA is in GiB, 2,097,152 parcels. -/
def State.aboveQuota (s : State) (h : Nat) : Bool := s.rd CAP_EQ_QUOTA h * 2097152 < s.elasticUse h

/-- The committed charge of a region, 9 parcels for each page (R49). -/
def Region.charge (r : Region) : Nat := r.size * 65536 * 9

/-- Committed headroom C (R179). -/
def State.headroom (s : State) : Nat :=
  s.regions.foldl (fun a r => if r.elastic then a else a + (r.charge - s.cap.rgnHeld.get r.n 0)) 0

/-- Reserve debts of all heads. -/
def State.debts (s : State) : Nat := s.cap.debt.foldl (fun a x => a + x.2) 0

/-- Reserve remaining E_rem: 1 TiB of parcels less the debts (R179). -/
def State.reserveLeft (s : State) : Nat := 0x80000000 - s.debts

/-- The general pool N, signed (R179). -/
def State.pool (s : State) : Int :=
  ((s.cap.dram.free + s.cap.media.free + s.cap.dram.stale + s.cap.media.stale + s.cap.dram.reloc + s.cap.media.reloc
    : Nat) : Int) - s.headroom - s.reserveLeft

/-- Parcels for a number of GiB. -/
def gib (n : Nat) : Nat := n * 2097152

/-- The pressure level demanded by a value of N: 0 Normal, 1 Low, 2 Critical, 3 Exhausted (R181). -/
def State.levelOf (s : State) (n : Int) : Nat :=
  if n ≤ 0 then 3 else if n ≤ gib (s.rd CAP_WM_CRIT) then 2 else if n ≤ gib (s.rd CAP_WM_LOW) then 1 else 0

/-- The lowest level N has cleared with hysteresis: a level is left only when N exceeds its upper bound by HYST (R182). -/
def State.levelHeld (s : State) (n : Int) : Nat := s.levelOf (n - gib (s.rd CAP_WM_HYST))

end Sys2Proof.Machine
end

