-- ==== Sys2Proof/Machine/Millrace.lean ====
section
/-! DEFINITION. The Millrace as functions on sheets: the stored forms and encodings of chapter 05 (R118 to R127, R134,
R135), reduced-precision rounding (R137 to R139), and the seal of chapter 06 (R145, R151 to R153). -/
namespace Sys2Proof.Machine

/-! Bit streams, least significant bit of each byte first (R122). -/

/-- `n` bits of a number, least significant first. -/
def natBits : Nat → Nat → List Bool
  | 0, _ => []
  | n + 1, v => (v % 2 == 1) :: natBits n (v / 2)
/-- The number that bits spell, least significant first. -/
def bitsNat : List Bool → Nat
  | [] => 0
  | b :: l => b.toNat + 2 * bitsNat l
/-- The bytes of a bit stream, `n` of them, missing bits zero. -/
def packBits (l : List Bool) : List Byte := leBytes ((l.length + 7) / 8) (bitsNat l)
/-- The bits of bytes. -/
def unpackBits (b : List Byte) : List Bool := b.flatMap (fun x => natBits 8 x.toNat)

/-- Bytes as little-endian words of `w` bytes. -/
def toWords (w : Nat) : Nat → List Byte → List Nat
  | 0, _ => []
  | n + 1, b => leNat (b.take w) :: toWords w n (b.drop w)

/-! The Millstone coder (R122, R123). -/

/-- The dictionary with a word inserted at the pointer. -/
def dictInsert (d : List Nat) (ptr w : Nat) : List Nat := d.set ptr w

/-- The token of a word: its bits, and whether the word is inserted (R123). -/
def millToken (d : List Nat) (w : Nat) : List Bool × Bool :=
  if w = 0 then ([false, false], false)
  else match d.findIdx? (· = w) with
    | some i => ([false, true] ++ natBits 4 i, false)
    | none => match d.findIdx? (fun e => e / 256 = w / 256) with
      | some i => ([true, false] ++ natBits 4 i ++ natBits 8 w, true)
      | none => match d.findIdx? (fun e => e / 65536 = w / 65536) with
        | some i => ([true, true, false] ++ natBits 4 i ++ natBits 16 w, true)
        | none => ([true, true, true] ++ natBits 64 w, true)

/-- The bit stream of a list of words. -/
def millEncode (d : List Nat) (ptr : Nat) : List Nat → List Bool
  | [] => []
  | w :: l =>
    let (b, ins) := millToken d w
    if ins then b ++ millEncode (dictInsert d ptr w) ((ptr + 1) % 16) l else b ++ millEncode d ptr l

/-- One token read: the word, whether it is inserted, the rest of the stream (R122). -/
def millRead (d : List Nat) : List Bool → Option (Nat × Bool × List Bool)
  | false :: false :: r => some (0, false, r)
  | false :: true :: r => if r.length < 4 then none else some ((d[bitsNat (r.take 4)]?).getD 0, false, r.drop 4)
  | true :: false :: r =>
    if r.length < 12 then none
    else some ((d[bitsNat (r.take 4)]?).getD 0 / 256 * 256 + bitsNat ((r.drop 4).take 8), true, r.drop 12)
  | true :: true :: false :: r =>
    if r.length < 20 then none
    else some ((d[bitsNat (r.take 4)]?).getD 0 / 65536 * 65536 + bitsNat ((r.drop 4).take 16), true, r.drop 20)
  | true :: true :: true :: r => if r.length < 64 then none else some (bitsNat (r.take 64), true, r.drop 64)
  | _ => none

/-- `n` tokens decoded; malformed when the stream ends early or a nonzero bit follows the last (R122). -/
def millDecode (d : List Nat) (ptr : Nat) : Nat → List Bool → Option (List Nat)
  | 0, r => if r.any id then none else some []
  | n + 1, r =>
    match millRead d r with
    | none => none
    | some (w, ins, r) =>
      let d' := if ins then dictInsert d ptr w else d
      let p' := if ins then (ptr + 1) % 16 else ptr
      (millDecode d' p' n r).map (w :: ·)

/-! Base-delta (R121). -/

/-- The signed difference a − b modulo m, in [−m ÷ 2, m ÷ 2). -/
def signedDiff (m a b : Nat) : Int :=
  let d := (a + m - b % m) % m
  if d < m / 2 then (d : Int) else (d : Int) - m

/-- The words that do not take the zero base. -/
def basedWords (m half : Nat) (zb : Bool) (ws : List Nat) : List Nat :=
  ws.filter (fun w => !(zb && decide (-(half : Int) ≤ signedDiff m w 0 ∧ signedDiff m w 0 < half)))

/-- A base under which every given word has a delta of the width, if there is one. The spec fixes no base among those that
serve; which one is taken is a free function of the kept bytes (log entry 14). -/
def findBase (m half : Nat) (pick : Nat) (ws : List Nat) : Option Nat :=
  match ws with
  | [] => some (pick % m)
  | w0 :: _ =>
    let ds := ws.map (fun w => signedDiff m w w0)
    let mx := ds.foldl max 0
    let mn := ds.foldl min 0
    let lo := mx - (half - 1)
    let hi := mn + half
    if hi < lo then none
    else some ((((w0 : Int) + lo + (pick % (hi - lo + 1).toNat : Nat)) % (m : Int)).toNat)

/-- The base-delta payload of kept bytes for a choice of W, D and ZB (R121). -/
def deltaEncode (w d : Nat) (zb : Bool) (kept : List Byte) : Option (List Byte) :=
  let n := kept.length / w
  let m := 2 ^ (8 * w)
  let half := 2 ^ (8 * d - 1)
  let ws := toWords w n kept
  let based := basedWords m half zb ws
  match findBase m half (Config.deltaBase (leNat kept)) based with
  | none => none
  | some b =>
    let isZero := fun v => zb && decide (-(half : Int) ≤ signedDiff m v 0 ∧ signedDiff m v 0 < half)
    let dsel := if d = 1 then 0 else if d = 2 then 1 else 2
    let prm := (if w = 4 then 1 else 0) + 2 * dsel + (if zb then 8 else 0)
    let map := if zb then packBits (ws.map isZero) else []
    let deltas := ws.flatMap (fun v =>
      leBytes d ((signedDiff m v (if isZero v then 0 else b)) % (2 ^ (8 * d) : Nat)).toNat)
    some (leBytes 1 prm ++ leBytes w b ++ map ++ deltas)

/-- The kept bytes of a base-delta payload; none when it is malformed. The rest of the class must be zero (R501). -/
def deltaDecode (len : Nat) (p : List Byte) : Option (List Byte) :=
  let prm := fieldAt p 0 1
  let w := if prm % 2 = 1 then 4 else 8
  let dsel := prm / 2 % 4
  let zb := (prm / 8) % 2 == 1
  if prm ≥ 16 ∨ dsel = 3 ∨ (dsel = 2 ∧ w = 4) then none
  else
    let d := 2 ^ dsel
    let n := len / w
    let z := if zb then n / 8 else 0
    let m := 2 ^ (8 * w)
    if p.length < 1 + w + z + n * d then none
    else if (p.drop (1 + w + z + n * d)).any (· ≠ 0) then none
    else
      let b := fieldAt p 1 w
      let map := unpackBits (slice p (1 + w) z)
      let ds := toWords d n (p.drop (1 + w + z))
      some (ds.zipIdx.flatMap (fun ⟨v, j⟩ =>
        let base := if zb && (map[j]?).getD false then 0 else b
        leBytes w ((((base : Int) + signedDiff (2 ^ (8 * d)) v 0) % (m : Int)).toNat)))

/-! The stored form of a sheet (R118 to R124, R134). -/

/-- The four lines of a sheet; none for a poisoned line. -/
abbrev Sheet := List (Option Line)

/-- The mask of poisoned lines. -/
def pmask (sh : Sheet) : Nat := bitsNat (sh.map Option.isNone)
/-- The kept bytes: those of the lines not poisoned, in ascending order (R119). -/
def keptBytes (sh : Sheet) : List Byte := sh.flatMap (fun o => match o with | some l => lineBytes l | none => [])
/-- A sheet put together again from kept bytes. -/
def spreadLines : List Bool → List Byte → Sheet
  | [], _ => []
  | true :: l, b => none :: spreadLines l b
  | false :: l, b => some (bytesLine (b.take 64)) :: spreadLines l (b.drop 64)
/-- The sheet of zeros. -/
def zeroSheet : Sheet := [some 0, some 0, some 0, some 0]
/-- The whole sheet poisoned. -/
def deadSheet : Sheet := [none, none, none, none]

/-- The encoded candidates of a sheet in the order of R124, each with its payload after the format byte. -/
def candidates (pm : Nat) (kept : List Byte) : List (Nat × List Byte) :=
  let w0 := kept.take 8
  (if pm ≠ 0 ∧ kept.all (· = 0) then [(0, [])] else []) ++
  (if (toWords 8 (kept.length / 8) kept).all (· = leNat w0) then [(1, w0)] else []) ++
  ([(8, 1, false), (8, 1, true), (8, 2, false), (8, 2, true), (8, 4, false), (8, 4, true),
    (4, 1, false), (4, 1, true), (4, 2, false), (4, 2, true)].filterMap
    (fun (w, d, zb) => (deltaEncode w d zb kept).map (fun p => (2, p)))) ++
  [(3, packBits (millEncode (List.replicate 16 0) 0 (toWords 8 (kept.length / 8) kept)))] ++
  (if pm ≠ 0 then [(4, kept)] else [])

/-- The class, in units of 32 bytes, of an encoded candidate (R124, step 3). -/
def classOf (p : List Byte) : Nat := (1 + p.length + 31) / 32

/-- The candidate of smallest class, the first on a tie; classes above 224 bytes are not eligible (R124). -/
def bestOf : List (Nat × List Byte) → Option (Nat × List Byte)
  | [] => none
  | c :: l =>
    if 7 < classOf c.2 then bestOf l
    else match bestOf l with
      | some d => if classOf d.2 < classOf c.2 then some d else some c
      | none => some c

/-- The bytes of an encoded sheet: format byte, payload, zeros up to the class. -/
def encoded (enc pm : Nat) (p : List Byte) (cls : Nat) : List Byte := fit (32 * cls) (leBytes 1 (enc + 16 * pm) ++ p)

/-- The size code and stored bytes of a sheet (R124; R134 in a size-opaque domain, where `zeroPage` says that every other
sheet of the page carries code 0). -/
def storeForm (opq zeroPage : Bool) (sh : Sheet) : Nat × List Byte :=
  let pm := pmask sh
  let kept := keptBytes sh
  if pm = 15 then (15, [])
  else if opq then
    if pm = 0 ∧ kept.all (· = 0) ∧ zeroPage then (0, [])
    else if pm = 0 then (8, kept)
    else (classOf kept, encoded 4 pm kept (classOf kept))
  else if pm = 0 ∧ kept.all (· = 0) then (0, [])
  else match bestOf (candidates pm kept) with
    | some (enc, p) => if pm = 0 ∧ 8 ≤ classOf p then (8, kept) else (classOf p, encoded enc pm p (classOf p))
    | none => (8, kept)

/-- A stored sheet decoded; none when the decoding is malformed or uses a reserved value (R126, R501). -/
def decodeForm (code : Nat) (b : List Byte) : Option Sheet :=
  if code = 0 then some zeroSheet
  else if code = 15 then some deadSheet
  else if code = 8 then some (spreadLines [false, false, false, false] b)
  else if code < 8 then
    let f := fieldAt b 0 1
    let enc := f % 8
    let pm := f / 16
    let p := b.drop 1
    let pb := natBits 4 pm
    let len := 64 * (pb.filter (! ·)).length
    if f / 8 % 2 = 1 ∨ pm = 15 ∨ ((enc = 0 ∨ enc = 4) ∧ pm = 0) ∨ 4 < enc then none
    else
      let kept : Option (List Byte) :=
        if enc = 0 then (if p.any (· ≠ 0) then none else some (zeros len))
        else if enc = 1 then
          (if (p.drop 8).any (· ≠ 0) then none else some ((List.range (len / 8)).flatMap (fun _ => p.take 8)))
        else if enc = 2 then deltaDecode len p
        else if enc = 3 then
          (millDecode (List.replicate 16 0) 0 (len / 8) (unpackBits p)).map (fun ws => ws.flatMap (leBytes 8))
        else (if p.length < len ∨ (p.drop len).any (· ≠ 0) then none else some (p.take len))
      kept.map (spreadLines pb)
  else none

/-! Reduced-precision rounding (R137 to R139). -/

/-- Bytes, exponent bits and stored mantissa width of an element format (R137). -/
def elemFormat (elem : Nat) : Nat × Nat × Nat :=
  if elem = 0 then (4, 8, 23) else if elem = 1 then (2, 8, 7) else if elem = 2 then (2, 5, 10)
  else if elem = 3 then (1, 4, 3) else (1, 5, 2)

/-- An element rounded to k kept mantissa bits (R139). -/
def roundElem (elem k v : Nat) : Nat :=
  let (by_, eb, m) := elemFormat elem
  let sgn := v / 2 ^ (8 * by_ - 1)
  let mag := v % 2 ^ (8 * by_ - 1)
  let d := m - k
  let special := if elem = 3 then mag == 0x7F else decide (mag / 2 ^ m = 2 ^ eb - 1)
  if special then v
  else
    let r := mag % 2 ^ d
    let mg := mag - r
    let mg := if 2 ^ (d - 1) < r ∨ (r = 2 ^ (d - 1) ∧ mg / 2 ^ d % 2 = 1) then mg + 2 ^ d else mg
    let mg := if elem = 3 ∧ 0x80 - 2 ^ d < mg then 0x80 - 2 ^ d else mg
    sgn * 2 ^ (8 * by_ - 1) + mg

/-- A line with the elements whose bytes all lie in a mask rounded (R29, R138). -/
def roundLine (elem k : Nat) (m : Mask) (l : Line) : Line :=
  let n := (elemFormat elem).1
  let b := lineBytes l
  bytesLine ((List.range (64 / n)).flatMap (fun j =>
    let e := slice b (n * j) n
    if (List.range n).all (fun i => m.getLsbD (n * j + i)) then leBytes n (roundElem elem k (leNat e)) else e))

/-! Sealing. -/

/-- Multiplication by x in GF(2^128) (R152; the tweak sequence of IEEE 1619). -/
def gfDouble (a : BitVec 128) : BitVec 128 := if a.msb then (a <<< 1) ^^^ 0x87#128 else a <<< 1
/-- Multiplication in GF(2^128), Horner over the bits of the second factor (R152). -/
def gfMulAux (a b : BitVec 128) : Nat → BitVec 128 → BitVec 128
  | 0, acc => acc
  | n + 1, acc => gfMulAux a b n (if b.getLsbD n then gfDouble acc ^^^ a else gfDouble acc)
def gfMul (a b : BitVec 128) : BitVec 128 := gfMulAux a b 128 0

/-- 16-byte blocks of a data unit. -/
def toBlocks : Nat → List Byte → List (BitVec 128)
  | 0, _ => []
  | n + 1, b => BitVec.ofNat 128 (leNat (b.take 16)) :: toBlocks n (b.drop 16)
/-- The bytes of blocks. -/
def blockBytes (l : List (BitVec 128)) : List Byte := l.flatMap (fun b => leBytes 16 b.toNat)

/-- The tweak value of a sheet (R151). -/
def tweakOf (page sheet : Nat) : BitVec 128 := BitVec.ofNat 128 (page % 2 ^ 36 + 2 ^ 36 * (sheet % 16))

/-- AES-256-XTS over blocks, with an encryption or decryption of one block (IEEE 1619, R151). -/
def xtsAux (f : BitVec 128 → BitVec 128) : BitVec 128 → List (BitVec 128) → List (BitVec 128)
  | _, [] => []
  | t, b :: l => (f (b ^^^ t) ^^^ t) :: xtsAux f (gfDouble t) l
def xtsEnc (k : KeySlot) (page sheet : Nat) (p : List Byte) : List Byte :=
  blockBytes (xtsAux (Config.aes256 k.k1) (Config.aes256 k.k2 (tweakOf page sheet)) (toBlocks (p.length / 16) p))
def xtsDec (k : KeySlot) (page sheet : Nat) (c : List Byte) : List Byte :=
  blockBytes (xtsAux (Config.aes256 k.k1).symm (Config.aes256 k.k2 (tweakOf page sheet)) (toBlocks (c.length / 16) c))

/-- The context block of a sheet's tag (R152). -/
def contextBlock (page sheet dom code : Nat) : BitVec 128 :=
  BitVec.ofNat 128 (page % 2 ^ 36 + 2 ^ 36 * (sheet % 16) + 2 ^ 40 * (dom % 4096) + 2 ^ 52 * (code % 16))
/-- The nonce block of a sheet's tag (R152). -/
def nonceBlock (page sheet dom gen : Nat) : BitVec 128 :=
  BitVec.ofNat 128 (page % 2 ^ 36 + 2 ^ 36 * (sheet % 16) + 2 ^ 40 * (gen % 65536) + 2 ^ 56 * (dom % 4096) + 2 ^ 124)

/-- The hash of blocks under H: the sum of X_i · H^(n + 1 − i) (R152). -/
def hashBlocks (h : BitVec 128) (l : List (BitVec 128)) : BitVec 128 :=
  l.foldl (fun s x => gfMul (s ^^^ x) h) 0

/-- The 32-bit tag of a stored sheet (R152). -/
def sheetTag (k : KeySlot) (page sheet dom code gen : Nat) (c : List Byte) : Nat :=
  let s := hashBlocks k.h (toBlocks (c.length / 16) c ++ [contextBlock page sheet dom code])
  (s ^^^ Config.aes256 k.kt (nonceBlock page sheet dom gen)).toNat % 2 ^ 32

/-- A tag slot rebound from one generation to the next (R153). -/
def rebindTag (k : KeySlot) (page sheet dom gen gen' tag : Nat) : Nat :=
  tag ^^^ ((Config.aes256 k.kt (nonceBlock page sheet dom gen)).toNat % 2 ^ 32) ^^^
    ((Config.aes256 k.kt (nonceBlock page sheet dom gen')).toNat % 2 ^ 32)

/-- Key derivation: the counter-mode KDF of NIST SP 800-108 with HMAC-SHA-384, one block (R145): counter 1, label, zero
byte, context, length in bits. -/
def kdf256 (secret : List Byte) (label : List Nat) (context : List Byte) : BitVec 256 :=
  let msg := [0, 0, 0, 1] ++ label.map (BitVec.ofNat 8) ++ [0] ++ context ++ [0, 0, 1, 0]
  (Config.hmacSha384 secret msg).extractLsb' 128 256

/-- The ASCII codes of a label. -/
def ascii (t : String) : List Nat := t.toList.map Char.toNat

/-- The keys a domain secret gives a slot (R145). -/
def deriveSlot (dom : Nat) (secret : List Byte) : KeySlot :=
  let ctx := leBytes 2 dom
  let kt := kdf256 secret (ascii "CALIA-TAG") ctx
  { k1 := kdf256 secret (ascii "CALIA-XTS-DATA") ctx, k2 := kdf256 secret (ascii "CALIA-XTS-TWK") ctx, kt,
    h := Config.aes256 kt 0 }

/-! The page image (R127, R135). -/

/-- The offset of a sheet in the page image (R127): packed, or the slot layout of a size-opaque domain. -/
def sheetOffset (opq : Bool) (e : PageEntry) (n : Nat) : Nat :=
  if opq then 64 + 256 * n else 64 + ((List.range n).map (fun i => codeBytes (e.code i))).sum

/-- The stored bytes of a sheet: in a size-opaque domain the whole slot (R135, R151). -/
def sheetLen (opq : Bool) (c : Nat) : Nat := if opq then 256 else codeBytes c

/-- The need of a page: the parcels its image takes (R127, R135). -/
def needOf (opq : Bool) (e : PageEntry) : Nat :=
  if (List.range 16).all (fun i => e.code i == 0 || e.code i == 15) then 0
  else if opq then 9
  else (64 + ((List.range 16).map (fun i => codeBytes (e.code i))).sum + 511) / 512

end Sys2Proof.Machine
end

