-- ==== Sys2Proof/Machine/Cache.lean ====
section
/-! DEFINITION. The front cache as the other units use it: finding a line, the tree pseudo-LRU and victim choice (R102),
the write-back buffer (R103), writing a line (R27 to R29, R61), poisoning a line, discarding lines and their locks (R107).
A write-back that a victim starts is page work that waits for its page lock (R34). -/
namespace Sys2Proof.Machine

/-- The place of a way in the front cache. -/
def fcSlot (slice set way : Nat) : Nat := (slice * 4096 + set) * 16 + way
/-- The slice, the set and the way of a place. -/
def slotSlice (slot : Nat) : Nat := slot / 65536
def slotSetKey (slot : Nat) : Nat := slot / 16
def slotWay (slot : Nat) : Nat := slot % 16

/-- The places where a line may stand. -/
def lineSlots (s : State) (line : Nat) : List Nat :=
  (List.range 16).map (fcSlot (sliceOf s line) (fcSet line))

/-- The place of a line that is present. -/
def State.fcFind (s : State) (line : Nat) : Option Nat :=
  (lineSlots s line).find? (fun k => match s.fc.lines.find k with | some l => l.line == line | none => false)

/-- The record of a line that is present. -/
def State.fcLine (s : State) (line : Nat) : Option FcLine :=
  match s.fcFind line with
  | some k => s.fc.lines.find k
  | none => none

/-- The lines of one slice. -/
def State.fcOfSlice (s : State) (sl : Nat) : List (Nat × FcLine) := s.fc.lines.filter (fun x => slotSlice x.1 == sl)
/-- Dirty lines of persistent regions in a slice (R104). -/
def State.pdirty (s : State) (sl : Nat) : Nat := ((s.fcOfSlice sl).filter (fun x => x.2.dirty && x.2.pers)).length
/-- Lines a head and class hold in a slice. -/
def State.fcHeld (s : State) (sl h : Nat) (c : Cls) : Nat :=
  ((s.fcOfSlice sl).filter (fun x => x.2.owner == h && x.2.cls == c)).length
/-- A line's owner is over its front-cache share (R102, R313). -/
def State.overShare (s : State) (sl : Nat) (l : FcLine) : Bool :=
  s.rd QOS_BUD_B_FC (l.owner * 4 + l.cls.code) < s.fcHeld sl l.owner l.cls

/-! Tree pseudo-LRU over 16 ways: node 0 is the root, node i has children 2i + 1 and 2i + 2; a node's bit is set when it
points to its upper half (R102). -/

/-- Point every node on the path to a way away from it. `half` is the size of the current node's half. -/
def plruAway (t node way : Nat) : Nat → Nat
  | 0 => t
  | lvl + 1 =>
    let upper := way / 2 ^ lvl % 2 = 1
    let t := if upper then t &&& (32767 ^^^ 2 ^ node) else t ||| 2 ^ node
    plruAway t (2 * node + (if upper then 2 else 1)) way lvl

/-- Follow the pointers from a node; at a node whose pointed half holds no eligible way take the other half. -/
def plruWalk (t : Nat) (elig : Nat → Bool) (node base : Nat) : Nat → Nat
  | 0 => base
  | lvl + 1 =>
    let hasIn := fun b => (List.range (2 ^ lvl)).any (fun i => elig (b + i))
    let lo := base
    let hi := base + 2 ^ lvl
    let upper := if t.testBit node then hasIn hi else !(hasIn lo)
    plruWalk t elig (2 * node + (if upper then 2 else 1)) (if upper then hi else lo) lvl

/-- Every hit, fill and write of a line updates its set (R102). -/
def touch (slot : Nat) (s : State) : State :=
  { s with fc := { s.fc with
    plru := s.fc.plru.put (slotSetKey slot) (plruAway (s.fc.plru.get (slotSetKey slot) 0) 0 (slotWay slot) 4) } }

/-- Put or remove a line record. -/
def setSlot (slot : Nat) (l : Option FcLine) (s : State) : State :=
  { s with fc := { s.fc with lines := s.fc.lines.upd slot l } }

/-- Change the record of a line that is present. -/
def modLine (line : Nat) (f : FcLine → FcLine) (s : State) : State :=
  match s.fcFind line with
  | some k => match s.fc.lines.find k with
    | some l => setSlot k (some (f l)) s
    | none => s
  | none => s

/-- A way reserved by a fill in flight is busy (R102). -/
def State.busyWay (s : State) (slot : Nat) : Bool := s.fc.fills.any (fun f => f.ways.contains slot)

/-- The buffer entry that holds a line. -/
def State.wbLine (s : State) (line : Nat) : Option WbLine :=
  ((s.fc.wbuf.filter (fun w => w.sheet == lineSheet line)).getLast?).bind
    (fun w => w.lines.find? (fun l => l.idx == line % 4))

/-- Page work for a buffer entry, waiting for the page lock (R30, R34). -/
def addWork (page sheet : Nat) (k : WorkKind) (s : State) : State :=
  { s with
    work := s.work ++ [⟨s.nextWork, page, sheet, k, .waiting, 0, 0, .none, [], [], 0⟩]
    nextWork := s.nextWork + 1 }

/-- Gather the dirty lines of a sheet into a buffer entry and leave them clean, or remove those of `gone` (R30, R103). -/
def gatherSheet (sheet : Nat) (gone : List Nat) (mop : Option Nat) (s : State) : State :=
  let lines := sheetLines sheet
  let dirty := lines.filterMap (fun l => (s.fcLine l).bind (fun r => if r.dirty then some (l, r) else none))
  match dirty with
  | [] => forAll gone (fun l s => match s.fcFind l with | some k => setSlot k none s | none => s) s
  | (l0, r0) :: _ =>
    let id := s.fc.nextWb
    let ent : WbEntry :=
      { id, slice := sliceOf s l0, sheet, lines := dirty.map (fun x => ⟨x.1 % 4, x.2.mask, x.2.data, x.2.poison⟩),
        owner := r0.owner, cls := r0.cls, mop }
    let s := forAll dirty (fun x s => modLine x.1 (fun r => { r with dirty := false }) s) s
    let s := forAll gone (fun l s => match s.fcFind l with | some k => setSlot k none s | none => s) s
    addWork (sheetPage sheet) sheet (.writeBack id)
      { s with fc := { s.fc with wbuf := s.fc.wbuf ++ [ent], nextWb := id + 1 } }

/-- Buffer entries of a slice in use. -/
def State.wbUsed (s : State) (sl : Nat) : Nat := (s.fc.wbuf.filter (fun w => w.slice == sl)).length

/-- A place for a line in its set: an invalid way, else a victim in the order of R102, written back if dirty (R103); none
when no way is eligible or a dirty victim finds no free buffer entry. A prefetch takes no dirty or locked victim (R109). -/
def allocWay (line : Nat) (prefetch : Bool) (s : State) : Option (Nat × State) :=
  let sl := sliceOf s line
  let ways := lineSlots s line
  match ways.find? (fun k => (s.fc.lines.find k).isNone && !(s.busyWay k)) with
  | some k => some (k, s)
  | none =>
    let can := fun (w : Nat) => match ways[w]? with
      | some k => match s.fc.lines.find k with
        | some l => !l.locked && !(s.busyWay k)
        | none => false
      | none => false
    let excess := fun (w : Nat) => can w && (match ways[w]? with
      | some k => match s.fc.lines.find k with
        | some l => s.overShare sl l
        | none => false
      | none => false)
    let all := List.range 16
    let elig := if all.any excess then excess else can
    if !(all.any elig) then none
    else
      let t := s.fc.plru.get (sl * 4096 + fcSet line) 0
      let k := fcSlot sl (fcSet line) (plruWalk t elig 0 0 4)
      match s.fc.lines.find k with
      | none => some (k, s)
      | some v =>
        if v.dirty then
          if prefetch || 64 ≤ s.wbUsed sl then none
          else some (k, gatherSheet (lineSheet v.line) [v.line] none s)
        else some (k, setSlot k none s)

/-- Install a line record in a place and mark its use. -/
def install (slot : Nat) (l : FcLine) (s : State) : State := touch slot (setSlot slot (some l) s)

/-- The rounding of a region applied to the bytes of a mask (R29). -/
def regionRound (r : Region) (m : Mask) (d : Line) : Line := if r.typ = 2 then roundLine r.elem r.keep m d else d

/-- A write of a line in the order of use: the next stamp of the front cache. -/
def nextClock (s : State) : State := { s with fc := { s.fc with clock := s.fc.clock + 1 } }

/-- Remove a line's backing poison (R61). -/
def dropBackPoison (line : Nat) (s : State) : State :=
  { s with mem := { s.mem with backPoison := s.mem.backPoison.filter (· ≠ line) } }

/-- Write bytes of a line into the front cache (R27 to R29, R61, R103); none when an allocation must wait. Poisoned data
poisons the line (R329). -/
def writeLine (r : Region) (line : Nat) (data : Line) (m : Mask) (poison : Bool) (owner : Nat) (c : Cls) (s : State) :
    Option State :=
  let s := nextClock s
  let full := m == fullMask
  let put := fun (old : FcLine) (slot : Nat) (s : State) =>
    if poison then
      install slot { old with dirty := true, poison := true, mask := fullMask, data := 0, owner, cls := c, wrote := s.fc.clock } s
    else if old.poison && !full then touch slot s
    else
      let m' := old.mask ||| m
      let l := { old with dirty := true, poison := false, mask := m', data := regionRound r m' (mergeLine old.data data m),
                          owner, cls := c, wrote := s.fc.clock }
      let s := install slot l s
      if full then dropBackPoison line (deadClearLine line s) else s
  match s.fcFind line with
  | some k => match s.fc.lines.find k with
    | some l => some (put l k s)
    | none => some s
  | none =>
    if s.mem.backPoison.contains line && !full && !poison then some s
    else match allocWay line false s with
      | none => none
      | some (k, s) =>
        let blank : FcLine := { line, dirty := true, pers := r.typ = 1, locked := false, lockHead := 0, poison := false,
                                owner, cls := c, mask := 0, data := 0, wrote := s.fc.clock }
        let base := match s.wbLine line with
          | some w => { blank with mask := w.mask, data := w.data, poison := w.poison }
          | none => blank
        some (put base k s)

/-- Poison a line in the front cache, allocating it if need be, and record it (R91, step 1; R429). With no way to be had
the poison is kept at the backing location. -/
def poisonLine (line cause head : Nat) (s : State) : State :=
  let s := deadLetter line cause head false (nextClock s)
  let pers := match s.regionOf (lineExt line) with | some r => decide (r.typ = 1) | none => false
  match s.fcFind line with
  | some _ => modLine line (fun l => { l with dirty := true, poison := true, mask := fullMask, data := 0 }) s
  | none => match allocWay line false s with
    | some (k, s) =>
      install k { line, dirty := true, pers, locked := false, lockHead := 0, poison := true, owner := head,
                  cls := .standard, mask := fullMask, data := 0, wrote := s.fc.clock } s
    | none => { s with mem := { s.mem with backPoison := line :: s.mem.backPoison.filter (· ≠ line) } }

/-- The lock use of a head lowered (R107). -/
def unlockUse (h : Nat) (s : State) : State := s.wr FCA_LOCKQ_USED (s.rd FCA_LOCKQ_USED h - 1) h

/-- Discard every line that meets a test, without write-back, with its buffered copies and the write-backs waiting for them;
each head that loses a lock gets the lock-loss event when `loss` (R53, R107, R148, R296). -/
def discardLines (p : Nat → Bool) (loss : Bool) (s : State) : State :=
  let gone := s.fc.lines.filter (fun x => p x.2.line)
  let heads : Heads := gone.foldl (fun m x => if x.2.locked then m ||| headBit x.2.lockHead else m) 0
  let s := forAll gone (fun x s => if x.2.locked then unlockUse x.2.lockHead s else s) s
  let wb := s.fc.wbuf.map (fun w => { w with lines := w.lines.filter (fun l => !(p (4 * w.sheet + l.idx))) })
  let dead := (wb.filter (·.lines.isEmpty)).map (·.id)
  let s := { s with
    fc := { s.fc with lines := s.fc.lines.filter (fun x => !(p x.2.line)), wbuf := wb.filter (fun w => !w.lines.isEmpty) }
    work := s.work.filter (fun w => match w.kind with
      | .writeBack id => !(dead.contains id && w.stage == .waiting)
      | _ => true)
    mem := { s.mem with backPoison := s.mem.backPoison.filter (fun l => !(p l)) } }
  if loss then forHeads heads (fun h s => raise (128 + 8 * h + 5) s) s else s

/-! Page entries at hand. -/

/-- The entry line of a page: four page entries (R68). -/
def entryLine (page : Nat) : Nat := page / 4

/-- A page entry can be used without a fetch: its line is cached, its region is pinned-DRAM (R25), the part keeps the whole
table in DRAM (R66), or none of the line's pages holds an entry, so that its tree slot is empty (R68). -/
def State.entryKnown (s : State) (page : Nat) : Bool :=
  !s.part.persist || s.mem.cached.contains (entryLine page) ||
  (match s.pageRegion page with | some r => r.tier == 1 | none => false) ||
  (List.range 4).all (fun i => (s.mem.pages.find (4 * entryLine page + i)).isNone)

/-- An entry line that may leave the metadata cache: clean, and not of a pinned-DRAM region (R67). -/
def State.entryDroppable (s : State) (l : Nat) : Bool :=
  !(s.mem.unjournaled.any (fun p => p / 4 == l)) &&
    (match s.pageRegion (4 * l) with | some r => r.tier != 1 | none => true)

/-- The lines of the metadata cache: 256 GiB in 64-byte lines (R67). -/
def metaLines : Nat := 4294967296

/-- An entry line is now in the metadata cache, the one used last; a full cache loses the line used longest ago (R67). -/
def cacheEntry (page : Nat) (s : State) : State :=
  let rest := s.mem.cached.filter (· ≠ entryLine page)
  let rest := if rest.length < metaLines then rest
    else match rest.reverse.find? s.entryDroppable with
      | some l => rest.filter (· ≠ l)
      | none => rest
  { s with mem := { s.mem with cached := entryLine page :: rest } }

/-- A page entry is used: its line, when cached, is the one used last (R67). -/
def useEntry (page : Nat) (s : State) : State := if s.mem.cached.contains (entryLine page) then cacheEntry page s else s

/-- Start the fetch of an entry line (R69). -/
def fetchEntry (page : Nat) (s : State) : State :=
  if s.entryKnown page || s.mem.entryWait.contains (entryLine page) then s
  else { s with mem := { s.mem with entryWait := s.mem.entryWait ++ [entryLine page] } }

/-- A page entry set: its line is in the metadata cache, and a journal record carries it (R67, R69). -/
def setEntry (page : Nat) (e : PageEntry) (s : State) : State :=
  cacheEntry page { s with mem := { s.mem with pages := s.mem.pages.put page e, journal := s.mem.journal + 1,
                                                unjournaled := page :: s.mem.unjournaled.filter (· ≠ page) } }

/-- Poison a line at its backing location and record it (R39, R94, R111); ANY_POISON of its page is set (R61). -/
def poisonBacking (line cause : Nat) (s : State) : State :=
  let s := deadLetter line cause 0 false s
  let s := { s with mem := { s.mem with backPoison := line :: s.mem.backPoison.filter (· ≠ line) } }
  match s.mem.pages.find (linePage line) with
  | some e => if e.written && !e.anyPoison then setEntry (linePage line) { e with anyPoison := true } s else s
  | none => s

/-- The page lock is held: some work of the page is under way (R34). -/
def State.locked (s : State) (page : Nat) : Bool := s.work.any (fun w => w.page == page && w.stage != .waiting)

/-- A page entry moved to Cleared: GEN is kept, its run disowned, the held counts lowered, its dead letters removed (R52,
R58, R429). -/
def clearPage (page : Nat) (s : State) : State :=
  match s.mem.pages.find page with
  | none => s
  | some e =>
    let hinted := e.pinned && (match s.pageRegion page with | some r => r.tier ≠ 1 | none => false)
    let s := disownRun e.parcel e.run s
    let s := heldChange page false e.run s
    let s := if hinted then s.wr TIE_PIN_USED (s.rd TIE_PIN_USED - 1) else s
    deadClearPage page (setEntry page { PageEntry.none with gen := e.gen } s)

end Sys2Proof.Machine
end

