-- ==== Sys2Proof/Machine/HomeOps.lean ====
section
/-! DEFINITION. The home slice's own work (chapter 03): the rows of R80, the snoop filter and its evictions (R77 to R79),
sending and satisfying snoops (R82, R83, R85), the stages of a request, sheet fills and prefetch (R24, R102, R108, R109). -/
namespace Sys2Proof.Machine

/-! Requests in trackers. -/

def setStage (id : Nat) (st : Stage) (s : State) : State :=
  { s with home := { s.home with reqs := s.home.reqs.map (fun q => if q.id = id then { q with stage := st } else q) } }
def modReq (id : Nat) (f : Req → Req) (s : State) : State :=
  { s with home := { s.home with reqs := s.home.reqs.map (fun q => if q.id = id then f q else q) } }
def dropReq (id : Nat) (s : State) : State :=
  { s with home := { s.home with reqs := s.home.reqs.filter (fun q => q.id ≠ id) }
           qos := { s.qos with ovd := s.qos.ovd.filter (fun w => !(w.resource == 3 && w.req == id)) } }
def State.req (s : State) (id : Nat) : Option Req := s.home.reqs.find? (fun q => q.id == id)

/-- Requests of a slice in trackers. -/
def State.trackers (s : State) (sl : Nat) : List Req := s.home.reqs.filter (fun q => sliceOf s q.line == sl)

/-- Whether a region keeps host copies in the filter (R76). -/
def State.isDB (s : State) (line : Nat) : Bool :=
  match s.regionOf (lineExt line) with | some r => r.db | none => false

/-- The logical slice of a line, and its region's class, as counters name them (R459). -/
def State.logicalSliceOf (s : State) (line : Nat) : Nat := logicalSlice s (linePage line)
def State.lineClass (s : State) (line : Nat) : Nat :=
  match s.regionOf (lineExt line) with | some r => clsBit (clsOf r.cls) false | none => 3

/-! The snoop filter. -/

/-- The entry of a line, under the dead mask (R93, step 1); a way taken for a grant not yet made holds no head. -/
def State.filt (s : State) (line : Nat) : Option FiltEntry :=
  match s.home.filt.find line with
  | some e =>
    let hs := e.holders &&& ~~~s.home.dead
    if hs = 0 then none else some { e with holders := hs }
  | none => none

/-- Put or remove a filter entry. -/
def setFilt (line : Nat) (e : Option FiltEntry) (s : State) : State :=
  { s with home := { s.home with filt := s.home.filt.upd line e } }

/-- An eviction tracker holds the line. -/
def State.evicting (s : State) (line : Nat) : Bool := s.home.evt.any (fun t => t.line == line)

/-- A snoop is outstanding that covers the line. -/
def State.snooped (s : State) (line : Nat) : Bool := s.home.snoops.any (fun n => n.left.contains line)

/-- The entries of a set in a slice. -/
def State.filtOfSet (s : State) (sl set : Nat) : List (Nat × FiltEntry) :=
  s.home.filt.filter (fun x => x.2.slice == sl && filtSet x.1 == set)

/-- A snoop sent to a head for lines of one sheet: the message, the outstanding record, the pending flags (R82, R83, R85). -/
def sendSnoop (h line : Nat) (blk : Bool) (lines : List Nat) (k : Snp) (why : SnpFor) (s : State) : State :=
  let s := count 0x120 (some (h, s.lineClass line)) (s.logicalSliceOf line) 1 (s.emit (.snoop h (s.headLine h line) k blk))
  let s := forAll lines (fun l s => match s.home.filt.find l with
    | some e => setFilt l (some { e with pending := true }) s
    | none => s) s
  { s with home := { s.home with snoops := s.home.snoops ++ [⟨h, line, blk, lines, k, why, s.standbyNs⟩] } }

/-- The four lines of the sheet have the same holders and state, and none is busy: the case in which a request's snoops take
block form (R83). -/
def State.sheetAlike (s : State) (line : Nat) : Bool :=
  let ls := sheetLines (lineSheet line)
  match s.filt line with
  | none => false
  | some e => ls.all (fun l => match s.filt l with
    | some f => f.holders == e.holders && f.excl == e.excl && !f.pending && !f.held && !(s.snooped l) && !(s.evicting l) &&
        !(s.home.reqs.any (fun q => q.line == l && l != line))
    | none => false)

/-- The order in which victims are preferred: Shared first, then fewer holders, then the older grant (R79). -/
def victimBefore (a b : FiltEntry) : Bool :=
  let pop := fun (h : Heads) => ((List.range 16).filter (fun i => h.getLsbD i)).length
  if a.excl ≠ b.excl then !a.excl
  else if pop a.holders ≠ pop b.holders then pop a.holders < pop b.holders
  else a.granted < b.granted

/-- The victim of a full set, if one is eligible (R79). -/
def filtVictim : List (Nat × FiltEntry) → Option (Nat × FiltEntry)
  | [] => none
  | x :: l =>
    if x.2.pending || x.2.held || x.2.holders = 0 then filtVictim l
    else match filtVictim l with
      | some y => if victimBefore y.2 x.2 then some y else some x
      | none => some x

/-- The lowest eviction tracker of a slice that is free (R74). -/
def State.freeTracker (s : State) (sl : Nat) : Option Nat :=
  (List.range 256).find? (fun i => !(s.home.evt.any (fun t => t.slice == sl && t.idx == i)))

/-- Take a way for a line: true when one is free or an entry is evicted for it (R79). -/
def takeWay (line : Nat) (s : State) : Option State :=
  let sl := sliceOf s line
  let blank : FiltEntry := ⟨sl, false, 0, 0, false, true, false, 0, 0⟩
  let set := s.filtOfSet sl (filtSet line)
  if set.length < 16 then some (setFilt line (some blank) s)
  else match filtVictim set, s.freeTracker sl with
    | some (v, e), some i =>
      let s := (setFilt v none s).bump HOM_SL_EVC_EVICT 1 sl
      let s := { s with home := { s.home with evt := s.home.evt ++ [⟨sl, i, v, e.excl, e.holders, e.silent⟩] } }
      let s := forHeads (e.holders &&& ~~~s.home.dead) (fun h s => sendSnoop h v false [v] .inv (.evict sl i) s) s
      some (setFilt line (some blank) s)
    | _, _ => none

/-! The rows of R80. -/

/-- The snoops a request needs: their kind and the heads snooped. -/
def rowSnoops (k : ReqKind) (mv : Meta) (h : Nat) (e : Option FiltEntry) : Option (Snp × Heads) :=
  match e with
  | none => none
  | some e =>
    let others := e.holders &&& ~~~(headBit h)
    let inv := if others = 0 then none else some (Snp.inv, others)
    match k, mv with
    | .rd, .any => inv
    | .rd, .shared => if e.excl && others ≠ 0 then some (.data, others) else none
    | .rd, .invalid => if e.excl && others ≠ 0 then some (.cur, others) else none
    | .rdData, _ => if e.excl && others ≠ 0 then some (.data, others) else none
    | .inv, .invalid => if e.holders = 0 then none else some (.inv, e.holders)
    | .inv, _ => inv
    | .clnEvct, _ => none
    | .wr, _ => inv
    | .wrPtl, _ => inv

/-- The new state of the line, the response, and the MetaValue granted, once every snoop of the row is satisfied. -/
def rowOutcome (k : ReqKind) (mv : Meta) (h : Nat) (e : Option FiltEntry) : Option (Bool × Heads) × Ndr × Meta :=
  let hb := headBit h
  let hs : Heads := match e with | some e => e.holders | none => 0
  let keep := e.map (fun e => (e.excl, e.holders))
  match k, mv with
  | .rd, .any => (some (true, hb), .cmpE, .any)
  | .rd, .shared => (some (false, hs ||| hb), .cmpS, .shared)
  | .rd, .invalid => (keep, .cmp, .invalid)
  | .rdData, _ => if e.isNone then (some (true, hb), .cmpE, .any) else (some (false, hs ||| hb), .cmpS, .shared)
  | .inv, .any => (some (true, hb), .cmpE, .any)
  | .inv, .shared => (some (false, hb), .cmpS, .shared)
  | .inv, .invalid => (none, .cmp, .invalid)
  | .clnEvct, _ =>
    (if hs &&& ~~~hb = 0 then none else keep.map (fun x => (x.1, x.2 &&& ~~~hb)), .cmp, .invalid)
  | .wr, .any | .wrPtl, .any => (some (true, hb), .cmp, .any)
  | .wr, .shared | .wrPtl, .shared => (some (false, hb), .cmp, .shared)
  | .wr, .invalid | .wrPtl, .invalid => (none, .cmp, .invalid)

/-- The hold stamp of a grant made now: its end in units of 8 cycles, 10 bits (R77, R88). -/
def State.holdStamp (s : State) : Nat := (s.time.cycle / 8 + s.rd HOM_CFG_HOLD) % 1024

/-- Apply the outcome of a row to the filter; an Exclusive grant by Cmp-E starts the hold time (R87, R88). -/
def applyRow (line : Nat) (st : Option (Bool × Heads)) (grant : Bool) (s : State) : State :=
  match st with
  | none => setFilt line none s
  | some (excl, hs) =>
    let old := s.home.filt.get line ⟨sliceOf s line, false, 0, 0, false, false, false, 0, 0⟩
    let silent := old.silent &&& hs
    let fresh := excl && grant
    let s' := setFilt line (some
      { old with excl, holders := hs, pending := false, silent, timedOut := old.timedOut && silent ≠ 0,
                 stamp := if fresh then s.holdStamp else old.stamp,
                 held := if fresh then s.rd HOM_CFG_HOLD ≠ 0 else old.held && excl && old.holders == hs,
                 granted := if old.holders == hs && old.excl == excl then old.granted else s.home.grants }) s
    { s' with home := { s'.home with grants := s'.home.grants + 1 } }

/-- The DevLoad of a response: from the regulated trackers in use in the slice and whether the request was demoted (R321): 0
Light Load, 1 Optimal Load, 2 Moderate Overload, 3 Severe Overload. -/
def State.devLoad (s : State) (sl : Nat) (demoted : Bool) : Nat :=
  let used := (s.trackers sl).length
  if demoted || 90 * 960 < 100 * used then 3 else if 75 * 960 < 100 * used then 2 else if 50 * 960 < 100 * used then 1 else 0

/-- A response to a request, unless its head was reset since (R338). -/
def respond (q : Req) (o : Out) (s : State) : State := if q.mute then s else s.emit o

/-- Complete a request: response messages, the filter's new state, the tracker freed (R80, R81). HDM-H lines have no filter
state and reads carry MetaValue I (R76). -/
def completeReq (q : Req) (data : Line) (poison : Bool) (s : State) : State :=
  let load := s.devLoad (sliceOf s q.line) q.ovd
  let s := dropReq q.id s
  let isRead := q.kind == .rd || q.kind == .rdData
  if s.isDB q.line then
    let (st, ndr, mv) := rowOutcome q.kind q.mv q.head (s.filt q.line)
    let s := applyRow q.line st (ndr == .cmpE) s
    let s := if isRead then respond q (.memData q.head q.haddr (if poison then 0 else data) poison mv load) s else s
    respond q (.ndr q.head q.haddr ndr load) s
  else if isRead then respond q (.memData q.head q.haddr (if poison then 0 else data) poison .invalid load) s
  else respond q (.ndr q.head q.haddr .cmp load) s

/-- Complete a request whose line was poisoned while it waited, or that may not proceed: a read with poison and MetaValue I,
and Cmp; a write with Cmp and its data discarded (R91, R93, R94). -/
def completePoisoned (q : Req) (s : State) : State :=
  let load := s.devLoad (sliceOf s q.line) q.ovd
  let s := dropReq q.id s
  let s := match s.home.filt.find q.line with
    | some e => if e.holders = 0 then setFilt q.line none s else setFilt q.line (some { e with pending := s.snooped q.line }) s
    | none => s
  let s := if q.kind == .rd || q.kind == .rdData then respond q (.memData q.head q.haddr 0 true .invalid load) s else s
  respond q (.ndr q.head q.haddr .cmp load) s

/-! Data. -/

/-- What a lookup of a line finds. -/
inductive Look where
  | hit (data : Line) (poison : Bool)
  | zero
  | entry
  | fill
  deriving DecidableEq, Repr

/-- Look a line up: front cache, write-back buffer, page entry (R24, R28, R60, R103). -/
def State.look (s : State) (line : Nat) : Look :=
  let backing : Look :=
    if !(s.entryKnown (linePage line)) then .entry
    else
      let e := s.entry (linePage line)
      if e.written && e.run ≠ 0 then .fill
      else if e.written && e.code (line / 4 % 16) = 15 then .hit 0 true
      else if s.mem.backPoison.contains line then .hit 0 true
      else .zero
  match s.fcLine line with
  | some l => if l.poison then .hit 0 true else if l.mask = fullMask then .hit l.data false else backing
  | none => match s.wbLine line with
    | some w => if w.poison then .hit 0 true else if w.mask = fullMask then .hit w.data false else backing
    | none => if s.mem.backPoison.contains line then .hit 0 true else backing

/-- Install one line of a filled sheet: absent lines are installed, a partly valid line is merged under its mask and rounded,
a present one is not overwritten (R28, R29, R102). -/
def fillLine (r : Region) (line : Nat) (v : Option Line) (head : Nat) (c : Cls) (way : Option Nat) (s : State) : State :=
  match s.fcFind line with
  | some k => match s.fc.lines.find k with
    | some l =>
      if l.poison || l.mask = fullMask then s
      else match v with
        | some d => install k { l with mask := fullMask, data := regionRound r fullMask (mergeLine d l.data l.mask) } s
        | none => install k { l with mask := fullMask, poison := true, data := 0 } s
    | none => s
  | none =>
    if (s.wbLine line).isSome then s
    else match way with
      | some k =>
        install k { line, dirty := false, pers := r.typ = 1, locked := false, lockHead := 0, poison := v.isNone, owner := head,
                    cls := c, mask := fullMask, data := v.getD 0, wrote := s.fc.clock } s
      | none => s

/-- What a page without stored bytes holds for a line: zero, or poison where its sheet is dead or the line is poisoned at its
backing location (R57, R60, R61). -/
def State.bareLine (s : State) (line : Nat) : Option Line :=
  let e := s.entry (linePage line)
  if s.mem.backPoison.contains line || (e.written && e.code (line / 4 % 16) == 15) then none else some 0

/-- The bytes of a line whose page stores nothing: those held in the front cache or the write-back buffer, over zeros. -/
def State.bareData (s : State) (line : Nat) : Line :=
  match s.fcLine line with
  | some l => mergeLine 0 l.data l.mask
  | none => match s.wbLine line with
    | some w => mergeLine 0 w.data w.mask
    | none => 0

/-- A zero fill: every line of the sheet clean and zero (R60, R102). -/
def zeroFill (r : Region) (sheet head : Nat) (c : Cls) (s : State) : State :=
  forAll (sheetLines sheet) (fun l s =>
    let v := s.bareLine l
    match s.fcFind l with
    | some _ => fillLine r l v head c none s
    | none => match allocWay l false s with
      | some (k, s) => fillLine r l v head c (some k) s
      | none => s) s

/-- Choose the ways of the absent lines of a sheet (R102). -/
def chooseWays (prefetch : Bool) : List Nat → State → Option (List Nat × State)
  | [], s => some ([], s)
  | l :: ls, s =>
    if (s.fcFind l).isSome then chooseWays prefetch ls s
    else match allocWay l prefetch s with
      | none => none
      | some (k, s) =>
        let hold : Fill := ⟨0, .prefetch, 0, .bulk, [k], .none⟩
        let s' := { s with fc := { s.fc with fills := s.fc.fills ++ [hold] } }
        match chooseWays prefetch ls s' with
        | none => none
        | some (ks, s'') => some (k :: ks, { s'' with fc := { s''.fc with fills := s''.fc.fills.erase hold } })

/-- Start the fetch of a sheet, joining one in flight; none when no way is to be had (R24, R102, R109). -/
def startFill (sheet : Nat) (why : FillFor) (head : Nat) (c : Cls) (s : State) : Option State :=
  if s.fc.fills.any (fun f => f.sheet == sheet) then some s
  else match chooseWays (why == .prefetch) (sheetLines sheet) s with
    | none => none
    | some (ks, s) =>
      let s := if why = .prefetch then count 0x210 (some (head, clsBit c false)) (s.logicalSliceOf (4 * sheet)) 1 s else s
      some { s with fc := { s.fc with fills := s.fc.fills ++ [⟨sheet, why, head, c, ks, s.entry (sheetPage sheet)⟩] } }

/-- A write to a persistent region must wait: the slice stands at PDMAX, or the Tailrace is unarmed outside a flush (R104,
R352). -/
def State.pdHeld (s : State) (r : Region) (line : Nat) : Bool :=
  let dirty := match s.fcLine line with | some l => l.dirty | none => false
  r.typ = 1 && !dirty &&
    (decide (s.rd FCA_CFG_PDMAX ≤ s.pdirty (sliceOf s line)) || (!(s.rdB TLR_STAT_ARMED) && !(s.rdB TLR_STAT_ACTIVE)))

/-- The lines of early cleaning in the order of use (R104): the persistent dirty line least recently written. -/
def State.oldestDirty (s : State) (sl : Nat) : Option FcLine :=
  (s.fcOfSlice sl).foldl (fun a x =>
    if x.2.dirty && x.2.pers then
      match a with
      | some b => if x.2.wrote < b.wrote then some x.2 else some b
      | none => some x.2
    else a) none

/-- Early cleaning: from PDMAX − 256 dirty persistent lines up, write back the sheet least recently written, until the count
is below that or the buffer is full (R104). -/
def earlyClean (sl : Nat) : Nat → State → State
  | 0, s => s
  | n + 1, s =>
    if s.pdirty sl + 256 < s.rd FCA_CFG_PDMAX || 64 ≤ s.wbUsed sl then s
    else match s.oldestDirty sl with
      | some l => earlyClean sl n (gatherSheet (lineSheet l.line) [] none s)
      | none => s

/-- The data stage of a request: every snoop of its row is satisfied. -/
def dataStage (q : Req) (s : State) : State :=
  match s.regionOf (lineExt q.line) with
  | none => completePoisoned q s
  | some r =>
    match q.kind with
    | .rd | .rdData =>
      let s := useEntry (linePage q.line) s
      match s.look q.line with
      | .hit d p =>
        let s := match s.fcFind q.line with | some k => touch k s | none => s
        let s := count 0x201 (some (q.head, clsBit q.cls q.ovd)) (s.logicalSliceOf q.line) 1 s
        completeReq q d p s
      | .zero => completeReq q (s.bareData q.line) false
          (zeroFill r (lineSheet q.line) q.head q.cls s)
      | .entry => setStage q.id .entry (fetchEntry (linePage q.line) s)
      | .fill => match startFill (lineSheet q.line) .demand q.head q.cls s with
        | some s => setStage q.id .fill s
        | none => setStage q.id .alloc s
    | .inv | .clnEvct => completeReq q 0 false s
    | .wr | .wrPtl =>
      if s.pdHeld r q.line then
        setStage q.id .pdirty (raiseLimited (256 + 8 * logicalSlice s (linePage q.line) + 5) 0 s)
      else match writeLine r q.line q.data (if q.kind == .wr then fullMask else q.mask) q.poison q.head q.cls s with
        | none => setStage q.id .alloc s
        | some s =>
          let s := if q.poison then deadLetter q.line 6 q.head false s else s
          earlyClean (sliceOf s q.line) 64 (completeReq q 0 false s)

/-- Take up a request: the row's way, hold and snoops, then its data (R79, R80, R87). -/
def serveReq (id : Nat) (s : State) : State :=
  match s.req id with
  | none => s
  | some q =>
    if !(s.isDB q.line) then dataStage q s
    else if s.evicting q.line || s.snooped q.line ||
        (s.home.reqs.takeWhile (fun p => p.id ≠ id)).any (fun p => p.line == q.line) then setStage id .queued s
    else
      let e := s.filt q.line
      let (st, _, _) := rowOutcome q.kind q.mv q.head e
      let needWay := e.isNone && st.isSome && (s.home.filt.find q.line).isNone
      match (if needWay then takeWay q.line s else some s) with
      | none => setStage id .way s
      | some s =>
        let q := if q.kind == .rdData then
            { q with kind := .rd, mv := if e.isNone then .any else .shared } else q
        let s := modReq id (fun _ => q) s
        match rowSnoops q.kind q.mv q.head e with
        | none => dataStage q s
        | some (k, hs) =>
          if (match e with | some e => e.held | none => false) then setStage id .hold s
          else
            let blk := s.sheetAlike q.line
            let lines := if blk then sheetLines (lineSheet q.line) else [q.line]
            setStage id .snoop (forHeads hs (fun h s => sendSnoop h q.line blk lines k (.request id) s) s)

/-- A new request in a tracker, taken up at once when nothing of its line is in progress (R75). -/
def acceptReq (h : Nat) (k : ReqKind) (line haddr : Nat) (mv : Meta) (data : Line) (m : Mask) (poison : Bool) (c : Cls)
    (s : State) : State :=
  let id := s.home.nextReq
  let sl := sliceOf s line
  let share := s.rd QOS_BUD_B_TRK (h * 4 + c.code)
  let mine := (s.trackers sl).filter (fun q => q.head == h && q.cls == c)
  let ovd := share ≤ mine.length
  let q : Req := ⟨id, h, k, line, haddr, mv, data, m, poison, c, ovd, .queued, false⟩
  let s := { s with home := { s.home with reqs := s.home.reqs ++ [q], nextReq := id + 1 } }
  let s := if k = .rd ∨ k = .rdData then count 0x104 (some (h, clsBit c ovd)) (s.logicalSliceOf line) 1 s else s
  let s := if ovd then
      { count 0x900 (some (h, clsBit c ovd)) (s.logicalSliceOf line) 1 (s.bump QOS_DEM_DEM 1 h) with qos := { s.qos with ovd := s.qos.ovd ++ [⟨id, 3, false⟩] } } else s
  if s.home.reqs.any (fun p => p.line == line && p.id ≠ id) then s else serveReq id s

/-- Go on with a request when no snoop sent for it is outstanding any more (R80, R82). -/
def resumeReq (id : Nat) (s : State) : State :=
  match s.req id with
  | some q =>
    if q.stage == .snoop && !(s.home.snoops.any (fun n => n.why == .request id)) then dataStage q s else s
  | none => s

/-- A silent holder has answered, or is gone: the timed-out flag clears with the last (R86). -/
def unsilence (line h : Nat) (s : State) : State :=
  match s.home.filt.find line with
  | some e =>
    let silent := e.silent &&& ~~~(headBit h)
    setFilt line (some { e with silent, timedOut := e.timedOut && silent ≠ 0 }) s
  | none => s

/-- A head's state for a line as a response reports it (R82): removed, Shared, or Exclusive. -/
def holderAfter (line h : Nat) (r : Rsp) (s : State) : State :=
  match s.home.filt.find line with
  | none => s
  | some e =>
    if !(e.holders.getLsbD h) then s
    else match r with
      | .i =>
        let hs := e.holders &&& ~~~(headBit h)
        if hs = 0 then
          (if s.home.reqs.any (fun q => q.line == line && q.stage != .queued) then
             setFilt line (some { e with holders := 0, excl := false, held := false }) s
           else setFilt line none s)
        else setFilt line (some { e with holders := hs, held := false }) s
      | .s => setFilt line (some { e with excl := false, held := false }) s
      | .e => s

/-- The weakest and strongest response a snoop permits: the response taken for one that is offered (R82). -/
def permitted (k : Snp) (r : Rsp) : Rsp :=
  match k, r with
  | .inv, _ => .i
  | .data, .e => .i
  | .cur, r => r
  | .data, r => r

/-- Whether a response is permitted for a snoop (R82). -/
def isPermitted (k : Snp) (r : Rsp) : Bool :=
  match k, r with
  | .inv, .i => true
  | .inv, _ => false
  | .data, .e => false
  | _, _ => true

/-- A write's MetaValue taken as a response, down to the strongest holder state the snoop permits (R82). -/
def writeAs (k : Snp) (mv : Meta) : Rsp :=
  match mv, k with
  | .invalid, _ => .i
  | .shared, .inv => .i
  | .shared, _ => .s
  | .any, .cur => .e
  | .any, .data => .s
  | .any, .inv => .i

/-- A snoop of a head that covers a line. -/
def State.snoopOf (s : State) (h line : Nat) : Option Snoop :=
  s.home.snoops.find? (fun n => n.head == h && n.left.contains line)

/-- An eviction tracker is freed when no holder of its line is left (R79). -/
def evictDone (sl i h : Nat) (s : State) : State :=
  let evt := s.home.evt.map (fun t =>
    if t.slice = sl ∧ t.idx = i then
      { t with holders := t.holders &&& ~~~(headBit h), silent := t.silent &&& ~~~(headBit h) } else t)
  { s with home := { s.home with evt := evt.filter (fun t => t.holders ≠ 0) } }

/-- Satisfy a snoop of head h for a line with a response (R82, R86). `count`: the consecutive-timeout count is reset, as by a
satisfaction in time (R92). The request it was sent for goes on once its snoops are all satisfied. -/
def satisfy (n : Snoop) (line : Nat) (r : Rsp) (count : Bool) (s : State) : State :=
  let left := n.left.filter (· ≠ line)
  let s := { s with home := { s.home with
    snoops := s.home.snoops.filterMap (fun m => if m = n then (if left.isEmpty then none else some { n with left }) else some m) } }
  let s := match n.why with
    | .evict sl i => evictDone sl i n.head s
    | _ => holderAfter line n.head r s
  let s := unsilence line n.head s
  let s := match s.home.filt.find line with
    | some e => setFilt line (some { e with pending := s.snooped line }) s
    | none => s
  let s := if count && left.isEmpty then s.wr HOM_HEAD_TO_RUN 0 n.head else s
  match n.why with
  | .request id => resumeReq id s
  | .courier key => { s with cou := { s.cou with clear := (key, line) :: s.cou.clear.filter (· ≠ (key, line)) } }
  | _ => s

end Sys2Proof.Machine
end

