-- ==== Sys2Proof/Machine/LogOps.lean ====
section
/-! DEFINITION. The Logbook store as other units use it (chapter 20): CRC-32C, current copies, the choice of a shadow page,
the energy and protection tests, starting and committing a page write, two-copy objects, root records, the fault log
ring; and the integrity tree of the page entries (R68), whose root the root record carries. -/
namespace Sys2Proof.Machine

/-! CRC-32C (R297, R445): reflected polynomial, initial value and final exclusive-or all ones. -/

def crcBit (c : Nat) : Nat := if c % 2 = 1 then (c / 2) ^^^ 0x82F63B78 else c / 2
def crcByte (c : Nat) (b : Byte) : Nat :=
  crcBit (crcBit (crcBit (crcBit (crcBit (crcBit (crcBit (crcBit (c ^^^ b.toNat))))))))
/-- The running CRC register after some bytes. -/
def crcRun (c : Nat) (l : List Byte) : Nat := l.foldl crcByte c
/-- CRC-32C of some bytes. -/
def crc32c (l : List Byte) : Nat := crcRun 0xFFFFFFFF l ^^^ 0xFFFFFFFF

/-! The integrity tree (R68). -/

/-- The 128 bits of a page entry (R56). -/
def PageEntry.bytes (e : PageEntry) : List Byte :=
  leBytes 16 (e.parcel + e.run * 2 ^ 39 + e.size.toNat * 2 ^ 43 + e.gen * 2 ^ 107 + e.written.toNat * 2 ^ 123 +
    e.tier.toNat * 2 ^ 124 + e.pinned.toNat * 2 ^ 125 + e.repack.toNat * 2 ^ 126 + e.anyPoison.toNat * 2 ^ 127)

/-- A MAC slot: zero for an empty child, else the MAC, with one in the place of zero (R68). -/
def macSlot (key : BitVec 256) (content : List Byte) (lvl idx : Nat) : Nat :=
  let m := (Config.mac64 key content lvl idx).toNat
  if m = 0 then 1 else m

/-- The MAC slot of a node of the tree: level 0 is an entry line, level L a node of eight children. -/
def treeMac (key : BitVec 256) (pages : Map PageEntry) : Nat → Nat → Nat
  | 0, idx =>
    if pages.any (fun x => x.1 / 4 == idx) then
      macSlot key ((List.range 4).flatMap (fun i => (pages.get (4 * idx + i) .none).bytes)) 0 idx
    else 0
  | lvl + 1, idx =>
    if pages.any (fun x => x.1 / (4 * 8 ^ (lvl + 1)) == idx) then
      macSlot key ((List.range 8).flatMap (fun i => leBytes 8 (treeMac key pages lvl (8 * idx + i)))) (lvl + 1) idx
    else 0

/-- The two root nodes of eight MACs each, as bytes. -/
def treeRoots (key : BitVec 256) (pages : Map PageEntry) : List Byte :=
  (List.range 16).flatMap (fun i => leBytes 8 (treeMac key pages 10 i))

/-- The MAC over the extent history table. -/
def historyMac (key : BitVec 256) (hist : List Nat) : Nat := macSlot key (hist.flatMap (leBytes 4)) 11 2

/-! Pages. -/

/-- First physical page, physical pages and data pages of a partition (R443). -/
def State.part3 (s : State) (p : Nat) : Nat × Nat × Nat := (s.rd LOG_PART_BASE p, s.rd LOG_PART_PAGES p, s.rd LOG_PART_DATA p)

/-- The listed pages of a partition. -/
def State.partPages (s : State) (p : Nat) : List (Nat × LogPage) :=
  let (b, n, _) := s.part3 p
  s.book.pages.filter (fun x => b ≤ x.1 && x.1 < b + n)

/-- The CRC of a page's tag (R445). -/
def tagCrc (data : List Byte) (lpage seq wear : Nat) : Nat :=
  crc32c (data ++ leBytes 2 lpage ++ leBytes 4 seq ++ leBytes 3 wear)

/-- A page whose content counts: committed, its CRC right, not retired (R447). -/
def LogPage.good (g : LogPage) : Bool := g.mark && !g.retired && g.crc == tagCrc g.data g.lpage g.seq g.wear

/-- The current copy of a logical page: the committed copy of highest SEQ (R449). -/
def State.currentCopy (s : State) (p l : Nat) : Option (Nat × LogPage) :=
  ((s.partPages p).filter (fun x => x.2.good && x.2.lpage == l)).foldl (fun a x =>
    match a with
    | some y => if y.2.seq < x.2.seq then some x else some y
    | none => some x) none

/-- The data of a logical page; one never written reads as zeros, but for the pages of the identity partition that manufacture
fills (log entry 9). -/
def State.logPage (s : State) (p l : Nat) : List Byte :=
  match s.currentCopy p l with
  | some (_, g) => g.data
  | none => if p = 0 ∧ l < 11 then (List.range 256).map (fun i => Config.identityByte (256 * l + i)) else zeros 256

/-- Bytes of a partition. -/
def State.logRead (s : State) (p off n : Nat) : List Byte :=
  slice ((List.range ((off % 256 + n + 255) / 256)).flatMap (fun i => s.logPage p (off / 256 + i))) (off % 256) n

/-- A page is in use: the current copy of its logical page. -/
def State.pageUsed (s : State) (p : Nat) (x : Nat × LogPage) : Bool :=
  x.2.good && (match s.currentCopy p x.2.lpage with | some y => y.1 == x.1 | none => false)

/-- Retired pages of a partition. -/
def State.retiredPages (s : State) (p : Nat) : Nat := ((s.partPages p).filter (·.2.retired)).length
/-- Free pages of a partition (R451). -/
def State.freePages (s : State) (p : Nat) : Nat :=
  (s.part3 p).2.1 - s.retiredPages p - ((s.partPages p).filter (s.pageUsed p)).length

/-- The highest WEAR of a partition, which an erased page is taken to have (R449). -/
def State.topWear (s : State) (p : Nat) : Nat := (s.partPages p).foldl (fun a x => if x.2.retired then a else max a x.2.wear) 0

/-- The shadow: the free page of lowest WEAR, ties to the lower page (R446), with its WEAR. -/
def State.shadow (s : State) (p : Nat) : Option (Nat × Nat) :=
  let (b, n, _) := s.part3 p
  let listed := s.partPages p
  let blank := firstBlank (listed.map (·.1)) (b + n) (listed.length + 1) b
  (listed.filter (fun x => !x.2.retired && !(s.pageUsed p x))).foldl (fun a x =>
    match a with
    | some (k, w) => if x.2.wear < w || (x.2.wear == w && x.1 < k) then some (x.1, x.2.wear) else some (k, w)
    | none => some (x.1, x.2.wear)) (blank.map (fun k => (k, s.topWear p)))
where
  firstBlank (l : List Nat) (bound : Nat) : Nat → Nat → Option Nat
    | 0, _ => none
    | fuel + 1, g => if bound ≤ g then none else if l.contains g then firstBlank l bound fuel (g + 1) else some g

/-- The energy test of R450. -/
def State.logEnergy (s : State) : Bool :=
  if s.rdB TLR_STAT_ACTIVE then decide (s.rd TLR_PLAN_VABORT ≤ s.rd TLR_STAT_BANKV) else s.rdB TLR_STAT_ARMED

/-! Two-copy objects (R453). -/

/-- The payload and SEQ of a copy, when its CRC is right. -/
def copyOf (b : List Byte) : Option (Nat × List Byte) :=
  if fieldAt b 248 4 = crc32c (slice b 0 248) ∧ fieldAt b 0 8 ≠ 0 then some (fieldAt b 0 8, slice b 8 240) else none

/-- The current SEQ and payload of the object in pages l and l + 1, and the page the next update writes. -/
def State.twoCopy (s : State) (l : Nat) : Nat × List Byte × Nat :=
  match copyOf (s.logPage 6 l), copyOf (s.logPage 6 (l + 1)) with
  | some (a, x), some (b, y) => if a < b then (b, y, l) else (a, x, l + 1)
  | some (a, x), none => (a, x, l + 1)
  | none, some (b, y) => (b, y, l)
  | none, none => (0, zeros 240, l)

/-- A page of a two-copy object. -/
def copyPage (seq : Nat) (payload : List Byte) : List Byte :=
  let body := leBytes 8 seq ++ fit 240 payload
  body ++ leBytes 4 (crc32c body) ++ zeros 4

/-- A durable counter of set 0 (R454). -/
def State.durable (s : State) (idx : Nat) : Nat := fieldAt (s.twoCopy 64).2.1 (8 * idx) 8

/-- A counter's page after an update. -/
def State.counterPage (s : State) (idx value : Nat) (larger : Bool) : Nat × List Byte :=
  let (seq, pay, l) := s.twoCopy 64
  let old := fieldAt pay (8 * idx) 8
  (l, copyPage (seq + 1) (patch pay (8 * idx) (leBytes 8 (if larger then max old value else min (old + value) (2 ^ 64 - 1)))))

/-- A root record's page (R455): record n in pair n mod 32, in the older copy. -/
def State.rootPage (s : State) (kind : Nat) : Nat × List Byte :=
  let (_, _, l) := s.twoCopy (2 * (s.book.roots % 32))
  let key := s.keys.metaKey.getD 0
  let pay := leBytes 8 kind ++ treeRoots key s.mem.durable ++ leBytes 8 (historyMac key s.mem.history) ++
    leBytes 8 s.mem.committed ++ leBytes 8 s.stamp
  (l, copyPage (s.book.roots + 1) pay)

/-! The fault log ring (R456). -/

/-- The 32 bytes of a fault record (R420). -/
def FaultRec.bytes (r : FaultRec) : List Byte :=
  leBytes 8 r.time ++ leBytes 2 r.unit ++ leBytes 1 r.cls ++ leBytes 1 r.flags ++ leBytes 2 r.src ++ zeros 2 ++
    leBytes 8 r.d1 ++ leBytes 8 r.d2

/-- The head page: the data page of highest SEQ; page 0 of an empty ring. -/
def State.ringHead (s : State) : Nat × List Byte :=
  match ((s.partPages 7).filter (·.2.good)).foldl (fun (a : Option (Nat × LogPage)) x =>
      match a with
      | some y => if y.2.seq < x.2.seq then some x else some y
      | none => some x) none with
  | some (_, g) => (g.lpage, g.data)
  | none => (0, zeros 256)

/-- Records held in a ring page. -/
def ringUsed (data : List Byte) : Nat :=
  ((List.range 8).filter (fun i => (slice data (32 * i) 32).any (· ≠ 0))).length

/-- The ring page to write for some records, and how many of them it takes. -/
def State.ringPage (s : State) (recs : List FaultRec) : Nat × List Byte × Nat :=
  let (l, data) := s.ringHead
  let used := ringUsed data
  if used < 8 then
    let n := min (8 - used) recs.length
    (l, patch data (32 * used) ((recs.take n).flatMap FaultRec.bytes), n)
  else
    let n := min 8 recs.length
    ((l + 1) % 864, fit 256 ((recs.take n).flatMap FaultRec.bytes), n)

/-! Requests. -/

def setBook (b : Book) (s : State) : State := { s with book := b }

/-- The logical page and image a job writes next, and the records it takes. -/
def State.jobPage (s : State) (p : Nat) : LogJob → Nat × List Byte × List FaultRec
  | .bytes off data =>
    (off / 256, patch (s.logPage p (off / 256)) (off % 256) (data.take (256 - off % 256)), [])
  | .ring =>
    let recs := s.flt.queue ++ s.flt.extra
    let (l, img, n) := s.ringPage recs
    (l, img, recs.take n)
  | .record r => let (l, img, _) := s.ringPage [r]; (l, img, [])
  | .counter i v m => let (l, img) := s.counterPage i v m; (l, img, [])
  | .root k => let (l, img) := s.rootPage k; (l, img, [])

/-- What is left of a job after its page is written. -/
def LogJob.rest : LogJob → Option LogJob
  | .bytes off data =>
    let n := 256 - off % 256
    if n < data.length then some (.bytes (off + n) (data.drop n)) else none
  | _ => none

/-- A job ends within its partition (R448). -/
def LogJob.fits (j : LogJob) (pages : Nat) : Bool :=
  match j with
  | .bytes off data => off + data.length ≤ 256 * pages
  | _ => true

/-- The next request: lowest priority code, then order of arrival (R452). -/
def nextWrite : List LogWrite → Option LogWrite
  | [] => none
  | w :: l => match nextWrite l with
    | none => some w
    | some v => if v.prio < w.prio then some v else some w

/-- Retire a physical page (R451): a spare is taken, event 977, and event 978 when no free page remains. -/
def retirePage (p k : Nat) (s : State) : State :=
  let old := s.book.pages.get k ⟨0xFFFF, 0, s.topWear p, false, 0, false, []⟩
  let s := raise 977 (setBook { s.book with pages := s.book.pages.put k { old with retired := true, mark := false } } s)
  let s := setBook { s.book with queue := s.book.queue ++ [⟨s.book.nextId, 2, 6, .counter 6 1 false, true⟩],
                                 nextId := s.book.nextId + 1 } s
  if s.freePages p = 0 then raise 978 s else s

/-- Choose the shadow, retiring pages whose next erase would reach 1,000,000 (R446, R451). -/
def chooseShadow (p : Nat) : Nat → State → Option (Nat × Nat) × State
  | 0, s => (none, s)
  | n + 1, s => match s.shadow p with
    | none => (none, s)
    | some (k, w) => if 1000000 ≤ w + 1 then chooseShadow p n (retirePage p k s) else (some (k, w), s)

/-- A request refused with a result of LOG_STAT; Busy raises event 976 and is retried after 1 ms where its requester does so
(R450). -/
def refuseWrite (w : LogWrite) (res : Nat) (s : State) : State :=
  let s := s.wr LOG_STAT_LASTRES res
  let s := if res = 1 then raiseLimited 976 0 (s.bump LOG_CNT_BUSY 1) else s
  let s := if res = 5 then mgmtFault 3 31 s else s
  if w.retries && (res == 1 || res == 5) then setBook { s.book with refused := s.book.refused ++ [w] } s else s

/-- The test a page write must pass to start: none, or the result it is refused with (R444, R448, R450). -/
def State.writeTest (s : State) (w : LogWrite) : Option Nat :=
  if !(w.job.fits (s.part3 w.part).2.2) then some 3
  else if s.rdB LOG_PART_PROT w.part && !s.pins.logwpN then some 2
  else if !s.logEnergy then some 1
  else none

/-- Start the page writes that wait, one at a time (R446 step 1, R452). -/
def logPump : Nat → State → State
  | 0, s => s
  | n + 1, s =>
    if s.book.run.isSome then s
    else match nextWrite s.book.queue with
      | none => s
      | some w =>
        let s := setBook { s.book with queue := s.book.queue.filter (· ≠ w) } s
        match s.writeTest w with
        | some res => logPump n (refuseWrite w res s)
        | none => match chooseShadow w.part 4096 s with
          | (none, s) => logPump n (refuseWrite w 4 (raise 978 s))
          | (some (k, wear), s) =>
            let (l, img, recs) := s.jobPage w.part w.job
            let s := if w.job = .ring then { s with flt := { s.flt with queue := s.flt.queue.drop recs.length
                                                                        extra := s.flt.extra.drop (recs.length - s.flt.queue.length) } } else s
            let s := match w.job with | .root _ => { s with mem := { s.mem with rootMark := s.mem.records.length } } | _ => s
            let blank : LogPage := ⟨0xFFFF, 0, wear + 1, false, 0, false, []⟩
            setBook { s.book with pages := s.book.pages.put k blank, run := some ⟨w, l, img, k, 0, recs⟩ } s

/-- A request enters the queue, and starts when nothing runs (R452). -/
def logSend (prio p : Nat) (job : LogJob) (retries : Bool) (s : State) : State :=
  let w : LogWrite := ⟨s.book.nextId, prio, p, job, retries⟩
  logPump (s.book.queue.length + 2) (setBook { s.book with queue := s.book.queue ++ [w], nextId := s.book.nextId + 1 } s)

/-- The fault log ring takes the records that wait, when no write of it waits or runs (R420, R456). -/
def pumpRing (s : State) : State :=
  let mine := fun (w : LogWrite) => w.job == .ring
  if (s.flt.queue.isEmpty && s.flt.extra.isEmpty) || s.book.queue.any mine || s.book.refused.any mine ||
      (match s.book.run with | some r => mine r.req | none => false) then s
  else logSend 2 7 .ring true s

/-- Journal records applied to entries, in order (R70). -/
def replay (base : Map PageEntry) (l : List (Nat × Option PageEntry)) : Map PageEntry :=
  l.foldl (fun m r => m.upd r.1 r.2) base

/-- A root record is durable: the chain of journal records starts anew from what it covers (R70). -/
def rebase (s : State) : State :=
  { s with mem := { s.mem with base := replay s.mem.base (s.mem.records.take s.mem.rootMark)
                               records := s.mem.records.drop s.mem.rootMark, rootMark := 0 } }

/-- The page write in progress commits (R446 step 3): SEQ rises, the shadow is the current copy. -/
def commitPage (r : LogRun) (s : State) : State :=
  let seq := s.book.seq.get r.req.part 0 + 1
  let wear := (s.book.pages.get r.shadow ⟨0xFFFF, 0, 1, false, 0, false, []⟩).wear
  let pg : LogPage := ⟨r.lpage, seq, wear, true, tagCrc r.image r.lpage seq wear, false, r.image⟩
  let halted := match r.req.job with | .record _ => true | .root _ => false | _ => s.book.haltNewer
  let s := setBook { s.book with pages := s.book.pages.put r.shadow pg, seq := s.book.seq.put r.req.part seq, haltNewer := halted,
                                 roots := (match r.req.job with | .root _ => s.book.roots + 1 | _ => s.book.roots) } s
  let s := match r.req.job with | .root _ => rebase s | _ => s
  ((count 0xA10 none 0x1F 1 (s.bump LOG_CNT_WRITES 1)).bump LOG_PART_W_WRITES 1 r.req.part).wr LOG_STAT_LASTRES 0

/-- End the page write in progress, its verify right, and go on (R446, R448). -/
def finishPage (r : LogRun) (s : State) : State :=
  let s := commitPage r s
  let back := match r.req.job.rest with | some j => [{ r.req with job := j }] | none => []
  let s := setBook { s.book with run := none, queue := back ++ s.book.queue } s
  pumpRing (logPump (s.book.queue.length + 2) s)

/-- The running page write finishes now. -/
def finishRun (s : State) : State := match s.book.run with | some r => finishPage r s | none => s

/-- Write bytes and wait for their commit, page by page: the result (0 done) and the state. The page write in progress
finishes first (R452). -/
def logNow (p : Nat) : Nat → Nat → List Byte → State → Nat × State
  | 0, _, _, s => (0, s)
  | n + 1, off, data, s =>
    if data.isEmpty then (0, s)
    else
      let s := match s.book.run with
        | some r =>
          let s := commitPage r s
          let back := match r.req.job.rest with | some j => [{ r.req with job := j }] | none => []
          setBook { s.book with run := none, queue := back ++ s.book.queue } s
        | none => s
      let w : LogWrite := ⟨s.book.nextId, 2, p, .bytes off data, false⟩
      match s.writeTest w with
      | some res => (res, refuseWrite w res s)
      | none => match chooseShadow p 4096 s with
        | (none, s) => (4, refuseWrite w 4 (raise 978 s))
        | (some (k, wear), s) =>
          let (l, img, _) := s.jobPage p w.job
          let blank : LogPage := ⟨0xFFFF, 0, wear + 1, false, 0, false, []⟩
          let s := setBook { s.book with pages := s.book.pages.put k blank } s
          logNow p n (off + (256 - off % 256)) (data.drop (256 - off % 256)) (commitPage ⟨w, l, img, k, 0, []⟩ s)

/-- A write of whole data, committed before the command that asks for it ends (R448). -/
def logWriteNow (p off : Nat) (data : List Byte) (s : State) : Nat × State := logNow p (data.length / 256 + 2) off data s

/-- Write a Halt record at once, after the page write in progress (R165 step 4, R167): the result and the state. -/
def recordNow (r : FaultRec) (s : State) : Nat × State :=
  let s := match s.book.run with
    | some r =>
      let s := commitPage r s
      let back := match r.req.job.rest with | some j => [{ r.req with job := j }] | none => []
      setBook { s.book with run := none, queue := back ++ s.book.queue } s
    | none => s
  let w : LogWrite := ⟨s.book.nextId, 0, 7, .record r, false⟩
  match s.writeTest w with
  | some res => (res, refuseWrite w res s)
  | none => match chooseShadow 7 4096 s with
    | (none, s) => (4, refuseWrite w 4 (raise 978 s))
    | (some (k, wear), s) =>
      let (l, img, _) := s.jobPage 7 w.job
      let s := setBook { s.book with pages := s.book.pages.put k ⟨0xFFFF, 0, wear + 1, false, 0, false, []⟩ } s
      (0, commitPage ⟨w, l, img, k, 0, []⟩ s)

/-- Raise a durable counter of set 0 (R454); a refusal is retried. -/
def bumpDurable (idx : Nat) (s : State) : State := logSend 2 6 (.counter idx 1 false) true s

end Sys2Proof.Machine
end

