-- ==== Sys2Proof/Machine/MediaOps.lean ====
section
/-! DEFINITION. The media write path as other units use it (R223 to R233): counting and opening segments, choosing a stack,
allocating slots of a stream, padding and closing, retiring segments, and undoing page work whose targets are lost. -/
namespace Sys2Proof.Machine

/-- A stack is present and not fenced. -/
def State.stackActive (s : State) (k : Nat) : Bool := s.stackOn k && !(s.stackFenced k)

/-- Active stacks in ascending order. -/
def State.activeStacks (s : State) : List Nat := (List.range 16).filter s.stackActive

/-- The listed segments of a stack. -/
def State.segsOf (s : State) (k : Nat) : List (Nat × Seg) :=
  (s.media.segs.filter (fun x => x.1 / 2097152 == k)).map (fun x => (x.1 % 2097152, x.2))

/-- Data segments of a stack that are in a given state and listed. -/
def State.listedIn (s : State) (k : Nat) (st : SegState) : Nat :=
  ((s.segsOf k).filter (fun x => x.1 < dataSegs && x.2.state == st)).length

/-- Where the Spare segments that are not listed begin. -/
def State.spareBound (s : State) (k : Nat) : Nat := s.media.spareFrom.get k dataSegs

/-- Empty data segments of a stack (MED_STK_k.EMPTY). -/
def State.emptyCount (s : State) (k : Nat) : Nat :=
  s.spareBound k - ((s.segsOf k).filter (fun x => x.1 < s.spareBound k)).length + s.listedIn k .empty

/-- Donor segments of a stack (R251). -/
def State.donorsOf (s : State) (k : Nat) : List Nat := s.media.donors.get k []

/-- Spare segments of a stack, donors among them (R224, R251). -/
def State.spareAll (s : State) (k : Nat) : Nat :=
  (dataSegs - s.spareBound k) - ((s.segsOf k).filter (fun x => s.spareBound k ≤ x.1 && x.1 < dataSegs)).length + s.listedIn k .spare

/-- Spare segments held, donors left out (R224, R251). -/
def State.spareCount (s : State) (k : Nat) : Nat := s.spareAll k - (s.donorsOf k).length

/-- The lowest segment number below a bound that is not listed. -/
def firstUnlisted (l : List Nat) (bound : Nat) : Nat → Nat → Option Nat
  | 0, _ => none
  | fuel + 1, g => if bound ≤ g then none else if l.contains g then firstUnlisted l bound fuel (g + 1) else some g

/-- The Empty data segment of lowest WEAR, ties to the lower number (R228). -/
def State.lowestEmpty (s : State) (k : Nat) : Option Nat :=
  let listed := s.segsOf k
  let fresh := firstUnlisted (listed.map (·.1)) (s.spareBound k) (listed.length + 1) 0
  (listed.foldl (fun a x =>
    if x.1 < dataSegs && x.2.state == .empty then
      match a with
      | some (w, g) => if x.2.wear < w || (x.2.wear == w && x.1 < g) then some (x.2.wear, x.1) else a
      | none => some (x.2.wear, x.1)
    else a) (fresh.map (fun g => (0, g)))).map (·.2)

/-- The failed dies of a stack, in the order of their failure. -/
def State.failedDies (s : State) (k : Nat) : List Nat := (s.media.failed.filter (fun x => x.1 == k)).map (·.2)

/-- A donor block for every failed die is given to a segment that opens (R252): donors in order, spread over their surviving
dies. The remap table is keyed by segment and failed die and holds donor segment × 64 + donor die. -/
def remapSegment (k g : Nat) (s : State) : State :=
  let failed := s.failedDies k
  let alive := (List.range 33).filter (fun d => !(failed.contains d))
  forAll failed (fun d s =>
    let n := s.media.donorNext.get k 0
    match (s.donorsOf k)[n / alive.length]?, alive[n % alive.length]? with
    | some donor, some dd =>
      { s with media := { s.media with remap := s.media.remap.put (Nat.pair (k * 2097152 + g) d) (donor * 64 + dd)
                                       donorNext := s.media.donorNext.put k (n + 1) } }
    | _, _ => s) s

/-- A segment retires and its parcels are quarantined (R224, R238). `kind`: the state its parcels are in. -/
def retireSegment (k g : Nat) (s : State) : State :=
  let e := s.seg k g
  setSeg k g { e with state := .retired } (moveCount true .free .quar 8192 s)

/-- Open a segment for a stream (R224, R228); one whose WEAR has reached RETIRE retires and the next is tried (R240). -/
def openSegment (stream k : Nat) : Nat → State → Option (Nat × State)
  | 0, _ => none
  | fuel + 1, s =>
    match s.lowestEmpty k with
    | none => none
    | some g =>
      let e := s.seg k g
      if s.rd MED_WEAR_RETIRE ≤ e.wear then openSegment stream k fuel (retireSegment k g s)
      else
        some (g, remapSegment k g (setSeg k g
          { e with state := .open_, kind := if stream = 2 then 2 else 1, wear := min (e.wear + 1) 0x7FFFFFF, written := 0,
                   owned := 0, born := 0, pfail := false, urgent := false } s))

/-- The stripe a stream of a stack is filling. -/
def State.openStripe (s : State) (k stream : Nat) : Option Stripe :=
  s.media.stripes.find? (fun t => t.stack == k && t.stream == stream && !t.programming)

/-- Change the stripes. -/
def setStripes (l : List Stripe) (s : State) : State := { s with media := { s.media with stripes := l } }

/-- Whether two records name one stripe. -/
def sameStripe (a b : Stripe) : Bool := a.stack == b.stack && a.seg == b.seg && a.stripe == b.stripe

/-- A stripe becomes due for its programme (R226): its unfilled slots are pad. With `final` the rest of its segment is
written as pad with it; otherwise the stream goes on in the next stripe. -/
def programStripe (t : Stripe) (final : Bool) (s : State) : State :=
  let done := { t with programming := true, final := final || t.stripe == 255 }
  let rest := s.media.stripes.filter (fun u => !(sameStripe u t))
  let next := if done.final then [] else [{ t with stripe := t.stripe + 1, slots := [], first := 0 }]
  setStripes (rest ++ [done] ++ next) s

/-- Pad and programme the stripe a stream is filling, when it holds a slot (R226, R230). -/
def padStream (k stream : Nat) (s : State) : State :=
  match s.openStripe k stream with
  | some t => if t.slots.isEmpty then s else programStripe t false s
  | none => s

/-- Close the segment a stream is filling: the rest of it is written as pad (R226, R233). -/
def closeStream (k stream : Nat) (s : State) : State :=
  match s.openStripe k stream with
  | some t => programStripe t true s
  | none => s

/-- Place `n` slots of a run, stripe by stripe (R226). -/
def placeSlots (id k stream : Nat) : Nat → State → State
  | 0, s => s
  | n + 1, s =>
    match s.openStripe k stream with
    | none => s
    | some t =>
      let t' := { t with slots := t.slots ++ [id], first := if t.slots.isEmpty then s.standbyNs else t.first }
      let s := setStripes (s.media.stripes.map (fun u => if sameStripe u t then t' else u)) s
      placeSlots id k stream n (if t'.slots.length = 32 then programStripe t' false s else s)

/-- The first parcel of a place in media (R219). -/
def mediaParcel (k g stripe pos : Nat) : Nat := 2 ^ 38 + k * 2 ^ 34 + g * 8192 + stripe * 32 + pos

/-- Allocate `n` slots of a stream in a stack (R226, R228, R229): a run never crosses a segment. The parcels move from free
to in flight. None when the stack has no segment to open. -/
def allocSlots (stream k n : Nat) (page : Nat) (image : List Byte) (work : Nat) (s : State) : Option (Slot × State) :=
  let left := match s.openStripe k stream with | some t => 8192 - (t.stripe * 32 + t.slots.length) | none => 0
  let ready : Option State :=
    if n ≤ left then some s
    else
      match openSegment stream k (s.media.segs.length + 1) (closeStream k stream s) with
      | none => none
      | some (g, s) => some (setStripes (s.media.stripes ++ [⟨k, g, 0, stream, [], false, false, 0⟩]) s)
  match ready with
  | none => none
  | some s =>
    match s.openStripe k stream with
    | none => none
    | some t =>
      let id := s.media.nextSlot
      let sl : Slot := ⟨id, stream, page, mediaParcel k t.seg t.stripe t.slots.length, n, n, image, false, work⟩
      let s := placeSlots id k stream n s
      let s := { s with media := { s.media with slots := s.media.slots ++ [sl], nextSlot := id + 1 } }
      some (sl, inFlightRun .reloc .free sl.parcel n s)

/-- Parcels of a stack's staging share in use (R231). -/
def State.stagingUsed (s : State) (k : Nat) : Nat :=
  (s.media.slots.filter (fun x => x.stream == 0 && parcelStack x.parcel == k)).foldl (fun a x => a + x.need) 0
/-- Room in a stack's staging share, in parcels (R228, R231). -/
def State.stagingRoom (s : State) (k : Nat) : Nat := s.rd MED_STG_SHARE * 32 - s.stagingUsed k

/-- The element of a list with the greatest measure, the first of equals. -/
def pickMax (f : Nat → Nat) : List Nat → Option Nat
  | [] => none
  | k :: l => match pickMax f l with
    | none => some k
    | some j => if f k < f j then some j else some k

/-- The stack the P stream chooses (R228): the most room among stacks above FLOOR, else the most room of all. -/
def State.stackP (s : State) : Option Nat :=
  let able := s.activeStacks.filter (fun k => 0 < s.emptyCount k || (s.openStripe k 0).isSome)
  match pickMax s.stagingRoom (able.filter (fun k => s.rd MED_RCL2_FLOOR < s.emptyCount k)) with
  | some k => some k
  | none => pickMax s.stagingRoom able

/-- The stack demotion chooses (R228); none while every active stack is at FLOOR or below. -/
def State.stackV (s : State) : Option Nat :=
  pickMax s.emptyCount (s.activeStacks.filter (fun k => s.rd MED_RCL2_FLOOR < s.emptyCount k))

/-- The active stack with the most Empty segments, for a relocation that may use any stack (R233). -/
def State.stackAny (s : State) : Option Nat := pickMax s.emptyCount (s.activeStacks.filter (fun k => 0 < s.emptyCount k))

/-- Drop a run's slots from the list of slots; their stripe places become pad. -/
def dropSlot (id : Nat) (s : State) : State :=
  { s with media := { s.media with
    slots := s.media.slots.filter (fun x => x.id ≠ id)
    stripes := s.media.stripes.map (fun t => { t with slots := t.slots.map (fun i => if i = id then 2 ^ 64 else i) }) } }

/-- The in-flight kind of a work's target parcels (R169). -/
def Work.pkind (w : Work) : PState :=
  match w.kind with
  | .writeBack _ => if parcelMedia w.parcel then .reloc else .growth
  | _ => .reloc

/-- Change page work. -/
def modWork (id : Nat) (f : Work → Work) (s : State) : State :=
  { s with work := s.work.map (fun w => if w.id = id then f w else w) }
/-- Remove page work, which releases the page lock it held. -/
def dropWork (id : Nat) (s : State) : State := { s with work := s.work.filter (fun w => w.id ≠ id) }

/-- Clear REPACK of a page entry (R133). -/
def clearRepack (page : Nat) (s : State) : State :=
  match s.mem.pages.find page with
  | some e => if e.repack then setEntry page { e with repack := false } s else s
  | none => s

/-- Undo the allocation of page work: its in-flight parcels return to free, or to the migration reserve they came from by the
refill of R172; REPACK clears; the entry is otherwise untouched (R34, R133, R171). -/
def undoWork (w : Work) (s : State) : State :=
  let s := match w.stage with
    | .staging | .ready =>
      if w.need = 0 then s
      else
        let s := abortRun w.pkind w.parcel w.need s
        if w.pkind = .growth then heldChange w.page false w.need s else s
    | _ => s
  clearRepack w.page (forAll w.slots dropSlot s)

/-- Abort page work (R34, R133, R190): a write-back begins again, its lines still dirty; a promotion on write leaves the
write-back to begin again; a relocation begins again; a migration ends with the migration-aborted event. -/
def abortWork (w : Work) (s : State) : State :=
  let s := undoWork w s
  let again := fun (k : WorkKind) => modWork w.id (fun w =>
    { w with kind := k, stage := .waiting, parcel := 0, need := 0, image := [], slots := [] }) s
  match w.kind with
  | .writeBack _ => again w.kind
  | .relocate _ => again w.kind
  | .promote wb => raise 459 ((again (.writeBack wb)).bump TIE_STAT2_ABORT 1)
  | .migrate _ _ => raise 459 ((dropWork w.id s).bump TIE_STAT2_ABORT 1)

/-- A committed page image whose stripe is not verified: it stands in the staging area (R230). -/
def State.staged (s : State) (page : Nat) : Bool := s.media.slots.any (fun x => x.page == page && x.stream == 0 && x.committed && x.left != 0)

/-- Work that does not begin now: no migration or relocation begins during a Stop entry or a flush for the loss of power, and no
demotion or reclaim during a GPF flush (R239, R240, R346, R348, R383); the relocation of a staged page always may. -/
def State.heldBack (s : State) (w : Work) : Bool :=
  w.stage == .waiting && (match w.kind with
    | .migrate up _ => s.mode.stopStep != 0 || s.powerFlush || (!up && s.rdB TLR_STAT_ACTIVE)
    | .relocate _ => !(s.staged w.page) && (s.mode.stopStep != 0 || s.rdB TLR_STAT_ACTIVE)
    | _ => false)

/-! Dies. -/

/-- The number of a die over the module, and its leaky bucket (R426). -/
def dieId (k d : Nat) : Nat := k * 33 + d

/-- A signed byte. -/
def signed8 (v : Nat) : Int := if v < 128 then v else (v : Int) - 256

/-- The age bucket of an age in hours (R242). -/
def State.ageBucket (s : State) (a : Nat) : Nat := ((List.range 8).find? (fun b => a < s.rd MED_DRIFT_UPTO b)).getD 7

end Sys2Proof.Machine
end

