-- ==== Sys2Proof/Machine/Fences.lean ====
section
/-! DEFINITION. Faults and what they lead to: the Integrity Halt (R165 to R167), the fence of each kind of unit (R39, R93,
R94, R143, R212, R240, R284, R303), spare substitution, scaling of admissions (R310, R319, R320), escalation (R421), and
leaky buckets (R427). -/
namespace Sys2Proof.Machine

/-! The Integrity Halt. -/

/-- The value of a register from its fields. -/
def State.word (s : State) (fs : List Fld) (i : Nat := 0) : Nat := fs.foldl (fun a f => a + s.rd f i * 2 ^ f.lo) 0

/-- The fields of MIL_HALT_A and MIL_HALT_B. -/
def haltA : List Fld := [MIL_HALT_A_CAUSE, MIL_HALT_A_CONFIRMED, MIL_HALT_A_FLUSHED, MIL_HALT_A_SHEET, MIL_HALT_A_KEYDOM,
  MIL_HALT_A_ENG1, MIL_HALT_A_ENG2, MIL_HALT_A_MASTER, MIL_HALT_A_SLICE]
def haltB : List Fld := [MIL_HALT_B_PAGE, MIL_HALT_B_GEN, MIL_HALT_B_TIER]

/-- What led to a Halt: the fields of MIL_HALT_A and MIL_HALT_B (R165). -/
structure HaltInfo where
  cause : Nat
  confirmed : Bool
  sheet : Nat
  dom : Nat
  eng1 : Nat
  eng2 : Nat
  master : Nat
  slice : Nat
  page : Nat
  gen : Nat
  tier : Bool
  deriving DecidableEq, Repr

/-- A Halt for fault escalation: no sheet, no engine, no slice (R421). -/
def HaltInfo.escalation : HaltInfo := ⟨4, false, 0, 0, 0x1F, 0x1F, 0, 0x1F, 0, 0, false⟩

/-- Load MIL_HALT_A and MIL_HALT_B. -/
def haltRegs (i : HaltInfo) (s : State) : State :=
  let s := ((((s.wr MIL_HALT_A_CAUSE i.cause).wrB MIL_HALT_A_CONFIRMED i.confirmed).wr MIL_HALT_A_FLUSHED 0).wr
    MIL_HALT_A_SHEET i.sheet).wr MIL_HALT_A_KEYDOM i.dom
  let s := (((s.wr MIL_HALT_A_ENG1 i.eng1).wr MIL_HALT_A_ENG2 i.eng2).wr MIL_HALT_A_MASTER i.master).wr MIL_HALT_A_SLICE i.slice
  ((s.wr MIL_HALT_B_PAGE i.page).wr MIL_HALT_B_GEN i.gen).wrB MIL_HALT_B_TIER i.tier

/-- A head is fenced (R337). -/
def State.headFenced (s : State) (h : Nat) : Bool := s.rd HPT_LNK_FCAUSE h != 0

/-- Change the mode: PREV, STATE and event 64 (R374, R392). -/
def setMode (m : Nat) (s : State) : State :=
  raise 64 ((s.wr MOD_STATE_PREV s.modeCode).wr MOD_STATE_STATE m)

/-- The Halt record (R165, R420). -/
def State.haltRecord (s : State) : FaultRec := ⟨s.stamp, 0xFFFF, 4, 0, 76, s.word haltA, s.word haltB⟩

/-- The last step of the Halt: mode 7, FAULT_N, event 76 (R165 step 5). -/
def haltDone (s : State) : State :=
  let s := setMode 7 { s with mode := { s.mode with halting := false, memActive := false } }
  raise 76 (bumpDurable 4 { s with pins := { s.pins with faultN := false } })

/-- The Halt record is written; refused Busy, it waits for its retry (R165 step 4). -/
def haltWrite (s : State) : State :=
  let (res, s) := recordNow s.haltRecord s
  if res = 1 then { s with mode := { s.mode with halting := true } } else haltDone s

/-- Steps 1 to 3 of the Halt: the data plane stops, viral is signalled on every head not fenced, keys are zeroised (R165). -/
def haltStop (s : State) : State :=
  let s := forAll (List.range 16) (fun h s =>
    if s.headFenced h || s.rd HPT_LNK_STATE h = 0 then s
    else { (s.wr HPT_LNK_VIRAL 1 h).emit (.viral h) with ports := { s.ports with viral := s.ports.viral ||| headBit h } }) s
  { s with keys := { s.keys with slots := [], metaKey := none }
           flush := { s.flush with deferred := false, gpfHeads := 0, gpfNext := 0 } }

/-- A Tailrace flush for power loss, seat loss or GPF is running (R167). -/
def State.flushing (s : State) : Bool := s.rdB TLR_STAT_ACTIVE && s.rd TLR_STAT_CAUSE != 0

/-- Enter the Integrity Halt (R165). While a flush runs, a mismatch is put off to its end: the record is written now, the
rest follows the flush; an escalation stops the flush and proceeds at once (R167). One Halt at a time. -/
def halt (i : HaltInfo) (s : State) : State :=
  if s.modeCode == 7 || s.mode.halting then
    queueRec ⟨s.stamp, 0xFFFF, 4, 0, 76, i.cause, i.page⟩ s
  else if s.flushing && i.cause != 4 then
    if s.flush.deferred then queueRec ⟨s.stamp, 0xFFFF, 4, 0, 76, i.cause, i.page⟩ s
    else
      let s := (haltRegs i s).wr MIL_HALT_A_FLUSHED 1
      let (_, s) := recordNow s.haltRecord s
      { s with flush := { s.flush with deferred := true } }
  else
    let s := if s.rdB TLR_STAT_ACTIVE then (s.wr TLR_STAT_ACTIVE 0).wr TLR_STAT_STEP 0 else s
    let s := { s with mode := { s.mode with stopStep := 0, starting := false, planWait := none, planEnv := none, coldEnv := none }
                      post := { s.post with applying := none }, flush := { s.flush with restart := false } }
    haltWrite (haltStop (haltRegs i s))

/-! Heads. -/

/-- Lines a head holds in Exclusive, in the filter or in an eviction tracker. -/
def State.exclOf (s : State) (h : Nat) : List Nat :=
  (s.home.filt.filter (fun x => x.2.excl && x.2.holders.getLsbD h)).map (·.1) ++
    (s.home.evt.filter (fun t => t.excl && t.holders.getLsbD h)).map (·.line)

/-- The requests that wait for a snoop of a head's line, or for its hold time, by line. -/
def poisonWaiters (line : Nat) (s : State) : State :=
  forAll (s.home.reqs.filter (fun q => q.line == line && (q.stage == .snoop || q.stage == .hold))) completePoisoned s

/-- Forget the snoops kept for a ring or an opening. -/
def forgetSnoops (key : Nat) (s : State) : State :=
  { s with cou := { s.cou with clear := s.cou.clear.filter (fun x => x.1 ≠ key), timed := s.cou.timed.filter (fun x => x.1 ≠ key) } }

/-- The key of the snoops that an export sends, and of those of the counter dump. -/
def exportKey : Nat := 2 ^ 20
def dumpKey : Nat := 2 ^ 20 + 1

/-- A dump that waited for the channel takes it when no export runs (R465). -/
def dueStart (s : State) : State :=
  match s.mgt.exporting, s.cnt.dump, s.cnt.due with
  | none, none, some d => { s with cnt := { s.cnt with dump := some d, due := none } }
  | _, _, _ => s

/-- The channel's next user, and MGT_DMA: 1 an export, 2 a counter dump. -/
def dmaShow (s : State) : State :=
  let s := dueStart s
  match s.mgt.exporting, s.cnt.dump with
  | some (_, d), none => (s.wr MGT_DMA_USER 1).wr MGT_DMA_HEAD d.head
  | _, some d => (s.wr MGT_DMA_USER 2).wr MGT_DMA_HEAD d.head
  | none, none => s.wr MGT_DMA_USER 0

/-- A dump write fails: EN clears, ERR tells why, event 961 (R466). -/
def dumpFail (err : Nat) (s : State) : State :=
  let s := dmaShow (forgetSnoops dumpKey { s with cnt := { s.cnt with dump := none, due := none } })
  raise 961 ((s.wr CNT_RING_B_EN 0).wr CNT_RING_B_ERR err)

/-- The head of the counter ring is fenced or reset (R466). -/
def dumpLost (h : Nat) (s : State) : State :=
  if s.rdB CNT_RING_B_EN && s.rd CNT_RING_A_HEAD == h then dumpFail 4 s else s

/-- Steps 1 to 3 of R93 for a head, also run by a head reset (R338 step 2): its Exclusive lines are poisoned, its snoops are
satisfied as though by BIRspI, its bit leaves every entry. No timeout is counted. -/
def expelHead (h : Nat) (s : State) : State :=
  let excl := s.exclOf h
  let s := forAll excl (fun l s => poisonWaiters l (poisonLine l 5 0 s)) s
  let s := forAll (s.home.snoops.filter (fun n => n.head == h)) (fun n s =>
    forAll n.left (fun l s => match s.home.snoops.find? (fun m => m.head == h && m.left.contains l && m.why == n.why) with
      | some m => satisfy m l .i false s
      | none => s) s) s
  let s := forAll (s.home.evt.filter (fun t => t.holders.getLsbD h)) (fun t s => evictDone t.slice t.idx h s) s
  dumpLost h (forAll (s.home.filt.filter (fun x => x.2.holders.getLsbD h)) (fun x s => unsilence x.1 h (holderAfter x.1 h .i s)) s)

/-- The rings of a head's partition (R282, R283). -/
def State.ringsOf (s : State) (h : Nat) : List (Nat × Ring) := s.cou.rings.filter (fun x => x.2.head == h)

def setRing (r : Nat) (g : Option Ring) (s : State) : State := { s with cou := { s.cou with rings := s.cou.rings.upd r g } }

/-- A descriptor in progress ends with a status (R284, R300, R303); its record is written when its writes are visible. -/
def Ring.endDesc (g : Ring) (status : Nat) : Ring :=
  { g with desc := g.desc.map (fun d => if d.finished then d else { d with status, finished := true }) }

/-- Change a maintenance operation in progress; a head runs one at a time. -/
def setMop (h : Nat) (m : Option Mop) (s : State) : State :=
  { s with fc := { s.fc with mops := s.fc.mops.filter (fun x => x.head ≠ h) ++ m.toList } }

/-- A background command of a mailbox ends: its completion is reported, and event 997 raised (R471, R438). One that a Clerk restart
ended is not reported again (R398). -/
def bgEnd (op : Nat) (rt : Route) (code : Ret) (payload : List Nat) (s : State) : State :=
  if s.mgt.background.contains (op, rt) then
    raise 997 ({ s with mgt := { s.mgt with background := s.mgt.background.filter (· ≠ (op, rt)) } }.emit (.mbox rt code 0 payload))
  else s

/-- A maintenance operation ends: BUSY clears as RESULT, DONE and SKIP take their final values, and the head's event is raised
(R116). -/
def endMop (m : Mop) (result : Nat) (s : State) : State :=
  let h := m.head
  let s := setMop h none s
  let s := (((s.wr FCA_MOP_STAT_BUSY 0 h).wr FCA_MOP_STAT_RESULT result h).wr FCA_MOP_STAT_DONE m.done h).wr
    FCA_MOP_STAT_SKIP m.skip h
  let s := raise (128 + 8 * h + 6) s
  match m.route with
  | some rt => bgEnd 0xC007 rt .success [result, m.done, m.skip] s
  | none => s

/-- The operation of a head stops with RESULT 4 (R115, R338). -/
def stopMop (h : Nat) (s : State) : State :=
  match s.fc.mops.find? (fun m => m.head == h) with
  | some m => endMop m 4 s
  | none => s

/-- Fence a head (R93, R303, R337). -/
def headFence (h : Nat) (s : State) : State :=
  let s := (s.wr HPT_LNK_STATE 6 h).wrB HOM_HEAD_DEAD (s.rd HPT_LNK_FCAUSE h == 1) h
  let s := expelHead h { s with home := { s.home with dead := s.home.dead ||| headBit h } }
  let s := forAll (s.home.reqs.filter (·.head == h)) completePoisoned s
  let s := forAll (s.ringsOf h) (fun x s => setRing x.1 (some { x.2.endDesc 0x14 with state := .error, err := 4 }) s) s
  raise (128 + 8 * h + 4) (stopMop h s)

/-- A cause fences a head: the first cause is kept, and a later one is noted (R337, R425, log entry 15). -/
def fenceCause (h cause : Nat) (s : State) : State :=
  if s.headFenced h then { s with ports := { s.ports with moreCause := s.ports.moreCause ||| headBit h } }
  else s.wr HPT_LNK_FCAUSE cause h

/-! Token resources and admission (R308, R310, R319, R320). -/

/-- Change a resource's capacity: TOTAL rises from outside into the pool, or falls out of the pool and, for the rest, out of
SPENT at the next refill (R310). -/
def TokRes.setCap (t : TokRes) (cap : Nat) : TokRes :=
  if t.total ≤ 8 * cap then { t with cap, pool := t.pool + (8 * cap - t.total), total := 8 * cap, owed := 0 }
  else
    let d := t.total - 8 * cap
    let k := min t.pool d
    { t with cap, pool := t.pool - k, total := t.total - k, owed := d - k }

/-- Units of the fabric clock scale: 1,000, 950 or 900 tokens per unit per µs (R308). -/
def State.tokenRate (s : State) : Nat :=
  match s.rd MOD_STATE_GRADE with
  | 0 => 1000
  | 1 => 950
  | _ => 900

/-- Channels present and not fenced. -/
def State.liveChannels (s : State) : List Nat :=
  (List.range 16).filter (fun c => s.channelOn c && !(s.channelFenced c))
/-- Courier engines in service. -/
def State.liveEngines (s : State) : List Nat :=
  (List.range s.part.couriers).filter (fun e => s.post.engines.testBit e && !(s.rdBit COU_MAP_FENCED e))

/-- The capacities of the token resources from the units in service (R308); the media capacity, 18.75 per stack, is rounded
down. -/
def setCaps (s : State) : State :=
  { s with qos := { s.qos with
    dram := s.qos.dram.setCap (s.tokenRate * s.liveChannels.length)
    media := s.qos.media.setCap (75 * s.activeStacks.length / 4)
    cou := s.qos.cou.setCap (s.tokenRate * s.liveEngines.length) } }

/-- Heads in ascending RANK, ties in ascending number (R320). -/
def State.rankOrder (s : State) : List Nat :=
  (List.range 16).flatMap (fun r => (List.range 16).filter (fun h => s.rd QOS_HEAD_RANK h == r))

/-- Tell a head that its admission was scaled or restored (R319, R320, R333): its event, and a record in its own log. -/
def notifyAdmission (h : Nat) (s : State) : State :=
  let src := 128 + 8 * h + 7
  let s := raise src s
  if s.rdB EVT_ROUTE_LOGEN src then s else logEvent src 0xFFFF h (s.rd EVT_ROUTE_LOG src) s

/-- Express rates of a resource over all heads. -/
def State.expressSum (s : State) (f : Fld) : Nat := (List.range 16).foldl (fun a h => a + s.rd f (4 * h)) 0

/-- Cut the Express rates of a resource by an excess, heads in the order given (R319). -/
def cutRates (f : Fld) : List Nat → Nat → State → State
  | [], _, s => s
  | h :: l, excess, s =>
    let cut := min excess (s.rd f (4 * h))
    if excess = 0 then s
    else if cut = 0 then cutRates f l excess s
    else cutRates f l (excess - cut)
      (notifyAdmission h (((s.wr f (s.rd f (4 * h) - cut) (4 * h)).wr QOS_HEAD_SCALED 1 h).wr QOS_CFG_DEGR 1))

/-- The Express limits: 40 % of the DRAM capacity, the whole Courier capacity (R316, R319). -/
def State.dramLimit (s : State) : Nat := 2 * s.qos.dram.cap / 5

/-- Check admissions after a fence or a Configure and scale them where they exceed the limits (R319). -/
def scaleAdmission (fence : Bool) (s : State) : State :=
  let order := s.rankOrder.reverse
  let s' := cutRates QOS_BUD_A_DRAM order (s.expressSum QOS_BUD_A_DRAM - s.dramLimit) s
  let s' := cutRates QOS_BUD_A_COU order (s.expressSum QOS_BUD_A_COU - s.qos.cou.cap) s'
  let cut := decide (s'.expressSum QOS_BUD_A_DRAM < s.expressSum QOS_BUD_A_DRAM ∨
    s'.expressSum QOS_BUD_A_COU < s.expressSum QOS_BUD_A_COU)
  if fence && cut then s'.wr MOD_STATE_DEG_SCALE 1 else s'

/-- Raise one head's Express rate of a resource toward its configured value, as far as the slack allows. -/
def raiseRate (f cfg : Fld) (limit h : Nat) (s : State) : State :=
  let slack := limit - s.expressSum f
  let want := s.rd cfg (4 * h) - s.rd f (4 * h)
  if min slack want = 0 then s else s.wr f (s.rd f (4 * h) + min slack want) (4 * h)

/-- Restore scaled rates toward their configured values (R320). -/
def restoreAdmission (s : State) : State :=
  let s := forAll s.rankOrder (fun h s =>
    if s.rd QOS_HEAD_SCALED h = 0 then s
    else
      let s := raiseRate QOS_BUD_A_DRAM QOS_BUD_A_CFG_DRAM s.dramLimit h s
      let s := raiseRate QOS_BUD_A_COU QOS_BUD_B_CFG_COU s.qos.cou.cap h s
      if s.rd QOS_BUD_A_CFG_DRAM (4 * h) ≤ s.rd QOS_BUD_A_DRAM (4 * h) &&
          s.rd QOS_BUD_B_CFG_COU (4 * h) ≤ s.rd QOS_BUD_A_COU (4 * h) then
        notifyAdmission h (s.wr QOS_HEAD_SCALED 0 h)
      else s) s
  if (List.range 16).any (fun h => s.rdB QOS_HEAD_SCALED h) then s
  else (s.wr QOS_CFG_DEGR 0).wr MOD_STATE_DEG_SCALE 0

/-! Home slices. -/

/-- The logical slice a physical slice serves. -/
def State.logicalOf (s : State) (sl : Nat) : Nat := s.rd HOM_SL_LOGICAL sl

/-- Back-invalidate the lines of a sheet, as one block for each head that holds some; a sheet with a line in its hold time follows
when that ends (R83, R87). -/
def invalidateSheet (why : SnpFor) (sh : Nat) (s : State) : State :=
  let here := (sheetLines sh).filterMap (fun l => (s.filt l).map (fun e => (l, e)))
  let hs : Heads := here.foldl (fun m x => m ||| x.2.holders) 0
  if here.any (fun x => x.2.held) then s
  else forHeads hs (fun h s =>
    let mine := (here.filter (fun x => x.2.holders.getLsbD h && (s.snoopOf h x.1).isNone)).map (·.1)
    if mine.isEmpty then s else sendSnoop h (4 * sh) true mine .inv why s) s

/-- The spare back-invalidates the lines it received, block by block (R94 step 5). -/
def rebuildSnoops (s : State) : State :=
  forAll ((s.home.filt.filter (fun x => x.2.slice == 16)).map (fun x => lineSheet x.1)).dedup (invalidateSheet .rebuild) s

/-- A Fatal fault of a home slice (R94, R95): with the spare unused it is substituted, else the device goes to Halt. A dirty
line that the drain finds bad, or an entry the filter's code cannot correct, is a second Fatal fault (R95, R112). -/
def sliceFatal (sl : Nat) (s : State) : State :=
  let n := s.logicalOf sl
  let s := ((s.wrBit HOM_SLMAP_FENCED sl true).wr HOM_SL_FENCED 1 sl).wr HOM_SL_ACTIVE 0 sl
  let s := raise (256 + 8 * n + 2) s
  if s.rd HOM_SLMAP_SUB ≠ 0x1F then halt .escalation s
  else
    let s := raise (256 + 8 * n + 3) (s.wr HOM_SLMAP_REBUILD 1)
    let s := { s with home := { s.home with rebuilding := some sl } }
    -- step 2
    let s := forAll (s.trackers sl) (fun q s => completePoisoned q (poisonBacking q.line 3 s)) s
    -- step 3
    let bad := fun (k : Nat) => s.upsets.any (fun u => match u with
      | .fcData j | .fcPoison j | .fcTag j _ | .fcDirtyArray j => j == k
      | _ => false)
    let lines := s.fcOfSlice sl
    let lost := lines.filter (fun x => (bad x.1 && x.2.dirty) ||
      s.upsets.any (fun u => match u with | .fcTag j both => both && j == x.1 | _ => false))
    let heads : Heads := lines.foldl (fun m x => if x.2.locked then m ||| headBit x.2.lockHead else m) 0
    let s := forAll lines (fun x s => if x.2.locked then unlockUse x.2.lockHead s else s) s
    let s := forAll ((s.fcOfSlice sl).map (fun x => lineSheet x.2.line)).dedup
      (fun sh s => gatherSheet sh (sheetLines sh) none s) s
    let s := { s with fc := { s.fc with streams := s.fc.streams.filter (fun t => t.slice ≠ sl) } }
    let s := forHeads heads (fun h s => raise (128 + 8 * h + 5) s) s
    -- step 4
    if !lost.isEmpty || s.upsets.any (fun u => match u with | .filter j _ unc => j == sl && unc | _ => false) then
      halt .escalation s
    else
      let s := { s with home := { s.home with
        filt := s.home.filt.map (fun (x : Nat × FiltEntry) => if x.2.slice = sl then (x.1, { x.2 with slice := 16 }) else x)
        evt := s.home.evt.map (fun (t : EvtTracker) => if t.slice = sl then { t with slice := 16 } else t)
        snoops := s.home.snoops.map (fun (m : Snoop) => match m.why with
          | .evict j i => if j = sl then { m with why := .evict 16 i } else m
          | _ => m) } }
      let s := ((((s.wr HOM_SLMAP_SUB n).wr HOM_SL_ACTIVE 1 16).wr HOM_SL_LOGICAL n 16).wr HOM_SL_LOGICAL 0x1F sl)
      rebuildSnoops s

/-! Millrace engines. -/

/-- A Fatal fault of a compression or sealing engine (R143, R144, R168). -/
def engineFatal (sealing : Bool) (e : Nat) (s : State) : State :=
  let (fenced, sub, active, ev) := if sealing then (MIL_SEAL_MAP_FENCED, MIL_SEAL_MAP_SUB, MIL_SEAL_MAP_ACTIVE, 387)
    else (MIL_CMP_MAP_FENCED, MIL_CMP_MAP_SUB, MIL_CMP_MAP_ACTIVE, 384)
  let s := raise ev (s.wrBit fenced e true)
  if s.rd sub = 0x1F then raise (ev + 1) (s.wr sub e)
  else raise (ev + 2) (s.wr active (s.rd active - 1))

/-- Sealing or compression engines that may work. -/
def State.liveMil (s : State) (sealing : Bool) : List Nat :=
  let f := if sealing then MIL_SEAL_MAP_FENCED else MIL_CMP_MAP_FENCED
  let sub := if sealing then MIL_SEAL_MAP_SUB else MIL_CMP_MAP_SUB
  (List.range 17).filter (fun e => !(s.rdBit f e) && (e < 16 || s.rd sub ≠ 0x1F))

/-! DRAM channels. -/

/-- Move the free and stale parcels that meet a test to quarantined: `free` counts the free ones (R170, R171). -/
def quarantine (media : Bool) (free : Nat) (p : Nat → Bool) (s : State) : State :=
  let stale := (s.cap.pmap.filter (fun x => x.2 == .stale && p x.1)).map (·.1)
  let s := moveCount media .free .quar free s
  forAll stale (fun q s => setPState q .quar (moveCount media .stale .quar 1 s)) s

/-- The pages of an entry line become wholly poisoned; the runs they named are orphaned (R69). -/
def entryLost (line : Nat) (s : State) : State :=
  let s := forAll ((List.range 4).map (4 * line + ·)) (fun page s =>
    let old := s.entry page
    let pinned := match s.pageRegion page with | some r => r.tier == 1 | none => false
    let s := { s with cap := { s.cap with orphans := s.cap.orphans ++ runParcels old.parcel old.run, lostSinceWalk := true } }
    let s := setEntry page { PageEntry.none with written := true, size := BitVec.allOnes 64, anyPoison := true, pinned } s
    deadLetter (64 * page) 8 0 true s) s
  raise 396 s

/-- The unit of a DRAM channel that holds an entry line of the metadata cache. -/
def State.entryChannel (s : State) (line : Nat) : Nat := Config.entryUnit line % (2 * s.part.channels) / 2

/-- Fence a DRAM channel (R212, R213, R133). -/
def channelFence (c : Nat) (s : State) : State :=
  if s.channelFenced c then s
  else
    let mine := fun (p : Nat) => !(parcelMedia p) && parcelUnit s p / 2 == c
    let free := s.dramDataTop / s.part.channels - (s.cap.pmap.filter (fun x => mine x.1)).length
    let marked := ((s.dram.marked.filter (fun r => r / 262144 / 64 / 2 == c)).flatMap (rowParcels s)).filter
      (fun p => p < s.dramDataTop && (s.cap.pmap.find p).isNone)
    let s := raise (512 + 8 * c + 5) (s.wr DRM_CH_FENCED 1 c)
    let s := dropChannel c s
    let s := quarantine false (free - marked.length) mine s
    let s := forAll (s.work.filter (fun w => w.need ≠ 0 && (runParcels w.parcel w.need).any mine)) abortWork s
    let s := if s.part.persist then
        { s with mem := { s.mem with cached := s.mem.cached.filter (fun l =>
            s.entryChannel l ≠ c || s.mem.unjournaled.any (fun p => p / 4 == l)) } }
      else forAll ((s.mem.pages.map (fun x => x.1 / 4)).dedup.filter (fun l => s.entryChannel l = c)) entryLost s
    scaleAdmission true (setCaps s)

/-! Media stacks. -/

/-- Free parcels of a stack: those of its data segments that are neither Spare nor Retired and are in no listed state. -/
def State.stackFree (s : State) (k : Nat) : Nat :=
  let retired := s.listedIn k .retired
  let spare := (dataSegs - s.spareBound k) - ((s.segsOf k).filter (fun x => s.spareBound k ≤ x.1 && x.1 < dataSegs)).length +
    s.listedIn k .spare
  (dataSegs - spare - retired) * 8192 -
    (s.cap.pmap.filter (fun x => parcelMedia x.1 && parcelStack x.1 == k &&
      (match (s.seg k (parcelSeg x.1)).state with | .retired | .spare | .metadata => false | _ => true))).length

/-- Fence a media stack (R39, R240, R353): P-stream pages of unverified stripes are relocated from staging, other targets
abort. -/
def stackFence (k : Nat) (s : State) : State :=
  if s.stackFenced k then s
  else
    let mine := fun (p : Nat) => parcelMedia p && parcelStack p == k
    let free := s.stackFree k
    let s := raise (640 + 8 * k + 5) ((s.wr MED_STK_FENCED 1 k).wr FLM_LNK_FENCED 1 k)
    let staged := s.media.slots.filter (fun x => x.stream == 0 && x.committed && mine x.parcel)
    let s := quarantine true free mine s
    let s := forAll (s.work.filter (fun w => w.need ≠ 0 && mine w.parcel && w.stage != .waiting)) abortWork s
    let s := { s with work := s.work.filter (fun w => w.kind ≠ .relocate k)
                      media := { s.media with
                        stripes := s.media.stripes.filter (fun t => t.stack ≠ k)
                        reclaims := s.media.reclaims.filter (fun r => r.stack ≠ k)
                        reads := s.media.reads.filter (fun r => !(mine r.parcel)) } }
    let s := forAll staged (fun x s =>
      { s with work := s.work ++ [⟨s.nextWork, x.page, 0, .relocate 16, .waiting, 0, 0, .none, x.image, [], 0⟩]
               nextWork := s.nextWork + 1 }) s
    let down := ((List.range 16).filter (fun j => s.stackOn j && s.stackFenced j)).length
    let s := if s.mode.planStacks + 2 ≤ down && !(s.rdB TLR_STAT_RISK) then raise 52 (s.wr TLR_STAT_RISK 1) else s
    scaleAdmission true (setCaps s)

/-! Courier engines and Clerk cores. -/

/-- The engine that serves a ring (R284); none when no engine is left. -/
def State.ringEngine (s : State) (r : Nat) : Option Nat :=
  let e := r % s.part.couriers
  let rest := s.liveEngines
  if rest.contains e then some e else rest[r / s.part.couriers % rest.length]?

/-- Fence a Courier engine (R284): its descriptors abort; with no engine left every open ring is in Error 3. -/
def courierFence (e : Nat) (s : State) : State :=
  let s := (s.wrBit COU_MAP_FENCED e true).wr COU_MAP_ACTIVE (s.rd COU_MAP_ACTIVE - 1)
  let s := { s with cou := { s.cou with rings := s.cou.rings.map (fun (x : Nat × Ring) =>
    if (match x.2.desc with | some d => d.engine == e | none => false) then (x.1, x.2.endDesc 0x14) else x) } }
  let s := if s.liveEngines.isEmpty then
      { s with cou := { s.cou with rings := s.cou.rings.map (fun (x : Nat × Ring) => (x.1, { x.2 with state := .error, err := 3 })) } }
    else s
  scaleAdmission true (setCaps (raise 929 s))

/-- Fence a Clerk core: the other Clerks take over its work (R39, R399). -/
def coreFence (i : Nat) (s : State) : State :=
  { s with post := { s.post with coreFence := i :: s.post.coreFence.filter (· ≠ i), coresUp := s.post.coresUp.filter (· ≠ i) } }

/-! Faults. -/

/-- The place of a unit's fault register. -/
def unitIdx (kind i : Nat) : Nat := (kind - 1) * 32 + i

/-- Fence the unit of a Fatal fault (R39, R417). -/
def fenceUnit (kind i : Nat) (s : State) : State :=
  match kind with
  | 1 => headFence i s
  | 2 => sliceFatal i s
  | 3 => channelFence i s
  | 4 => stackFence i s
  | 5 => engineFatal false i s
  | 6 => engineFatal true i s
  | 7 => courierFence i s
  | 8 => coreFence i s
  | _ => halt .escalation s

/-- The unacknowledged flag of a class in a unit. -/
def ackField (c : Nat) : Fld := if c = 0 then FLT_U_CORR else if c = 1 then FLT_U_CONT else FLT_U_FATAL

/-- The class a fault ends in: one up for each class that is still unacknowledged; 3 is Halt (R421). -/
def State.escalated (s : State) (u : Nat) : Nat → Nat → Nat
  | 0, c => c
  | n + 1, c => if c < 3 && s.rdB (ackField c) u then s.escalated u n (c + 1) else c

/-- A fault of a data-plane class in a unit (R416 to R422): escalated, recorded, flagged, acted on. `src`: the event source
that reported it; `d1`, `d2`: its detail words. -/
def fault (kind i cls src d1 d2 : Nat) (s : State) : State :=
  let u := unitIdx kind i
  let code := kind * 256 + i
  let c := s.escalated u 3 cls
  let esc := decide (cls < c)
  let auto := (c = 0 ∧ 1 ≤ s.rd FLT_CFG_AUTOACK) ∨ (c = 1 ∧ 2 ≤ s.rd FLT_CFG_AUTOACK)
  let shown := if c = 3 then 4 else c
  let s := (((s.wr FLT_LAST_UNIT code).wr FLT_LAST_CLASS shown).wrB FLT_LAST_ESC esc).wr FLT_LAST_SRC src
  let s := s.wrB FLT_U_ESC esc u
  let s := queueRec ⟨s.stamp, code, shown, esc.toNat + 2 * (decide (c = 2)).toNat + 4 * (decide auto).toNat, src, d1, d2⟩ s
  let s := if esc then raise 27 s else s
  match c with
  | 0 =>
    let s := raiseLimited 24 0 ((s.bump FLT_CNT_CORR 1).bump FLT_U_NCORR 1 u)
    if auto then s else s.wr FLT_U_CORR 1 u
  | 1 =>
    let s := raise 25 ((s.bump FLT_CNT_CONT 1).bump FLT_U_NCONT 1 u)
    if auto then s else s.wr FLT_U_CONT 1 u
  | 2 =>
    let s := raise 26 ((s.bump FLT_CNT_FATAL 1).bump FLT_U_NFATAL 1 u)
    fenceUnit kind i ((s.wr FLT_U_FATAL 1 u).wr FLT_U_FENCED 1 u)
  | _ => halt .escalation s

/-- The kind, the configuration index and the unit of a leaky bucket (R426, R417), and its overflow event (R427). -/
def bucketOf (s : State) (b : Nat) : Nat × Nat × Nat × Nat :=
  if b < 64 then (0, 3, b / 4, 512 + 8 * (b / 4) + 1)
  else if b < 592 then (1, 4, (b - 64) / 33, 640 + 8 * ((b - 64) / 33) + 1)
  else (2, 2, b - 592, 256 + 8 * s.logicalOf (b - 592) + 1)

/-- A counted error enters a leaky bucket (R427); true when it overflowed. Buckets of a fenced unit stop. -/
def bucketAdd (b : Nat) (s : State) : Bool × State :=
  let (k, kind, i, ev) := bucketOf s b
  if s.rdB FLT_U_FENCED (unitIdx kind i) then (false, s)
  else if s.rd FLT_BKT_LVL_LEVEL b + 1 ≤ s.rd FLT_BKT_CFG_DEPTH k then
    (false, s.wr FLT_BKT_LVL_LEVEL (s.rd FLT_BKT_LVL_LEVEL b + 1) b)
  else
    let s := (s.wr FLT_BKT_LVL_LEVEL (s.rd FLT_BKT_CFG_DEPTH k / 2) b).bump FLT_BKT_LVL_OVF 1 b
    (true, fault kind i 0 ev b 0 (raise ev s))

end Sys2Proof.Machine
end

