-- ==== Sys2Proof/Machine/Journal.lean ====
section
/-! DEFINITION. The metadata journal (R70, R230): the journal's next write, the checkpoint, forced commits. -/
namespace Sys2Proof.Machine

/-- A page has a commit into a P-stream stripe that is not verified (R230). -/
def State.unverified (s : State) (page : Nat) : Bool :=
  s.media.slots.any (fun x => x.page == page && x.committed && x.stream == 0 && x.left != 0)

/-- The journal's next write: the records of every entry that names no unverified stripe (R230). -/
def journalWrite (s : State) : State :=
  let go := s.mem.unjournaled.filter (fun p => !(s.unverified p))
  let dur := go.foldl (fun d p => match s.mem.pages.find p with | some e => d.put p e | none => d.del p) s.mem.durable
  { s with mem := { s.mem with durable := dur, records := s.mem.records ++ go.map (fun p => (p, s.mem.pages.find p)), unjournaled := s.mem.unjournaled.filter (fun p => s.unverified p),
                               committed := s.mem.committed + go.length } }

/-- A root record is written (R70, R455): 1 checkpoint, 2 Tailrace completion, 3 Stop entry. -/
def rootRecord (kind : Nat) (s : State) : State := logSend (if kind = 2 then 1 else 2) 6 (.root kind) true s

/-- Some P-stream slot holds a commit whose stripe is not verified. -/
def State.stagedCommits (s : State) : Bool := s.media.slots.any (fun x => x.stream == 0 && x.committed && x.left != 0)

/-- Every P-stream stripe that holds a slot is padded and programmed (R226, R230). -/
def padStaged (s : State) : State := forAll (List.range 16) (fun k s => padStream k 0 s) s

/-- A checkpoint that is due and finds every commit's stripe verified writes the journal and the root record (R70, R230). -/
def checkpoint (s : State) : State :=
  if s.mem.checkpointDue && !s.stagedCommits then
    rootRecord 1 (journalWrite { s with mem := { s.mem with checkpointDue := false } })
  else s

end Sys2Proof.Machine
end

