-- ==== Sys2Proof/Machine/KeyWrap.lean ====
section
/-! DEFINITION. AES key wrap and the wrapped blobs of the key-wrap partition (R149, R443); the records of the repair map. -/
namespace Sys2Proof.Machine

/-! AES key wrap (NIST SP 800-38F, KW; R149). -/

/-- The block cipher on sixteen bytes. -/
def aesBytes (f : BitVec 128 → BitVec 128) (b : List Byte) : List Byte := blockBytes ((toBlocks 1 b).map f)

/-- The last byte of an eight-byte value changed by the step number, at most 48. -/
def kwMark (a : List Byte) (t : Nat) : List Byte := a.take 7 ++ (a.drop 7).map (· ^^^ BitVec.ofNat 8 t)

/-- Wrap: six passes over the semiblocks. The first of the result is the integrity value. -/
def kwWrap (key : BitVec 256) (secret : List Byte) : List Byte :=
  let n := secret.length / 8
  let r0 := (List.range n).map (fun i => slice secret (8 * i) 8)
  let out := (List.range (6 * n)).foldl (fun (x : List Byte × List (List Byte)) j =>
    let (a, r) := x
    let i := j % n
    let b := aesBytes (Config.aes256 key) (a ++ (r[i]?).getD [])
    (kwMark (b.take 8) (j + 1), r.set i (b.drop 8))) (List.replicate 8 0xA6, r0)
  out.1 ++ out.2.flatten

/-- Unwrap: none when the integrity value is wrong. -/
def kwUnwrap (key : BitVec 256) (c : List Byte) : Option (List Byte) :=
  let n := c.length / 8 - 1
  let r0 := (List.range n).map (fun i => slice c (8 * i + 8) 8)
  let out := (List.range (6 * n)).reverse.foldl (fun (x : List Byte × List (List Byte)) j =>
    let (a, r) := x
    let i := j % n
    let b := aesBytes (Config.aes256 key).symm (kwMark a (j + 1) ++ (r[i]?).getD [])
    (b.take 8, r.set i (b.drop 8))) (c.take 8, r0)
  if out.1 = List.replicate 8 0xA6 then some out.2.flatten else none

/-! Blobs in the key-wrap partition (R149, R443). -/

/-- The 128 bytes of blob slot i. -/
def State.blobAt (s : State) (i : Nat) : List Byte := s.logRead 3 (128 * i) 128

/-- A blob slot holds a blob: its CRC is right. -/
def blobOk (b : List Byte) : Bool := b.any (· ≠ 0) && fieldAt b 124 4 == crc32c (b.take 124)

/-- The bytes of a blob. -/
def blobBytes (d version : Nat) (wrapped : List Byte) : List Byte :=
  let body := leBytes 2 d ++ zeros 2 ++ leBytes 4 version ++ fit 72 wrapped ++ zeros 44
  body ++ leBytes 4 (crc32c body)

/-- The slot that holds a domain's blob. -/
def State.blobOf (s : State) (d : Nat) : Option Nat :=
  (List.range 1024).find? (fun i => blobOk (s.blobAt i) && fieldAt (s.blobAt i) 0 2 == d)

/-- A slot that holds no blob. -/
def State.blobFree (s : State) : Option Nat := (List.range 1024).find? (fun i => !(blobOk (s.blobAt i)))

/-! The repair map. -/

/-- The records of the repair map, in the order of their places: kind and value (log entry 16). -/
def State.mapRecords (s : State) : List (Nat × Nat) :=
  ((List.range s.book.mapNext).map (fun i =>
    let b := s.logRead 4 (16 * (i % 3840)) 16
    (fieldAt b 0 8, fieldAt b 8 8))).filter (fun x => x.1 != 0)

/-- A record of the repair map: kind and value, in the next place of the partition (R210, R255, R275; log entry 16). -/
def mapRecord (kind value : Nat) (s : State) : State :=
  let i := s.book.mapNext
  logSend 2 4 (.bytes (16 * (i % 3840)) (leBytes 8 kind ++ leBytes 8 value)) true { s with book := { s.book with mapNext := i + 1 } }

/-! Loading a domain. -/

/-- Load a domain's keys (R145, R147). -/
def loadKeys (d : Nat) (secret : List Byte) (s : State) : State :=
  { (s.wr MIL_KD_STATE 1 d) with keys := { s.keys with slots := s.keys.slots.put d (deriveSlot d secret) } }

end Sys2Proof.Machine
end

