-- ==== Sys2Proof/Machine/Image.lean ====
section
/-! DEFINITION. Amanmi images (R400 to R408): slot records, the header and the sections, the registers an image sets, the
ranges and image defaults that the field tables state, and the seven checks of R404. -/
namespace Sys2Proof.Machine

/-! Ranges and image defaults (R403). -/

/-- The stated range and the image default of a field: least, most, default. A field without a stated range takes any value of its
width; one without a stated default takes zero. -/
def fieldRules : List (Fld × Nat × Nat × Nat) := [
  (HOM_CFG_HOLD, 0, 1000, 100), (HOM_CFG_BITO, 10, 10000, 100), (FCA_CFG_LOCKW, 0, 8, 0), (FCA_CFG_PFD, 0, 4, 2),
  (CAP_WM_LOW, 0, 65535, 4096), (CAP_WM_CRIT, 0, 65535, 1024), (CAP_WM_HYST, 0, 65535, 256), (CAP_WM_RELP, 1, 255, 10),
  (CAP_WM_RELMAX, 1, 255, 64), (CAP_EQ_RSHARE, 0, 1024, 64), (TIE_CFG_SAMPLE, 0, 10, 4), (TIE_CFG_EPOCH, 1, 10000, 100),
  (TIE_CFG_PROMO, 1, 255, 8), (TIE_CFG_DEMO, 0, 255, 2), (TIE_CFG_MIGMAX, 1, 255, 64), (TIE_DWM_START, 0, 65535, 64),
  (TIE_DWM_STOP, 0, 65535, 128), (TIE_DWM_MIGRES, 16, 128, 32)] ++ [
  (DRM_CFG_WQ_HIGH, 2, 128, 96), (DRM_CFG_WQ_LOW, 0, 127, 32), (DRM_CFG_NR_THRESH, 256, 8192, 2048),
  (DRM_CFG_CE_ROW, 1, 255, 8), (DRM_CFG_MARGIN, 0, 255, 6), (MED_CFG_PADTO, 50, 1000, 500), (MED_CFG_RCLPAR, 1, 4, 2),
  (MED_RCL_START, 0, 4194303, 8192), (MED_RCL_STOP, 0, 4194303, 16384), (MED_RCL_MINSTALE, 0, 255, 128),
  (MED_RCL2_FLOOR, 0, 4194303, 1024), (MED_WEAR_SPREAD, 0, 65535, 10000), (MED_HLTH_STEP, 1, 7, 2),
  (MED_HLTH_CBITS, 0, 24, 12), (MED_HLTH_ERSTEP, 1, 6, 2), (MED_HLTH_DIEUE, 1, 4095, 256), (MED_HLTH_OVFMAX, 1, 15, 4),
  (MED_HLTH_PFMAX, 1, 15, 4), (MED_RBD_RATE, 10, 90, 60), (MED_RBD_PAR, 1, 7, 4)] ++ [
  (FLM_CFG_MARGIN, 4, 48, 16), (FLM_CFG_LERR, 1, 255, 8), (FLM_CFG_RPLMAX, 1, 1023, 64), (FLM_CFG_RTNMAX, 1, 15, 3),
  (COU_PART_COUNT, 0, 262144, 0), (QOS_CFG_AGE, 1, 255, 20), (QOS_BUD_B_TRK, 0, 960, 0), (QOS_BUD_B_WQ, 0, 128, 0),
  (QOS_BUD_B_FC, 0, 65536, 0), (MOD_CFG_WAKEEN, 0, 31, 1), (MOD_CFG_L2WAIT, 1, 4000, 1000), (MOD_CFG_TWAKE, 60, 110, 85),
  (FLT_CFG_AUTOACK, 0, 2, 2), (FLT_BKT_CFG_DEPTH, 1, 65535, 0), (FLT_BKT_CFG_DRAIN, 1, 16777215, 0),
  (MGT_SMB_ADDR, 0, 127, 0x58), (CNT_RING_A_LOGSZ, 1, 16, 0), (CNT_RING_B_PERIOD, 1, 1000000, 0), (FLM_PG_PAT, 0, 4, 0),
  (FLM_INJ_LANE, 0, 4, 0), (HPT_PG_PAT, 0, 4, 0), (HPT_PG_LANES, 0, 15, 0), (HPT_INJ_LANE, 0, 3, 0), (MOD_CTL_REQ, 1, 5, 0)]

/-- The range of a field. -/
def Fld.inRange (f : Fld) (v : Nat) : Bool :=
  match fieldRules.find? (fun x => x.1.id == f.id) with
  | some (_, lo, hi, _) => decide (lo ≤ v ∧ v ≤ hi)
  | none => decide (v < 2 ^ f.w)

/-- The image default of a field of an index; the bucket defaults are those of R427. -/
def Fld.imageDefault (f : Fld) (i : Nat) : Nat :=
  if f.id = FLT_BKT_CFG_DEPTH.id then ([256, 1024, 16][i]?).getD 0
  else if f.id = FLT_BKT_CFG_DRAIN.id then ([1000, 100, 10000][i]?).getD 0
  else match fieldRules.find? (fun x => x.1.id == f.id) with
    | some (_, _, _, d) => d
    | none => 0

/-- The registers that section 0x12 sets: offset, index, the fields it supplies (R403). The fields of sections 0x04 and 0x05 in
the same registers are not among them. -/
def tuneRegs : List (Nat × Nat × List Fld) := [
  (0x810000, 0, [HOM_CFG_HOLD, HOM_CFG_BITO]), (0x820000, 0, [FCA_CFG_PFD, FCA_CFG_PFEN]),
  (0x807030, 0, [CAP_WM_LOW, CAP_WM_CRIT, CAP_WM_HYST, CAP_WM_RELP, CAP_WM_RELMAX]),
  (0x840000, 0, [TIE_CFG_SAMPLE, TIE_CFG_EPOCH, TIE_CFG_PROMO, TIE_CFG_DEMO, TIE_CFG_MIGMAX]),
  (0x840008, 0, [TIE_DWM_START, TIE_DWM_STOP]),
  (0x850000, 0, [DRM_CFG_WQ_HIGH, DRM_CFG_WQ_LOW, DRM_CFG_NR_THRESH, DRM_CFG_CE_ROW, DRM_CFG_MARGIN]),
  (0x860000, 0, [MED_CFG_PADTO, MED_CFG_RCLPAR]), (0x860010, 0, [MED_RCL_START, MED_RCL_STOP, MED_RCL_MINSTALE]),
  (0x860018, 0, [MED_RCL2_FLOOR]), (0x860028, 0, [MED_WEAR_SPREAD])] ++ [
  (0x861040, 0, [MED_HLTH_STEP, MED_HLTH_CBITS, MED_HLTH_ERSTEP, MED_HLTH_DIEUE, MED_HLTH_OVFMAX, MED_HLTH_PFMAX]),
  (0x861048, 0, [MED_RBD_RATE, MED_RBD_PAR]), (0x870000, 0, [FLM_CFG_MARGIN, FLM_CFG_LERR, FLM_CFG_RPLMAX, FLM_CFG_RTNMAX]),
  (0x890000, 0, [QOS_CFG_AGE]),
  (0x8D0010, 0, [ MOD_CFG_WAKEEN, MOD_CFG_FEEDMASK, MOD_CFG_L2WAIT, MOD_CFG_TWAKE, MOD_CFG_HOSTREQ]),
  (0x8F0000, 0, [FLT_CFG_AUTOACK]), (0x8F0040, 0, [FLT_BKT_CFG_DEPTH, FLT_BKT_CFG_DRAIN]),
  (0x8F0048, 1, [FLT_BKT_CFG_DEPTH, FLT_BKT_CFG_DRAIN]), (0x8F0050, 2, [FLT_BKT_CFG_DEPTH, FLT_BKT_CFG_DRAIN]),
  (0x910008, 0, [CNT_UREN_UREN]), (0x920000, 0, [MGT_SMB_ADDR]), (0x920008, 0, [MGT_MCTP_EID])]

/-- The ordering and sum rules stated for protected fields (CAP_WM, TIE_DWM, DRM_CFG, MED_RCL, MED_RCL2, R105, R184, R283), each with
the fields it is about. -/
def orderList : List (List Fld × (State → Bool)) := [
  ([CAP_WM_LOW, CAP_WM_CRIT], fun s => decide (s.rd CAP_WM_CRIT < s.rd CAP_WM_LOW)),
  ([TIE_DWM_START, TIE_DWM_STOP], fun s => decide (s.rd TIE_DWM_START < s.rd TIE_DWM_STOP)),
  ([DRM_CFG_WQ_LOW, DRM_CFG_WQ_HIGH], fun s => decide (s.rd DRM_CFG_WQ_LOW < s.rd DRM_CFG_WQ_HIGH)),
  ([MED_RCL_START, MED_RCL_STOP], fun s => decide (s.rd MED_RCL_START < s.rd MED_RCL_STOP)),
  ([MED_RCL2_FLOOR, MED_RCL_START], fun s => decide (s.rd MED_RCL2_FLOOR < s.rd MED_RCL_START)),
  ([FCA_LOCKQ_QUOTA], fun s =>
    decide ((List.range 16).foldl (fun a h => a + s.rd FCA_LOCKQ_QUOTA h) 0 ≤ s.rd FCA_CFG_LOCKW * 65536)),
  ([CAP_EQ_RSHARE], fun s => decide ((List.range 16).foldl (fun a h => a + s.rd CAP_EQ_RSHARE h) 0 ≤ 1024)),
  ([COU_RQ_QUOTA], fun s => (List.range 16).all (fun h => decide (s.rd COU_RQ_QUOTA h ≤ s.rd COU_PART_COUNT h)))]

/-- Every one of those rules holds. -/
def State.orderRules (s : State) : Bool := orderList.all (fun x => x.2 s)

/-- Every field of a word is in its range. -/
def wordInRange (fs : List Fld) (v : Nat) : Bool := fs.all (fun f => f.inRange (bits v f.lo f.w))

/-- The bits of a word that some fields cover. -/
def fieldMask (fs : List Fld) : Nat := fs.foldl (fun a f => a ||| ((2 ^ f.w - 1) * 2 ^ f.lo)) 0

/-- Load fields of an index from a word. -/
def loadWord (fs : List Fld) (i v : Nat) (s : State) : State := fs.foldl (fun s f => s.wr f (bits v f.lo f.w) i) s

/-! Slots (R400). -/

/-- The slot record: STATE, SEQ, LENGTH; a record with a bad MAGIC or CRC counts as erased. -/
def State.slotRec (s : State) (slot : Nat) : Nat × Nat × Nat :=
  let b := s.logPage (1 + slot) 0
  if fieldAt b 0 4 = 0x4C534D41 ∧ fieldAt b 16 4 = crc32c (b.take 16) then (fieldAt b 8 1, fieldAt b 4 4, fieldAt b 12 4)
  else (0, 0, 0)

/-- The bytes of a slot record. -/
def slotRecord (seq state len : Nat) : List Byte :=
  let body := leBytes 4 0x4C534D41 ++ leBytes 4 seq ++ leBytes 1 state ++ zeros 3 ++ leBytes 4 len
  body ++ leBytes 4 (crc32c body) ++ zeros 236

/-- The current slot: activated, of the higher SEQ. -/
def State.currentSlot (s : State) : Option Nat :=
  let (a, x, _) := s.slotRec 0
  let (b, y, _) := s.slotRec 1
  if a = 2 ∧ b = 2 then (if x < y then some 1 else some 0) else if a = 2 then some 0 else if b = 2 then some 1 else none

/-- What a slot is: 0 empty, 1 staged, 2 current, 3 previous. -/
def State.slotState (s : State) (slot : Nat) : Nat :=
  if s.currentSlot = some slot then 2
  else match (s.slotRec slot).1 with
    | 2 => 3
    | 1 => 1
    | _ => 0

/-- The image of a slot. -/
def State.slotImage (s : State) (slot : Nat) : List Byte := s.logRead (1 + slot) 256 (min (s.slotRec slot).2.2 786432)

/-- The slot that is not current, which a transfer writes (R412). -/
def State.otherSlot (s : State) : Nat := match s.currentSlot with | some n => 1 - n | none => 0

/-! The image (R401 to R403). -/

/-- A directory entry. -/
structure Sect where
  typ : Nat
  cls : Nat
  off : Nat
  len : Nat
  deriving DecidableEq, Repr

/-- The section directory. -/
def imgSects (b : List Byte) : List Sect :=
  (List.range (min (fieldAt b 20 2) 64)).map (fun i =>
    ⟨fieldAt b (192 + 16 * i) 2, fieldAt b (194 + 16 * i) 1, fieldAt b (196 + 16 * i) 4, fieldAt b (200 + 16 * i) 4⟩)

/-- The bytes of a section. -/
def sect (b : List Byte) (t : Nat) : List Byte :=
  match (imgSects b).find? (fun x => x.typ == t) with
  | some x => slice b x.off x.len
  | none => []

/-- A section's class and length are those of R402. -/
def Sect.ok (x : Sect) : Bool :=
  match x.typ with
  | 0x01 => x.cls == 1 && x.len == 16
  | 0x02 => x.cls == 1 && x.len == 136
  | 0x03 => x.cls == 1 && x.len == 8192
  | 0x04 => x.cls == 1 && x.len == 8
  | 0x05 => x.cls == 1 && x.len == 8
  | 0x06 => x.cls == 1 && x.len == 16384
  | 0x07 => x.cls == 1 && x.len == 128
  | 0x08 => x.cls == 1 && x.len == 64
  | 0x10 => x.cls == 0 && x.len == 1152
  | 0x11 => x.cls == 0 && x.len == 520
  | 0x12 => x.cls == 0 && x.len % 16 == 0
  | 0x13 => x.cls == 0 && x.len == 8192
  | 0x20 => x.cls == 0 && decide (x.len ≤ 524288)
  | 0x21 => x.cls == 1 && decide (x.len ≤ 131072)
  | _ => false

/-- The sections an image holds, each once (R402). -/
def sectTypes : List Nat := [0x01, 0x02, 0x03, 0x04, 0x05, 0x06, 0x07, 0x08, 0x10, 0x11, 0x12, 0x13, 0x20, 0x21]

/-- Live sections (R402, R409). -/
def liveSects : List Nat := [0x10, 0x11, 0x12, 0x13, 0x20]

def imgVersion (b : List Byte) : Nat := fieldAt b 8 4
def imgFloor (b : List Byte) : Nat := fieldAt b 12 4
def imgKeyidx (b : List Byte) : Nat := fieldAt b 7 1
def imgLength (b : List Byte) : Nat := fieldAt b 16 4

/-- A tuning entry: its offset and its value. -/
def tuneEntries (b : List Byte) : List (Nat × Nat) :=
  let t := sect b 0x12
  (List.range (t.length / 16)).map (fun i => (fieldAt t (16 * i) 4, fieldAt t (16 * i + 8) 8))

/-! The registers an image sets. -/

def rgnA : List Fld := [CAP_RGN_A_VALID, CAP_RGN_A_TYPE, CAP_RGN_A_COHER, CAP_RGN_A_CLASS, CAP_RGN_A_TIER, CAP_RGN_A_OPAQUE,
  CAP_RGN_A_ELASTIC, CAP_RGN_A_KEYDOM, CAP_RGN_A_ELEM, CAP_RGN_A_KEEP, CAP_RGN_A_HEADS]
def rgnB : List Fld := [CAP_RGN_B_BASE_EXT, CAP_RGN_B_SIZE_EXT]
def qmapFlds : List Fld := [HPT_QMAP_Q0, HPT_QMAP_Q1, HPT_QMAP_Q2, HPT_QMAP_Q3, HPT_QMAP_Q4, HPT_QMAP_Q5, HPT_QMAP_Q6,
  HPT_QMAP_Q7, HPT_QMAP_Q8, HPT_QMAP_Q9, HPT_QMAP_Q10, HPT_QMAP_Q11, HPT_QMAP_Q12, HPT_QMAP_Q13, HPT_QMAP_Q14, HPT_QMAP_Q15]
def hcfgFlds : List Fld := [HPT_HCFG_MAXRATE, HPT_HCFG_SRIS, HPT_HCFG_IDEREQ, HPT_HCFG_IDEMODE, HPT_HCFG_LOFLIT]
def kdFlds : List Fld := [MIL_KD_PERSIST, MIL_KD_OPAQUE, MIL_KD_OWNER, MIL_KD_COU, MIL_KD_SCRUB, MIL_KD_CLKDBG, MIL_KD_JTAG]
def partFlds : List Fld := [COU_PART_BASE, COU_PART_COUNT]
def qosHeadFlds : List Fld := [QOS_HEAD_CEIL, QOS_HEAD_RANK]
def budAFlds : List Fld := [QOS_BUD_A_DRAM, QOS_BUD_A_MEDIA, QOS_BUD_A_COU, QOS_BUD_A_CFG_DRAM]
def budBFlds : List Fld := [QOS_BUD_B_TRK, QOS_BUD_B_WQ, QOS_BUD_B_FC, QOS_BUD_B_CFG_COU]
def routeFlds : List Fld := [EVT_ROUTE_HEADS, EVT_ROUTE_VEC, EVT_ROUTE_LOG, EVT_ROUTE_LOGEN, EVT_ROUTE_CLERK]

/-- The place of an elastic region among those of the lowest head that sees it (CAP_RGN_C.DCR, R46). -/
def State.dcrOf (s : State) (r : Region) : Nat :=
  match (List.range 16).find? (fun h => r.heads.getLsbD h) with
  | some h => ((sortRegions (s.regions.filter (fun q => q.heads.getLsbD h && q.elastic))).takeWhile (fun q => q.n ≠ r.n)).length
  | none => 0

/-- The quad map and the link options: section 0x02. -/
def loadQuads (b : List Byte) (s : State) : State :=
  let q := sect b 0x02
  forAll (List.range 16) (fun h s => loadWord hcfgFlds h (fieldAt q (8 + 8 * h) 8) s) (loadWord qmapFlds 0 (fieldAt q 0 8) s)

/-- The region table: section 0x03, with the totals and positions that follow from it (R43, R44, R51). -/
def loadRegions (b : List Byte) (s : State) : State :=
  let t := sect b 0x03
  let s := forAll (List.range 256) (fun n s =>
    let a := fieldAt t (32 * n) 8
    if a % 2 = 0 then loadWord rgnB n 0 (loadWord rgnA n 0 s)
    else loadWord rgnB n (fieldAt t (32 * n + 8) 8) (loadWord rgnA n a s)) s
  let rs := s.regions
  let s := (s.wr CAP_SPACE_COMMIT_EXT ((rs.filter (fun r => !r.elastic)).foldl (fun a r => a + r.size) 0)).wr
    CAP_SPACE_ELASTIC_EXT ((rs.filter (·.elastic)).foldl (fun a r => a + r.size) 0)
  forAll (List.range 256) (fun n s => s.wr CAP_RGN_C_DCR
    (match rs.find? (fun r => r.n == n) with | some r => if r.elastic then s.dcrOf r else 0 | none => 0) n) s

/-- The restart sections (R402): masks stay with the Cold Start that applies them. -/
def loadRestart (b : List Byte) (s : State) : State :=
  let s := s.wr PST_CTL_HOSTW (fieldAt (sect b 0x01) 6 2)
  let s := loadRegions b (loadQuads b s)
  let h := fieldAt (sect b 0x04) 0 8
  let s := (s.wr HOM_CFG_HASH (bits h 0 1)).wr FCA_CFG_LOCKW (bits h 8 4)
  let s := s.wr TIE_DWM_MIGRES (bits (fieldAt (sect b 0x05) 0 8) 0 8)
  let k := sect b 0x06
  let s := forAll (List.range 4096) (fun d s => loadWord kdFlds d (fieldAt k (4 * d) 4) s) s
  let p := sect b 0x07
  forAll (List.range 16) (fun n s => loadWord partFlds n (fieldAt p (8 * n) 8) s) s

/-- Section 0x10: ceilings, ranks and budgets. `rates`: the rates in force take the configured ones too. -/
def loadQos (b : List Byte) (rates : Bool) (s : State) : State :=
  let t := sect b 0x10
  let s := forAll (List.range 16) (fun n s => loadWord qosHeadFlds n (fieldAt t (8 * n) 8) s) s
  if rates then
    forAll (List.range 64) (fun i s =>
      let s := loadWord budBFlds i (fieldAt t (136 + 16 * i) 8) (loadWord budAFlds i (fieldAt t (128 + 16 * i) 8) s)
      (s.wr QOS_BUD_A_DRAM (s.rd QOS_BUD_A_CFG_DRAM i) i).wr QOS_BUD_A_COU (s.rd QOS_BUD_B_CFG_COU i) i) s
  else s

/-- Section 0x11: quotas. -/
def loadQuotas (b : List Byte) (s : State) : State :=
  let t := sect b 0x11
  let s := forAll (List.range 16) (fun n s =>
    let s := loadWord [CAP_EQ_QUOTA, CAP_EQ_RSHARE] n (fieldAt t (32 * n) 8) s
    (s.wr FCA_LOCKQ_QUOTA (fieldAt t (32 * n + 8) 4) n).wr COU_RQ_QUOTA (fieldAt t (32 * n + 12) 4) n) s
  s.wr TIE_PIN_LIMIT (fieldAt t 512 8)

/-- Section 0x12: every register it sets, from its entry or at its image defaults (R403). -/
def loadTuning (b : List Byte) (s : State) : State :=
  let es := tuneEntries b
  forAll tuneRegs (fun r s => match es.find? (fun e => e.1 == r.1) with
    | some e => loadWord r.2.2 r.2.1 e.2 s
    | none => forAll r.2.2 (fun f s => s.wr f (f.imageDefault r.2.1) r.2.1) s) s

/-- Section 0x13: the routes of the sources; a reserved source's route stays zero (R440). -/
def loadRoutes (b : List Byte) (s : State) : State :=
  let t := sect b 0x13
  forAll (List.range 1024) (fun i s => if sourceReserved i then s else loadWord routeFlds i (fieldAt t (8 * i) 8) s) s

/-- The registers as an image would set them. -/
def loadImage (b : List Byte) (s : State) : State :=
  loadRoutes b (loadTuning b (loadQuotas b (loadQos b true (loadRestart b s))))

/-! Validation (R404). -/

/-- Check 1: the signature verifies; revocation is check 4. -/
def imgSigned (b : List Byte) : Bool :=
  let n := imgLength b
  decide (imgKeyidx b < 4) && decide (288 ≤ n) &&
    Config.signatureOk (imgKeyidx b) (Config.sha384 (b.take (n - 96))) (slice b 64 96 ++ slice b (n - 96) 96)

/-- Bytes of a list that are zero. -/
def zeroAt (b : List Byte) (off n : Nat) : Bool := (slice b off n).all (· == 0)

/-- Reserved bytes and bits that R402 and R403 name are zero, and no reserved pin function is named (R495). -/
def imgReserved (b : List Byte) : Bool :=
  zeroAt b 22 42 && zeroAt b 160 32 &&
  (List.range (fieldAt b 20 2)).all (fun i => zeroAt b (195 + 16 * i) 1 && zeroAt b (204 + 16 * i) 4) &&
  zeroAt (sect b 0x01) 9 7 && (List.range 256).all (fun n => zeroAt (sect b 0x03) (32 * n + 16) 16) &&
  decide (fieldAt (sect b 0x04) 0 8 &&& 0xF01 = fieldAt (sect b 0x04) 0 8) && decide (fieldAt (sect b 0x05) 0 8 < 256) &&
  (List.range 4096).all (fun d => decide (fieldAt (sect b 0x06) (4 * d) 4 &&& fieldMask kdFlds = fieldAt (sect b 0x06) (4 * d) 4)) &&
  zeroAt (sect b 0x08) 16 48 && (List.range 16).all (fun i => decide (fieldAt (sect b 0x08) i 1 ≤ 7)) &&
  (List.range 16).all (fun n => zeroAt (sect b 0x11) (32 * n + 16) 16 &&
    decide (fieldAt (sect b 0x11) (32 * n + 8) 4 < 2 ^ 20) && decide (fieldAt (sect b 0x11) (32 * n + 12) 4 < 2 ^ 19)) &&
  decide (fieldAt (sect b 0x11) 512 8 < 65536) &&
  (List.range ((sect b 0x12).length / 16)).all (fun i => zeroAt (sect b 0x12) (16 * i + 4) 4)

/-- Check 2: the form of the image. -/
def imgFormed (b : List Byte) : Bool :=
  let ss := imgSects b
  fieldAt b 0 4 == 0x494D4D41 && fieldAt b 4 2 == 1 && imgLength b == b.length && decide (b.length ≤ 786432) &&
  fieldAt b 20 2 == 14 && sectTypes.all (fun t => (ss.filter (fun x => x.typ == t)).length == 1) && ss.all Sect.ok &&
  ss.all (fun x => decide (192 + 16 * 14 ≤ x.off ∧ x.off + x.len + 96 ≤ b.length)) &&
  ss.all (fun x => ss.all (fun y => x.typ == y.typ || decide (x.off + x.len ≤ y.off ∨ y.off + y.len ≤ x.off))) &&
  imgReserved b

/-- Check 3: the part is named, and every unit that the image enables or assigns is present (R6, R323). -/
def imgUnits (b : List Byte) (s : State) : Bool :=
  let m := sect b 0x01
  (fieldAt b 6 1).testBit (s.part.code - 1) && decide (fieldAt m 0 2 < 2 ^ s.part.channels) &&
  decide (fieldAt m 2 2 < 2 ^ s.part.stacks) && decide (fieldAt m 4 2 < 2 ^ s.part.couriers) &&
  decide (fieldAt (sect b 0x02) 0 8 < 2 ^ (3 * s.part.heads)) &&
  (List.range 256).all (fun n => decide (fieldAt (sect b 0x03) (32 * n) 1 % 2 = 0) ||
    decide (fieldAt (sect b 0x03) (32 * n + 4) 2 < 2 ^ s.part.heads)) &&
  (List.range 4096).all (fun d => decide (bits (fieldAt (sect b 0x06) (4 * d) 4) 4 4 < s.part.heads)) &&
  (List.range 16).all (fun h => decide (h < s.part.heads) || decide (fieldAt (sect b 0x07) (8 * h + 4) 4 % 2 ^ 19 = 0))

/-- Stored mantissa bits of an element format (R44). -/
def mantissaBits (e : Nat) : Nat := ([23, 7, 10, 3, 2][e]?).getD 0

/-- The rules of one region (R42 to R45). -/
def Region.ok (p : Part) (r : Region) : Bool :=
  let one := ((List.range 16).filter (fun h => r.heads.getLsbD h)).length
  decide (1 ≤ r.size ∧ r.base + r.size ≤ p.limitExt) && decide (r.typ < 3 ∧ r.tier < 3) &&
  (if r.db then decide (1 ≤ one) else one == 1) &&
  (if r.typ = 1 then r.tier == 2 && !r.elastic else r.tier != 2) &&
  (p.persist || (r.typ != 1 && r.tier == 1)) &&
  (if r.typ = 2 then decide (r.elem < 5 ∧ 1 ≤ r.keep ∧ r.keep + 1 ≤ mantissaBits r.elem) else r.elem == 0 && r.keep == 0)

/-- Regions do not overlap (R43). -/
def regionsApart (rs : List Region) : Bool :=
  rs.all (fun r => rs.all (fun q => r.n == q.n || decide (r.base + r.size ≤ q.base ∨ q.base + q.size ≤ r.base)))

/-- Regions and key domains agree (R45). -/
def State.domainsOk (s : State) : Bool :=
  let rs := s.regions
  rs.all (fun r => s.rdB MIL_KD_PERSIST r.keydom == (r.typ == 1) && s.rdB MIL_KD_OPAQUE r.keydom == r.opq) &&
  decide (((List.range 4096).filter (fun d => s.rdB MIL_KD_PERSIST d)).length ≤ 1024)

/-- The committed charge of some regions, in parcels. -/
def chargeOf (rs : List Region) : Nat := rs.foldl (fun a r => a + r.charge) 0

/-- The limits of R177 and R178 hold for the region table. -/
def State.limitsOk (s : State) : Bool :=
  let rs := s.regions
  decide (chargeOf (rs.filter (fun r => !r.elastic)) ≤ s.rd CAP_CLIM_CLIMIT * 2048) &&
  decide (chargeOf (rs.filter (fun r => !r.elastic && r.tier == 1)) ≤ s.rd CAP_CLIM_PLIMIT * 2048) &&
  (!s.part.persist || rs.all (fun r => !(r.elastic && r.tier == 1)))

/-- A Configure has computed the limits since the last Cold Start (R404). -/
def State.limitsKnown (s : State) : Bool := s.rd CAP_CLIM_CLIMIT != 0 || s.rd CAP_CLIM_PLIMIT != 0

/-- The sum of a budget field over the heads and classes. -/
def State.budSum (s : State) (f : Fld) : Nat := (List.range 64).foldl (fun a i => a + s.rd f i) 0

/-- The budget rules of R316, against the capacities of the units in service. -/
def State.budgetsOk (s : State) : Bool :=
  let dram := s.tokenRate * s.liveChannels.length
  decide (s.budSum QOS_BUD_A_CFG_DRAM ≤ dram) && decide (s.budSum QOS_BUD_A_MEDIA ≤ 75 * s.activeStacks.length / 4) &&
  decide (s.budSum QOS_BUD_B_CFG_COU ≤ s.tokenRate * s.liveEngines.length) && decide (s.budSum QOS_BUD_B_TRK ≤ 960) &&
  decide (s.budSum QOS_BUD_B_WQ ≤ 128) && decide (s.budSum QOS_BUD_B_FC ≤ 65536) &&
  decide ((List.range 16).foldl (fun a h => a + s.rd QOS_BUD_A_CFG_DRAM (4 * h)) 0 ≤ 2 * dram / 5)

/-- Quads (R323): each first quad is aligned to its width, its further quads follow it, and no further quad stands alone. -/
def State.quad (s : State) (q : Nat) : Nat := match qmapFlds[q]? with | some f => s.rd f | none => 0
def quadWidth (c : Nat) : Nat := if c = 1 then 1 else if c = 2 then 2 else if c = 3 then 4 else 0
def State.quadsOk (s : State) : Bool :=
  (List.range 16).all (fun q =>
    let c := s.quad q
    if c = 0 then true
    else if c ≤ 3 then
      q % quadWidth c == 0 && (List.range (quadWidth c - 1)).all (fun i => s.quad (q + 1 + i) == 4)
    else if c = 4 then (List.range q).any (fun j => s.quad j != 0 && s.quad j ≤ 3 && decide (q < j + quadWidth (s.quad j)))
    else false)

/-- Partitions (R282). -/
def State.partsOk (s : State) : Bool :=
  (List.range 16).all (fun h => s.rd COU_PART_BASE h % 64 == 0 && s.rd COU_PART_COUNT h % 64 == 0 &&
    decide (s.rd COU_PART_BASE h + s.rd COU_PART_COUNT h ≤ 262144) &&
    (List.range 16).all (fun j => h == j || s.rd COU_PART_COUNT h == 0 || s.rd COU_PART_COUNT j == 0 ||
      decide (s.rd COU_PART_BASE h + s.rd COU_PART_COUNT h ≤ s.rd COU_PART_BASE j) ||
      decide (s.rd COU_PART_BASE j + s.rd COU_PART_COUNT j ≤ s.rd COU_PART_BASE h)))

/-- Tuning entries: each names a register that section 0x12 sets, once, in range, its other bits zero (R403). -/
def tuneOk (b : List Byte) : Bool :=
  let es := tuneEntries b
  decide ((es.map (·.1)).Nodup) && es.all (fun e => match tuneRegs.find? (fun r => r.1 == e.1) with
    | some r => decide (e.2 &&& fieldMask r.2.2 = e.2) && wordInRange r.2.2 e.2
    | none => false)

/-- Words of the other sections are in range, before they are cut to their fields. -/
def wordsOk (b : List Byte) : Bool :=
  let k := sect b 0x07
  let q := sect b 0x10
  decide (bits (fieldAt (sect b 0x04) 0 8) 8 4 ≤ 8) && TIE_DWM_MIGRES.inRange (bits (fieldAt (sect b 0x05) 0 8) 0 8) &&
  (List.range 16).all (fun h => wordInRange partFlds (fieldAt k (8 * h) 8)) &&
  (List.range 64).all (fun i => wordInRange budBFlds (fieldAt q (136 + 16 * i) 8)) &&
  (List.range 16).all (fun h => wordInRange [CAP_EQ_QUOTA, CAP_EQ_RSHARE] (fieldAt (sect b 0x11) (32 * h) 8))

/-- Pin functions (R495): no function on two pins; both console functions or neither. -/
def pinsOk (b : List Byte) : Bool :=
  let l := (List.range 16).map (fun i => fieldAt (sect b 0x08) i 1)
  decide ((l.filter (· ≠ 0)).Nodup) && l.contains 1 == l.contains 2

/-- Check 6: the rules of the chapters. -/
def imgRules (b : List Byte) (s : State) : Bool :=
  let c := loadImage b s
  let rs := c.regions
  rs.all (Region.ok s.part) && regionsApart rs && c.domainsOk &&
  (List.range 16).all (fun h => decide ((rs.filter (fun r => r.elastic && r.heads.getLsbD h)).length ≤ 8)) &&
  decide (rs.foldl (fun a r => a + r.size) 0 ≤ s.part.limitExt) && (!s.limitsKnown || c.limitsOk) && c.orderRules &&
  c.budgetsOk && c.quadsOk && c.partsOk && tuneOk b && wordsOk b && pinsOk b

/-- The candidate keeps a live region (R406). -/
def Region.keptBy (r q : Region) : Bool :=
  r.base == q.base && r.size == q.size && r.typ == q.typ && r.keydom == q.keydom && r.opq == q.opq && r.elem == q.elem &&
    r.keep == q.keep && r.elastic == q.elastic

/-- A region holds a page number. -/
def Region.holds (r : Region) (page : Nat) : Bool := r.base ≤ pageExt page && pageExt page < r.base + r.size

/-- A Written page lies in a region; with another region, in both. -/
def State.writtenIn (s : State) (r : Region) (q : Option Region) : Bool :=
  s.mem.pages.any (fun x => x.2.written && r.holds x.1 && (match q with | some q => q.holds x.1 | none => true))

/-- Check 7: the candidate region table is compatible with the live data (R406). -/
def compatible (b : List Byte) (rollback : Bool) (s : State) : Bool :=
  let c := loadImage b s
  let new := c.regions
  s.regions.all (fun r =>
    if new.any r.keptBy then !(s.rdB MIL_KD_PERSIST r.keydom != c.rdB MIL_KD_PERSIST r.keydom ||
      s.rdB MIL_KD_OPAQUE r.keydom != c.rdB MIL_KD_OPAQUE r.keydom)
    else
      !(s.mem.extents.any (fun x => x.2.accepted != 0 && decide (r.base ≤ x.1 ∧ x.1 < r.base + r.size))) &&
      !(rollback && s.writtenIn r none) && new.all (fun q => !(s.writtenIn r (some q))))

/-- Checks 1 to 5: 0 pass, or the first that fails. -/
def imgCheck5 (b : List Byte) (s : State) : Nat :=
  if !(imgSigned b) then 1
  else if !(imgFormed b) then 2
  else if !(imgUnits b s) then 3
  else if Config.keyRevoked (imgKeyidx b) then 4
  else if !(decide (s.rd PST_STAT_FLOOR ≤ imgVersion b ∧ imgFloor b ≤ imgVersion b)) then 5
  else 0

/-- Checks 1 to 6. -/
def imgCheck6 (b : List Byte) (s : State) : Nat :=
  match imgCheck5 b s with
  | 0 => if imgRules b s then 0 else 6
  | n => n

/-- All seven checks. -/
def imgCheck (b : List Byte) (rollback : Bool) (s : State) : Nat :=
  match imgCheck6 b s with
  | 0 => if compatible b rollback s then 0 else 7
  | n => n

/-- The result of a validation, and event 83 for a refusal (R404). -/
def noteCheck (res : Nat) (s : State) : State :=
  let s := s.wr PST_STAT_RESULT res
  if res = 0 then s else raise 83 s

/-- The slot registers show the records (R400). -/
def showSlots (s : State) : State :=
  let s := s.wr PST_STAT_CUR (s.currentSlot.getD 0)
  forAll [0, 1] (fun n s =>
    let (_, seq, len) := s.slotRec n
    let st := s.slotState n
    let b := if st = 0 then [] else s.slotImage n
    ((((((s.wr PST_SLOT_A_VERSION (imgVersion b) n).wr PST_SLOT_A_IFLOOR (imgFloor b) n).wr PST_SLOT_B_SEQ seq n).wr
      PST_SLOT_B_STATE st n).wr PST_SLOT_B_KEYIDX (imgKeyidx b) n).wr PST_SLOT_B_PAGES (if st = 0 then 0 else (len + 255) / 256) n)) s

end Sys2Proof.Machine
end

