-- ==== Sys2Proof/Machine/Links.lean ====
section
/-! DEFINITION. The Flume links as other units use them: reading and changing a link or a direction. -/
namespace Sys2Proof.Machine

/-- A direction at its credit grants, with SEQ 0 (R269, R272). -/
def FDir.fresh : FDir := ⟨0, 0, 0, false, 256, 0, 2048, 0, none, [], []⟩
/-- A link that is off. -/
def Link.off : Link := ⟨.fresh, .fresh, 0, false, [], [], [], [], 0⟩

def State.link (s : State) (k : Nat) : Link := s.flume.links.get k .off
def setLink (k : Nat) (l : Link) (s : State) : State := { s with flume := { s.flume with links := s.flume.links.put k l } }
def Link.dir (l : Link) (d : Nat) : FDir := if d = 0 then l.d0 else l.d1
def Link.setDir (l : Link) (d : Nat) (x : FDir) : Link := if d = 0 then { l with d0 := x } else { l with d1 := x }
def State.fdir (s : State) (k d : Nat) : FDir := (s.link k).dir d
def setFDir (k d : Nat) (x : FDir) (s : State) : State := setLink k ((s.link k).setDir d x) s

/-- A full bring-up begins. -/
def startBringup (k : Nat) (s : State) : State :=
  if s.stackOn k && !(s.stackFenced k) then
    setLink k { s.link k with attempts := 1, retraining := false, absent := [], replays := [], retrains := [] }
      ((s.wr FLM_LNK_STATE 1 k).wr FLM_LNK_ATT 1 k)
  else s

/-- Every link goes off (R346 step 6, R383 step 5). -/
def linksOff (s : State) : State :=
  forAll (List.range 16) (fun k s => if s.stackOn k then setLink k .off (s.wr FLM_LNK_STATE 0 k) else s) s

end Sys2Proof.Machine
end

