-- ==== Sys2Proof/Machine/Replan.lean ====
section
/-! DEFINITION. The start-up re-plan (R257 to R262) and the energy plan (R350, R351): logarithms to 24 fractional bits, least
squares, the plan a set of measurements gives, its record in the ageing-history partition, and the registers it loads. -/
namespace Sys2Proof.Machine

/-! Arithmetic. -/

/-- Fraction bits of log2 by repeated squaring, from a value in [1, 2) scaled by 2^32. -/
def lgFrac : Nat → Nat → Nat → Nat
  | 0, _, acc => acc
  | n + 1, y, acc =>
    let q := y * y / 2 ^ 32
    if 2 ^ 33 ≤ q then lgFrac n (q / 2) (2 * acc + 1) else lgFrac n q (2 * acc)

/-- log2 of a positive number, to 24 fractional bits. -/
def lgNat (n : Nat) : ℚ := ((Nat.log2 n * 2 ^ 24 + lgFrac 24 (n * 2 ^ 32 / 2 ^ Nat.log2 n) 0 : Nat) : ℚ) / 2 ^ 24

/-- log2(1 + a) for an age in hours (R259). -/
def lgAge (a : Nat) : ℚ := lgNat (1 + a)

/-- The greatest age of at most n bits with log2(1 + age) ≤ x: ⌊2^x⌋ − 1, cut to the range. -/
def ageOf (x : ℚ) : Nat → Nat → Nat
  | 0, a => a
  | n + 1, a => ageOf x n (if lgAge (a + 2 ^ n) ≤ x then a + 2 ^ n else a)

/-- Sum and mean of rationals. -/
def sumQ (l : List ℚ) : ℚ := l.foldl (· + ·) 0
def meanQ (l : List ℚ) : ℚ := if l.isEmpty then 0 else sumQ l / l.length

/-- The least-squares line through points: its value at 0 and its slope; a slope of 0 where all points share one abscissa. -/
def fitLine (pts : List (ℚ × ℚ)) : ℚ × ℚ :=
  let mx := meanQ (pts.map (·.1))
  let my := meanQ (pts.map (·.2))
  let sxx := sumQ (pts.map (fun p => (p.1 - mx) * (p.1 - mx)))
  let sxy := sumQ (pts.map (fun p => (p.1 - mx) * (p.2 - my)))
  let slope := if sxx = 0 then 0 else sxy / sxx
  (my - slope * mx, slope)

/-- Insert into a rising list. -/
def insertInt (x : Int) : List Int → List Int
  | [] => [x]
  | y :: l => if x ≤ y then x :: y :: l else y :: insertInt x l

/-- The median: the element n / 2 of the sorted list. -/
def median (l : List Int) : Int := ((l.foldr insertInt [])[l.length / 2]?).getD 0

/-- The nearest whole number. -/
def nearest (x : ℚ) : Int := ⌊x + 1 / 2⌋

/-- An eight-bit two's complement code. -/
def code8 (x : Int) : Nat := (x % 256).toNat

/-! The drift plan (R259 to R261). -/

/-- The age of a sample's segment (R242). -/
def State.sampleAge (s : State) (x : Sample) : Nat := s.rd MED_AGE_NOW - (s.seg x.stack x.seg).born

/-- What the samples of one die give: intercept and negated slope of the window width, intercept and slope of the centre, A* in
hours cut to 16 bits, the mean WEAR of its segments. -/
structure DieFit where
  die : Nat
  w0 : ℚ
  r : ℚ
  c0 : ℚ
  g : ℚ
  star : Nat
  wear : ℚ
  deriving DecidableEq, Repr

/-- The samples of a die. -/
def dieSamples (l : List Sample) (d : Nat) : List Sample := l.filter (fun x => dieId x.stack x.die == d)

/-- Fit one die (R259). -/
def State.fitDie (s : State) (l : List Sample) (d : Nat) : DieFit :=
  let mine := dieSamples l d
  let (w0, m) := fitLine (mine.map (fun x => (lgAge (s.sampleAge x), (x.width : ℚ))))
  let (c0, g) := fitLine (mine.map (fun x => (lgAge (s.sampleAge x), (x.centre : ℚ))))
  let r := -m
  let guard : ℚ := s.rd MED_PLAN_GUARD
  let star := if 0 < r then ageOf ((w0 - guard) / r) 16 0 else if guard ≤ w0 then 65535 else 0
  ⟨d, w0, r, c0, g, star, meanQ (mine.map (fun x => ((s.seg x.stack x.seg).wear : ℚ)))⟩

/-- Samples of a bucket. -/
def State.inBucket (s : State) (b : Nat) (l : List Sample) : List Sample := l.filter (fun x => s.ageBucket (s.sampleAge x) == b)

/-- TRIM of a die (R259). -/
def State.planTrim (s : State) (l : List Sample) (f : DieFit) : Int :=
  let zero := s.inBucket 0 (dieSamples l f.die)
  if zero.length < 16 then nearest f.c0 else median (zero.map (·.centre))

/-- log2(1 + the geometric midpoint) of a bucket, 2,160 h for bucket 7 (R259). -/
def State.bucketMid (s : State) (b : Nat) : ℚ :=
  if b = 0 then 0
  else if b = 7 then lgAge 2160
  else lgNat (2 ^ 16 + Nat.sqrt (s.rd MED_DRIFT_UPTO (b - 1) * s.rd MED_DRIFT_UPTO b * 2 ^ 32)) - 16

/-- OFS of a bucket (R259). -/
def State.planOfs (s : State) (l : List Sample) (fits : List DieFit) (b : Nat) : Int :=
  let here := s.inBucket b l
  if here.length < 16 then median (fits.map (fun f => nearest (f.g * s.bucketMid b)))
  else median (here.map (fun x => x.centre -
    (match fits.find? (fun f => f.die == dieId x.stack x.die) with | some f => s.planTrim l f | none => 0)))

/-- The die of least A*, the lowest of equals. -/
def worstDie : List DieFit → Option DieFit
  | [] => none
  | f :: l => match worstDie l with
    | none => some f
    | some g => if f.star ≤ g.star then some f else some g

/-- RETIRE (R260): never above what it was; for each die the largest WEAR, a multiple of 1,000, at which the fitted window is still
GUARD wide at twice REFRESH. -/
def State.planRetire (s : State) (fits : List DieFit) (refresh : Nat) : Nat :=
  let (a, b) := fitLine (fits.map (fun f => (f.wear, f.w0)))
  let guard : ℚ := s.rd MED_PLAN_GUARD
  let cap := min (s.rd MED_WEAR_RETIRE) 100000000
  if b < 0 then
    fits.foldl (fun m f => min m (((a - f.r * lgAge (2 * refresh) - guard) / (-b) / 1000).floor.toNat * 1000)) cap
  else cap

/-- The advance of the media clock (R261). -/
def State.planAdvance (s : State) (l : List Sample) (fits : List DieFit) : Nat :=
  let diffs := l.map (fun x =>
    match fits.find? (fun f => f.die == dieId x.stack x.die) with
    | some f =>
      if f.g = 0 then 0
      else (ageOf (((x.centre : ℚ) - f.c0) / f.g) 24 0 : Int) - ((s.rd MED_AGE_NOW : Int) - x.time)
    | none => 0)
  min (median diffs).toNat 8760

/-! The energy plan (R350, R351). -/

/-- C_m in µF from the drop of the bank in units of 10 mV (R350). -/
def bankCap (full : Bool) (drop : Nat) : Nat := if full ∧ drop ≤ 4000 then 2000000 / drop else 0

/-- t_max in µs before its limit of 6.0 ms. -/
def flushMax (c : Nat) : ℚ := (2000 * (c : ℚ) - 50000) / 940

/-- t_fl in µs for a staging size in MiB, a PDMAX and a number of active stacks. -/
def flushTime (size pdmax a : Nat) : ℚ :=
  500 + ((size * 1048576 + 16 * pdmax * 4608 + a * 32768 : Nat) : ℚ) / ((max (a - 1) 1 * 9600 : Nat) : ℚ)

/-- The greatest multiple of a step, from a count of steps down to a least one, that a test accepts. -/
def greatestStep (ok : Nat → Bool) (step least : Nat) : Nat → Option Nat
  | 0 => none
  | n + 1 => if n + 1 < least then none else if ok (step * (n + 1)) then some (step * (n + 1)) else greatestStep ok step least n

/-- The least VABORT in 0.1 V, from 31.0 V, that keeps 0.05 J above 30 V (R351). -/
def abortVolts (c : Nat) : Nat → Nat → Nat
  | 0, v => v
  | n + 1, v => if 90000 * c + 10000000 ≤ v * v * c then v else abortVolts c n (v + 1)

/-- The plan of R351: PDMAX, SIZE, t_max and TFLUSH in µs, VABORT, SHORT, CAPPED. -/
def bankPlan (c a : Nat) : Nat × Nat × Nat × Nat × Nat × Bool × Bool :=
  let raw := flushMax c
  if c = 0 ∨ raw ≤ 500 then (1024, 64, 0, 0, 800, true, false)
  else
    let tmax := min 6000 raw
    let capped := decide (6000 < raw)
    let v := abortVolts c 4096 310
    match greatestStep (fun p => decide (flushTime 512 p a ≤ tmax)) 64 16 128 with
    | some p => (p, 512, (nearest tmax).toNat, (nearest (flushTime 512 p a)).toNat, v, false, capped)
    | none => match greatestStep (fun z => decide (flushTime z 1024 a ≤ tmax)) 16 4 32 with
      | some z => (1024, z, (nearest tmax).toNat, (nearest (flushTime z 1024 a)).toNat, v, false, capped)
      | none => (1024, 64, (nearest tmax).toNat, (nearest (flushTime 64 1024 a)).toNat, v, true, capped)

/-! The plan record: five pages of the ageing-history partition, 24 places; it begins with its number and ends with its CRC. The
spec gives no layout. -/

/-- Bytes of a plan record. -/
def planBytes : Nat := 1280

/-- The plan record in a place, if its CRC is right. -/
def State.planAt (s : State) (i : Nat) : Option (Nat × List Byte) :=
  let b := s.logRead 5 (planBytes * i) planBytes
  if fieldAt b 1276 4 = crc32c (b.take 1276) ∧ fieldAt b 0 8 ≠ 0 then some (fieldAt b 0 8, b) else none

/-- The newest plan record (R262). -/
def State.lastPlan (s : State) : Option (Nat × List Byte) :=
  (List.range 24).foldl (fun a i => match a, s.planAt i with
    | some x, some y => if x.1 < y.1 then some y else some x
    | none, y => y
    | x, none => x) none

/-- The bytes of a plan's record of a number. -/
def State.planRecord (s : State) (p : PlanRegs) (n : Nat) : List Byte :=
  let dies := (List.range 528).map (fun d => match p.trims.find? (fun t => t.1 == d) with
    | some t => t.2
    | none => (s.rd MED_DIE_TRIM d, s.rd MED_DIE_WIN d))
  let body := leBytes 8 n ++ leBytes 8 p.retire ++ leBytes 8 p.refresh ++ leBytes 8 p.now ++ fit 8 (p.ofs.map (BitVec.ofNat 8)) ++
    leBytes 8 p.pdmax ++ leBytes 8 p.size ++ leBytes 8 p.capm ++ dies.map (fun d => BitVec.ofNat 8 d.1) ++
    dies.map (fun d => BitVec.ofNat 8 d.2)
  let body := fit 1276 body
  body ++ leBytes 4 (crc32c body)

/-- Step 1 of the re-plan: the last plan record and the media clock are loaded (R257, R239). -/
def loadLastPlan (s : State) : State :=
  let s := s.wr MED_AGE_NOW (s.durable 2)
  match s.lastPlan with
  | none => s
  | some (_, b) =>
    let s := ((s.wr MED_WEAR_RETIRE (fieldAt b 8 8)).wr MED_AGE_REFRESH (fieldAt b 16 8))
    let s := forAll (List.range 8) (fun i s => s.wr MED_DRIFT_OFS (fieldAt b (32 + i) 1) i) s
    forAll (List.range 528) (fun d s => (s.wr MED_DIE_TRIM (fieldAt b (64 + d) 1) d).wr MED_DIE_WIN (fieldAt b (592 + d) 1) d) s

/-! Grade (R258). -/

/-- The first candidate grade that fuses and monitors allow and that passes. -/
def planGrade (e : PlanEnv) : Option Nat := [0, 1, 2].find? (fun g => decide (e.top ≤ g) && e.passes.contains g)

/-- The root grade is chosen and set; with none passing the device runs at 14.4 GHz with failing channels and links fenced. -/
def chooseGrade (e : PlanEnv) (s : State) : State :=
  match planGrade e with
  | some g => s.wr MOD_STATE_GRADE g
  | none =>
    let s := s.wr MOD_STATE_GRADE 2
    let s := forAll e.badChannels (fun c s => if c < s.part.channels then fault 3 c 2 (512 + 8 * c + 5) 0 0 s else s) s
    forAll e.badLinks (fun k s => if k < s.part.stacks then fault 4 k 2 (640 + 8 * k + 5) 0 0 s else s) s

/-! The plan. -/

/-- The plan that measurements give (R259 to R261, R351). `src`: 0 Cold Start, 1 Factory Test, 2 recovery. -/
def planFrom (e : PlanEnv) (src : Nat) (s : State) : PlanRegs :=
  let l := e.samples
  let fits := ((l.map (fun x => dieId x.stack x.die)).dedup).map (s.fitDie l)
  let worst := worstDie fits
  let refresh := match worst with
    | some f => min 2160 (max 168 (24 * (f.star / 48)))
    | none => s.rd MED_AGE_REFRESH
  let retire := s.planRetire fits refresh
  let adv := if fits.isEmpty then 0 else s.planAdvance l fits
  let c := bankCap e.full e.drop
  let a := s.activeStacks.length
  let (pdmax, size, tmax, tfl, v, short, capped) := bankPlan c a
  { src, nograde := (planGrade e).isNone, lowered := decide (retire < s.rd MED_WEAR_RETIRE), adv
    agestar := (match worst with | some f => f.star | none => s.rd MED_PLAN_AGESTAR)
    wdie := (match worst with | some f => f.die % 33 | none => s.rd MED_PLAN_WDIE)
    wstk := (match worst with | some f => f.die / 33 | none => s.rd MED_PLAN_WSTK)
    refresh, retire, now := min (s.rd MED_AGE_NOW + adv) 0xFFFFFF
    ofs := (if fits.isEmpty then (List.range 8).map (fun b => s.rd MED_DRIFT_OFS b)
            else (List.range 8).map (fun b => code8 (s.planOfs l fits b)))
    trims := fits.map (fun f => (f.die, code8 (s.planTrim l f), (median ((dieSamples l f.die).map (fun x => (x.width : Int)))).toNat))
    margin := fits.any (fun f => decide (f.star < 336))
    capm := c, tmax, tflush := tfl, vabort := v, short, capped, pdmax, size, stks := a, page := 0, bytes := [] }

/-- Step 7 of the re-plan begins: the record is sent to the Logbook store (R257, R262). -/
def sendPlan (p : PlanRegs) (s : State) : State :=
  let n := (match s.lastPlan with | some (m, _) => m | none => 0) + 1
  let b := s.planRecord p n
  let off := planBytes * (n % 24)
  logSend 2 5 (.bytes off b) true { s with mode := { s.mode with planWait := some { p with page := off / 256, bytes := b } } }

/-- The record of the plan is committed. -/
def State.planStored (s : State) (p : PlanRegs) : Bool := s.logRead 5 (256 * p.page) planBytes == p.bytes

/-- The plan takes effect (R262): its registers are loaded. On a part without media only the grade and CAPM are (R351). -/
def loadPlan (p : PlanRegs) (s : State) : State :=
  let s := (s.wr MED_PLAN_SRC p.src).wrB MED_PLAN_NOGRADE p.nograde
  let s := s.wr TLR_PLAN_CAPM p.capm
  let s := if s.part.persist then
      let s := (((s.wrB MED_PLAN_LOWERED p.lowered).wr MED_PLAN_ADV p.adv).wr MED_PLAN_AGESTAR p.agestar)
      let s := (s.wr MED_PLAN_WDIE p.wdie).wr MED_PLAN_WSTK p.wstk
      let s := ((s.wr MED_AGE_REFRESH p.refresh).wr MED_WEAR_RETIRE p.retire).wr MED_AGE_NOW p.now
      let s := forAll p.ofs.zipIdx (fun x s => s.wr MED_DRIFT_OFS x.1 x.2) s
      let s := forAll p.trims (fun t s => (s.wr MED_DIE_TRIM t.2.1 t.1).wr MED_DIE_WIN t.2.2 t.1) s
      let s := ((s.wr FCA_CFG_PDMAX p.pdmax).wr MED_STG_SIZE p.size).wr MED_STG_SHARE (if p.stks = 0 then 0 else p.size * 64 / p.stks)
      let s := ((s.wr TLR_PLAN_TMAX p.tmax).wr TLR_PLAN_TFLUSH p.tflush).wr TLR_PLAN_VABORT p.vabort
      let s := ((s.wrB TLR_PLAN_SHORT p.short).wrB TLR_PLAN_CAPPED p.capped).wr TLR_STAT_RISK 0
      let s := logSend 2 6 (.counter 2 p.now true) true s
      let s := if p.capped then s else raise 54 s
      if p.margin then raise 73 s else s
    else s
  let down := ((List.range 16).filter (fun k => s.stackOn k && s.stackFenced k)).length
  raise 72 { s with mode := { s.mode with planWait := none, planStacks := down } }

end Sys2Proof.Machine
end

