-- ==== Sys2Proof/Machine/ColdStart.lean ====
section
/-! DEFINITION. Cold Start (R376 to R378): what it finds and what is lost, the ten steps, the rebuild of the parcel counters (R174,
R224), and the loss of power (R346 step 7). -/
namespace Sys2Proof.Machine

/-! What survives. -/

/-- Fields that the standby logic holds: the Headrace's, the armed Tailrace and its bank. -/
def standbyFlds : List Fld := [TLR_STAT_ARMED, TLR_STAT_BANKV, PWR_CFG_RETRY, PWR_STAT_SEL, PWR_STAT_PG, PWR_STAT_ILIM, PWR_STAT_LATCH,
  PWR_STAT_TRIES, PWR_STAT_A_WIN, PWR_STAT_B_WIN, PWR_STAT_A_STUCK, PWR_STAT_B_STUCK, PWR_STAT_OVHOLD, PWR_STAT_SEAT, PWR_MON_VA,
  PWR_MON_VB, PWR_MON_VBUS, PWR_MON_IIN, PWR_CNT_CHGB, PWR_CNT_CHGA, PWR_CNT_ILIMS, PWR_CNT_TRIPS, PWR_BANK_STATE, PWR_BANK_CTIME,
  PWR_LAST_CAUSE, PWR_LAST_FEED, PWR_LAST_VOUT, PWR_LAST_IPK]

/-- Parcels of media that hold something at a power loss: owned or stale, in a stripe that was verified (R230, R239). -/
def State.written (s : State) : List Nat :=
  (s.cap.pmap.filter (fun x => parcelMedia x.1 && (x.2 == .owned || x.2 == .stale) &&
    !(s.media.slots.any (fun y => decide (y.parcel ≤ x.1 ∧ x.1 < y.parcel + y.need) && y.left != 0)))).map (·.1)

/-- A segment after a power loss: Open and Reclaiming ones count as Closed (R239). -/
def Seg.settled (e : Seg) : Seg :=
  if e.state == .open_ || e.state == .reclaiming then { e with state := .closed, owned := 0, urgent := false } else { e with owned := 0 }

/-- What the media and the Logbook store keep of a state; everything else is as after reset, but for the model's own record of
outputs, its queue, and what the standby logic holds. -/
def wipe (s : State) : State :=
  let r := State.resetOf s.part
  let media := fun (a : Nat) => decide (2 ^ 38 * 512 ≤ a)
  { r with
    regs := standbyFlds.foldl (fun m f => m.put (f.key 0) (s.rd f)) []
    mem := { r.mem with store := s.mem.store.filter (fun c => media c.1), lost := s.mem.lost.filter (fun b => decide (2 ^ 38 * 8 ≤ b))
                        backPoison := s.mem.backPoison, history := s.mem.history, durable := s.mem.durable, base := s.mem.base
                        records := s.mem.records, rootMark := s.mem.rootMark, committed := s.mem.committed }
    cap := { r.cap with pmap := s.written.map (fun p => (p, PState.stale)) }
    flt := { r.flt with dead := s.flt.dead }
    flush := { r.flush with lastCause := s.flush.lastCause, lastTime := s.flush.lastTime, lastBank := s.flush.lastBank }
    book := { s.book with queue := [], refused := [] }
    dram := { r.dram with marked := s.dram.marked, repaired := s.dram.repaired, unrep := s.dram.unrep }
    media := { r.media with segs := s.media.segs.map (fun x => (x.1, x.2.settled)), failed := s.media.failed, donors := s.media.donors
                            remap := s.media.remap, rebuildLeft := s.media.rebuildLeft, spareFrom := s.media.spareFrom
                            donorNext := s.media.donorNext, nextSlot := s.media.nextSlot }
    pwr := s.pwr
    post := { r.post with live := s.post.live, heldHalt := s.post.heldHalt }
    mgt := { r.mgt with nextSession := s.mgt.nextSession }
    pins := { s.pins with sbio := [], held := [], jtag := 0, cells := 0, wakeN := true, alertN := true, activity := true, locate := true }
    time := { r.time with standby := s.time.standby }
    free := s.free
    out := s.out
    pending := s.pending }

/-- The phase the Headrace starts again from (R360, R368). -/
def State.restPhase (s : State) : HeadPhase :=
  if s.rdB PWR_STAT_LATCH then .latched
  else if !(s.pwr.contacts.any id) then .off
  else if s.pins.seatN == [false, false] then .insertion else .standby

/-- Power-good falls and every output rail goes off (R346 step 7, R362). -/
def powerOff (s : State) : State :=
  let s := wipe { s with flush := { s.flush with lastBank := s.rd TLR_STAT_BANKV } }
  let s := ((s.wr PWR_STAT_PG 0).wr PWR_STAT_SEL 0).wr PWR_STAT_OVHOLD 0
  { s with pwr := { s.pwr with converters := false, bankTimer := false, faultTimer := false, phase := s.restPhase } }

/-! Step 2. -/

/-- An interrupted page write is completed or rolled back (R449). `marked`: its shadow carries the commit marker. -/
def settleLog (marked : Bool) (s : State) : State :=
  match s.book.run with
  | none => s
  | some r =>
    let s := if marked then commitPage r s else s
    let s := setBook { s.book with run := none } s
    raise 979 (((s.wr LOG_STAT_PUACT (if marked then 1 else 2)).wr LOG_STAT_PUPART r.req.part).wr LOG_STAT_PUPAGE r.lpage)

/-- The newest record of class 4 in the fault log ring: its two detail words. -/
def State.lastHalt (s : State) : Option (Nat × Nat) :=
  (((s.partPages 7).filter (·.2.good)).foldl (fun (a : Option (Nat × Nat × Nat)) (x : Nat × LogPage) =>
    (List.range 8).foldl (fun (a : Option (Nat × Nat × Nat)) i =>
      let b := slice x.2.data (32 * i) 32
      if fieldAt b 10 1 ≠ 4 then a
      else match a with
        | some (k, _, _) => if k < x.2.seq * 8 + i then some (x.2.seq * 8 + i, fieldAt b 16 8, fieldAt b 24 8) else a
        | none => some (x.2.seq * 8 + i, fieldAt b 16 8, fieldAt b 24 8)) a) none).map (fun y => y.2)

/-- The Halt record that the standby logic holds is written now (R395), and MIL_HALT_A and MIL_HALT_B are loaded (R166). -/
def loadHalt (s : State) : State :=
  match s.post.heldHalt with
  | some r =>
    let s := { s with post := { s.post with heldHalt := none } }
    loadWord haltB 0 r.d2 (loadWord haltA 0 r.d1 (queueRec r s))
  | none => match s.lastHalt with
    | some (a, b) => loadWord haltB 0 b (loadWord haltA 0 a s)
    | none => s

def pwrLastFlds : List Fld := [PWR_LAST_CAUSE, PWR_LAST_FEED, PWR_LAST_VOUT, PWR_LAST_IPK]

/-- Step 2: the Logbook, the Halt registers, PWR_LAST (R376). -/
def coldLog (marked : Bool) (s : State) : State :=
  let s := loadHalt (settleLog marked s)
  let s := { s with book := { s.book with seq := (List.range 8).map (fun p =>
    (p, (s.partPages p).foldl (fun (a : Nat) (x : Nat × LogPage) => if x.2.good then max a x.2.seq else a) 0)) } }
  noteRec 7 (s.word pwrLastFlds) 0 (s.wr PST_STAT_FLOOR (min (s.durable 1) (2 ^ 32 - 1)))

/-! Step 3. -/

/-- A slot's image passes checks 1 to 5; a failure is reported, with event 90 (R408). -/
def coldCheck (n : Nat) (s : State) : Bool × State :=
  let res := imgCheck5 (s.slotImage n) s
  if res = 0 then (true, noteCheck 0 s) else (false, raise 90 (noteCheck res s))

/-- The Postmaster takes an image: the quad map, the unit enables, its own firmware. -/
def takeImage (n : Nat) (rollback : Bool) (s : State) : State :=
  let b := s.slotImage n
  let m := sect b 0x01
  let s := loadQuads b (s.wr PST_FW_PMVER (imgVersion b))
  { s with post := { s.post with image := some n, rollback, channels := fieldAt m 0 2, stks := fieldAt m 2 2, engines := fieldAt m 4 2 } }

/-- Step 3: the current image, else the previous one, else none (R408). -/
def coldImage (s : State) : State :=
  let s := showSlots s
  match s.currentSlot with
  | none => s
  | some n =>
    let (ok, s) := coldCheck n s
    if ok then takeImage n false s
    else if s.slotState (1 - n) = 3 then
      let (ok, s) := coldCheck (1 - n) s
      if ok then takeImage (1 - n) true s else s
    else s

/-! Step 5. -/

/-- Post-package repair of one row (R211): one repair in each bank group of each rank of each subchannel. -/
def repairRow (failing : List Nat) (s : State) (row : Nat) : State :=
  let group := row / 1048576
  if s.dram.unrep.contains row then s
  else if s.dram.repaired.any (fun r => r / 1048576 == group) || failing.contains row then
    mapRecord 3 row { s with dram := { s.dram with unrep := s.dram.unrep ++ [row] } }
  else
    mapRecord 2 row { s with dram := { s.dram with marked := s.dram.marked.filter (· ≠ row), repaired := s.dram.repaired ++ [row] } }

/-- Step 5: every marked row in turn, and DRM_PPR (R211). -/
def coldRepair (failing : List Nat) (s : State) : State :=
  let s := s.dram.marked.foldl (repairRow failing) s
  ((s.wr DRM_PPR_PENDING 0).wr DRM_PPR_APPLIED s.dram.repaired.length).wr DRM_PPR_UNREP s.dram.unrep.length

/-! Step 6. -/

/-- A unit with a spare fails its self-test (R377). -/
def spareTest (spare : Bool) (swap keep : State → State) (s : State) : State :=
  if spare then raise 74 (swap s) else raise 75 (keep (s.wr MOD_STATE_STFAIL 1))

/-- The fault of a self-test (R417, R420): Fatal, recorded, its unit fenced. -/
def selfTestFault (kind i : Nat) (s : State) : State :=
  let u := unitIdx kind i
  let s := (((s.wr FLT_LAST_UNIT (kind * 256 + i)).wr FLT_LAST_CLASS 2).wr FLT_LAST_ESC 0).wr FLT_LAST_SRC 0
  let s := queueRec ⟨s.stamp, kind * 256 + i, 2, 2, 0, 0, 0⟩ s
  raise 26 ((((s.wr FLT_U_FATAL 1 u).wr FLT_U_FENCED 1 u).bump FLT_CNT_FATAL 1).bump FLT_U_NFATAL 1 u)

/-- The failure of a self-test (R377). -/
def selfTest (s : State) (u : Nat × Nat) : State :=
  let (kind, i) := u
  let s := selfTestFault kind i s
  match kind with
  | 5 =>
    if i = 16 then s.wrBit MIL_CMP_MAP_FENCED 16 true
    else spareTest (s.rd MIL_CMP_MAP_SUB == 0x1F && !(s.rdBit MIL_CMP_MAP_FENCED 16)) (engineFatal false i)
      (fun s => (raise 386 (s.wrBit MIL_CMP_MAP_FENCED i true)).wr MIL_CMP_MAP_ACTIVE (s.rd MIL_CMP_MAP_ACTIVE - 1)) s
  | 6 =>
    if i = 16 then s.wrBit MIL_SEAL_MAP_FENCED 16 true
    else spareTest (s.rd MIL_SEAL_MAP_SUB == 0x1F && !(s.rdBit MIL_SEAL_MAP_FENCED 16)) (engineFatal true i)
      (fun s => (raise 389 (s.wrBit MIL_SEAL_MAP_FENCED i true)).wr MIL_SEAL_MAP_ACTIVE (s.rd MIL_SEAL_MAP_ACTIVE - 1)) s
  | 2 =>
    if i = 16 then (s.wrBit HOM_SLMAP_FENCED 16 true).wr HOM_SL_FENCED 1 16
    else spareTest (s.rd HOM_SLMAP_SUB == 0x1F && !(s.rdBit HOM_SLMAP_FENCED 16))
      (fun s =>
        let s := ((s.wrBit HOM_SLMAP_FENCED i true).wr HOM_SL_FENCED 1 i).wr HOM_SL_ACTIVE 0 i
        (((s.wr HOM_SLMAP_SUB i).wr HOM_SL_ACTIVE 1 16).wr HOM_SL_LOGICAL i 16).wr HOM_SL_LOGICAL 0x1F i) id s
  | 3 => if i < s.part.channels then channelFence i s else s
  | 4 => if i < s.part.stacks then stackFence i s else s
  | 7 => if i < s.part.couriers then courierFence i s else s
  | _ => s

/-! Step 7. -/

/-- The metadata key, and the domains whose blobs unwrap (R149). -/
def coldKeys (s : State) : State :=
  let s := { s with keys := { s.keys with metaKey := some (Config.derivedKey 1) } }
  forAll (List.range 1024) (fun i s =>
    let b := s.blobAt i
    if !(blobOk b) then s
    else
      let d := fieldAt b 0 2 % 4096
      match kwUnwrap (Config.derivedKey 0) (slice b 8 72) with
      | some secret => loadKeys d secret s
      | none => raise 393 (s.wr MIL_KD_STATE 0 d)) s

/-! Step 8. -/

/-- The newest root record: its SEQ and its kind (R455). -/
def State.newestRoot (s : State) : Option (Nat × Nat) :=
  (List.range 64).foldl (fun a l => match a, copyOf (s.logPage 6 l) with
    | some x, some (q, pay) => if x.1 < q then some (q, fieldAt pay 0 1) else some x
    | none, some (q, pay) => some (q, fieldAt pay 0 1)
    | x, none => x) none

/-- The journal is replayed from the root as far as its chain verifies, REPACK entries are restored to their old runs, and entries
of regions that are not persistent are discarded, or cleared where the extent has history (R62, R63, R70). -/
def coldJournal (verified : Option Nat) (s : State) : State :=
  let n := match verified with | some n => n | none => s.mem.records.length
  let s := if n < s.mem.records.length then raise 395 s else s
  let all := replay s.mem.base (s.mem.records.take n)
  let old := (loadRegions s.post.live s).regions
  let pers := fun (page : Nat) => old.any (fun r => r.typ == 1 && r.holds page)
  let pages := all.filterMap (fun x =>
    if pers x.1 then some (x.1, { x.2 with repack := false })
    else if s.mem.history.contains (pageExt x.1) then some (x.1, { PageEntry.none with gen := x.2.gen })
    else none)
  { s with
    mem := { s.mem with pages, durable := pages, base := pages, records := [], rootMark := 0
                        backPoison := s.mem.backPoison.filter (fun l => pers (linePage l)) }
    flt := { s.flt with dead := s.flt.dead.filter (fun d => pers (linePage d.line)) } }

/-- Whether the last shutdown was clean, and what TLR_LAST reports of it (R347). A part without a persistence domain has none of
it. -/
def classStart (s : State) : State :=
  if !s.part.persist then s.wr MOD_STATE_CLEAN 1
  else
    let kind := match s.newestRoot with | some x => x.2 | none => 0
    let clean := kind == 2 || kind == 3
    let s := s.wrB MOD_STATE_CLEAN clean
    let s := s.wr TLR_LAST_RESULT (if kind = 3 then 0 else if kind = 2 then 1 else if s.book.haltNewer then 3 else 2)
    let s := ((s.wr TLR_LAST_CAUSE s.flush.lastCause).wr TLR_LAST_TIME (min s.flush.lastTime 8191)).wr TLR_LAST_BANKEND s.flush.lastBank
    let dsc := s.durable 0
    if clean then s.wr TLR_CNT_DSC (min dsc (2 ^ 32 - 1))
    else { bumpDurable 0 (s.wr TLR_CNT_DSC (min (dsc + 1) (2 ^ 32 - 1))) with mode := { s.mode with dirtyStart := true } }

/-- The failure records are restored: die states, donors, what is left of a rebuild (R255). -/
def coldRebuild (s : State) : State :=
  let s := forAll s.media.failed (fun x s => s.wr MED_DIE_STATE 2 (dieId x.1 x.2)) s
  forAll (List.range 16) (fun k s =>
    let f := s.failedDies k
    match f.getLast? with
    | none => s
    | some d =>
      let left := s.media.rebuildLeft.get k []
      let s := (s.wr MED_HSTK_FAILED f.length k).wr MED_HSTK_DONOR (s.donorsOf k).length k
      if left.isEmpty then s
      else (((s.wr MED_HSTK_REBUILD 1 k).wr MED_HSTK_RBDIE d k).wr MED_HSTK_RBLEFT left.length k).wr MED_DIE_STATE 1 (dieId k d)) s

/-! Step 10: the rebuild of R174. -/

/-- Insert a segment in descending WEAR, ties to the higher number. -/
def insertWorn (x : Nat × Nat) : List (Nat × Nat) → List (Nat × Nat)
  | [] => [x]
  | y :: l => if y.2 < x.2 || (y.2 == x.2 && y.1 < x.1) then x :: y :: l else y :: insertWorn x l

/-- Where the unlisted Spare segments begin, for a number of them. -/
def spareBoundFor (listed : List Nat) (n : Nat) : Nat → Nat → Nat
  | 0, b => b
  | fuel + 1, b => spareBoundFor listed n fuel (dataSegs - n - (listed.filter (fun g => b ≤ g && g < dataSegs)).length)

/-- The re-planned spare count of a stack (R224). -/
def planSpares : Nat := 262144

/-- Spare segments are chosen anew: the Empty data segments of highest WEAR (R224). Donors keep their state. -/
def chooseSpares (k : Nat) (s : State) : State :=
  let donors := s.donorsOf k
  let s := forAll (s.segsOf k) (fun x s =>
    if x.2.state == .spare && !(donors.contains x.1) then setSeg k x.1 { x.2 with state := .empty } s else s) s
  let s := forAll donors (fun g s => setSeg k g { s.seg k g with state := .spare } s) s
  let s := { s with media := { s.media with spareFrom := s.media.spareFrom.put k dataSegs } }
  let n := planSpares - s.listedIn k .retired - donors.length
  let worn := (((s.segsOf k).filter (fun x => x.1 < dataSegs && x.2.state == .empty && x.2.wear != 0)).map (fun x => (x.1, x.2.wear))).foldl
    (fun l x => insertWorn x l) []
  let mine := (worn.take n).map (·.1)
  let s := forAll mine (fun g s => setSeg k g { s.seg k g with state := .spare } s) s
  let listed := (s.segsOf k).map (·.1)
  let rest := min (n - mine.length) (dataSegs - (listed.filter (· < dataSegs)).length)
  let b := spareBoundFor listed rest (listed.length + 1) (dataSegs - rest)
  { s with media := { s.media with spareFrom := s.media.spareFrom.put k b } }

/-- The counters of one stack: total, owned, stale, reserved, quarantined; the rest is free (R174). -/
def State.stackTier (s : State) (k : Nat) : Tier :=
  let mine := s.cap.pmap.filter (fun x => parcelMedia x.1 && parcelStack x.1 == k)
  let owned := (mine.filter (fun x => x.2 == .owned)).length
  let stale := (mine.filter (fun x => x.2 == .stale)).length
  let reserved := (2097152 - dataSegs + s.spareAll k) * 8192
  let retired := s.listedIn k .retired * 8192
  let total := 2 ^ 34
  let free := total - owned - stale - reserved - retired
  if s.stackActive k then ⟨total, free, owned, stale, 0, 0, reserved, retired⟩
  else ⟨total, 0, owned, 0, 0, 0, reserved, retired + free + stale⟩

/-- The sum of two tiers' counters. -/
def Tier.add (a b : Tier) : Tier :=
  ⟨a.total + b.total, a.free + b.free, a.owned + b.owned, a.stale + b.stale, a.growth + b.growth, a.reloc + b.reloc,
    a.reserved + b.reserved, a.quar + b.quar⟩

/-- The migration reserve is set to a number of GiB: parcels move between free and reserved, as far as free holds them (R173). -/
def setReserve (n : Nat) (s : State) : State :=
  let want := if s.part.persist then gib n else 0
  let have_ := s.cap.migReserve
  let got := min (want - have_) s.cap.dram.free
  let s := if have_ ≤ want then moveCount false .free .reserved got s else moveCount false .reserved .free (have_ - want) s
  { s with cap := { s.cap with migReserve := if have_ ≤ want then have_ + got else want } }

/-- The parcels of marked rows that are still in use by the tier. -/
def State.markedParcels (s : State) : Nat :=
  ((s.dram.marked.filter (fun r => !(s.channelFenced (r / 262144 / 128)) && s.channelOn (r / 262144 / 128))).flatMap (rowParcels s)).foldl
    (fun a p => if p < s.dramDataTop then a + 1 else a) 0

/-- The DRAM tier's counters: nothing is owned; reserved structures, quarantined channels and rows, free as the remainder (R173,
R174). -/
def State.dramTier (s : State) : Tier :=
  let total := s.part.dramParcels
  let reserved := total - s.dramDataTop
  let off := ((List.range s.part.channels).filter (fun c => s.channelFenced c || !(s.channelOn c))).length
  let quar := s.dramDataTop / s.part.channels * off + s.markedParcels
  ⟨total, total - reserved - quar, 0, 0, 0, 0, reserved, quar⟩

/-- The segment of a parcel holds one more owned parcel, and the parcel is owned. -/
def claimParcel (p : Nat) (s : State) : State := segOwned p true (setPState p .owned s)

/-- The counters are rebuilt (R174): owned from the entries, stale from the segment table, reserved, quarantined, free. -/
def rebuildCounters (s : State) : State :=
  let s := forAll (s.mem.pages.filter (fun x => x.2.run ≠ 0 && x.2.tier)) (fun x s =>
    forAll (runParcels x.2.parcel x.2.run) claimParcel s) s
  let s := forAll (List.range s.part.stacks) chooseSpares s
  let media := (List.range s.part.stacks).foldl (fun t k => t.add (s.stackTier k)) Tier.zero
  let held := fun (r : Region) => (s.mem.pages.filter (fun x => r.holds x.1)).foldl (fun a x => a + x.2.run) 0
  let old := (loadRegions s.post.live s).regions
  let s := { s with cap := { s.cap with dram := s.dramTier, media, migReserve := 0
                                        rgnHeld := (old.filter (fun r => held r != 0)).foldl (fun (m : Map Nat) (r : Region) => m.put r.n (held r)) [] } }
  match s.post.image with
  | some n => setReserve (bits (fieldAt (sect (s.slotImage n) 0x05) 0 8) 0 8) s
  | none => s

/-! The start. -/

/-- The factory-test flag of the identity partition: byte 0 of its data page 11 (R378). -/
def State.factoryFlag (s : State) : Bool := fieldAt (s.logPage 0 11) 0 1 == 1

/-- Step 1, and the steps up to the plan record (R376). A lockstep failure stops the start for good: MOD_STATE stays 1 and FAULT_N is
asserted. -/
def coldStart (e : ColdEnv) (s : State) : State :=
  let late := s.pwr.latched
  let was := s.modeCode
  let s := wipe s
  let s := { s with mode := { s.mode with starting := true }, pwr := { s.pwr with converters := true, latched := [] } }
  if !e.lockstep then { s with pins := { s.pins with faultN := false } }
  else
    let mode := if s.factoryFlag then 0 else 1
    let s := (((s.wr MOD_STATE_STATE mode).wr MOD_STATE_PREV was).wr MOD_STATE_PATH (if mode = 0 then 1 else 0)).wr MOD_STATE_STARTMS
      (min e.ms 0xFFFF)
    let s := { s with pins := { s.pins with faultN := true } }
    let s := coldLog e.marked s
    let s := coldImage s
    let s := forAll late raise (if was = mode then s else raise 64 s)
    let s := chooseGrade e.plan (loadLastPlan s)
    let s := forAll (List.range 16) startBringup s
    let s := e.badUnits.foldl selfTest (coldRepair e.badRepairs s)
    let s := coldRebuild (classStart (coldJournal e.verified (coldKeys s)))
    if s.stopped then s
    else sendPlan (planFrom e.plan (if mode = 0 then 1 else 0) s) (bumpDurable 3 s)

/-- Step 10, once the plan is committed: the counters are rebuilt, and the mode becomes 2 unless it is Factory Test. -/
def coldEnd (s : State) : State :=
  let s := { rebuildCounters s with mode := { s.mode with starting := false } }
  if s.modeCode = 0 then s else setMode 2 s

/-- The start has failed for good (R376). -/
def State.dead (s : State) : Bool := s.mode.starting && s.mode.planWait.isNone

end Sys2Proof.Machine
end

