-- ==== Sys2Proof/Machine/Ingress.lean ====
section
/-! DEFINITION. The way of a CXL.mem request to its home slice: whether a head's ingress takes it, holds it or answers it
without state (R48, R98, R146, R329, R334, R337, R348, R373, R94), parity and SECDED errors found by the lookup (R95,
R111, R112), the stream detectors (R108, R109), and writes that answer a snoop (R82). -/
namespace Sys2Proof.Machine

/-- A read-type request, which is answered with data (R80). -/
def ReqKind.isRead : ReqKind → Bool
  | .rd | .rdData => true
  | _ => false

/-- A request that may answer a snoop (R82). -/
def ReqKind.answers : ReqKind → Bool
  | .wr | .wrPtl | .clnEvct => true
  | _ => false

/-- The answer without state: a read gets poison, MetaValue I and zero data, then Cmp; anything else gets Cmp (R48, R329,
R337). -/
def answerPlain (h haddr : Nat) (read : Bool) (s : State) : State :=
  let s := if read then s.emit (.memData h haddr 0 true .invalid 0) else s
  s.emit (.ndr h haddr .cmp 0)

/-- A protocol error of a head (R82, R329, R334): counted always, its event limited (R333). -/
def protoError (h : Nat) (s : State) : State := raiseLimited (128 + 8 * h + 3) 0 (s.bump HPT_ERR2_PROTO 1 h)

/-- A request outside the view of a head (R48): counted always, its event limited (R333). -/
def outOfView (h : Nat) (s : State) : State := raiseLimited (128 + 8 * h + 1) 0 (s.bump HPT_ERR2_OUTVIEW 1 h)

/-- What the ingress of a head does with a request. -/
inductive Gate where
  | none                                  -- no message can arrive, or it is discarded unanswered
  | plain                                 -- answered without state
  | outside                               -- as outside the view (R48), also for R146 and R373
  | unsupported                           -- IDE required and not secure
  | hold                                  -- held at the ingress
  | serve (r : Region) (line : Nat)
  deriving DecidableEq, Repr

/-- The slice of a line is being substituted: requests for it are held (R94, step 1). -/
def State.rebuildHolds (s : State) (line : Nat) : Bool :=
  s.rdB HOM_SLMAP_REBUILD && s.rd HOM_SLMAP_SUB == logicalSlice s (linePage line)

/-- The ingress of head h for a request of a kind at a head line. -/
def State.gate (s : State) (h : Nat) (k : ReqKind) (haddr : Nat) : Gate :=
  if s.rd HPT_LNK_STATE h ≠ 4 ∧ s.rd HPT_LNK_STATE h ≠ 6 then .none
  else if s.stopped || s.powerFlush then .none
  else if s.headFenced h then (if s.rd HPT_LNK_FCAUSE h = 2 then .none else .plain)
  else if s.rdB HPT_HCFG_IDEREQ h && s.rd HPT_LNK_IDE h != 1 then .unsupported
  else if s.ports.heldMem.getLsbD h then .hold
  else
    match layoutFind (s.headRegions h) haddr with
    | none => .outside
    | some (r, line) =>
      if k.answers && (s.snoopOf h line).isSome then .serve r line
      else if !s.mode.memActive then .outside
      else if r.elastic && !(s.accepted h (lineExt line)) then .outside
      else if !(s.keyed r.keydom) then .outside
      else if s.rebuildHolds line || 960 ≤ (s.trackers (sliceOf s line)).length then .hold
      else .serve r line

/-! Errors found by a lookup. -/

/-- Cells upset since the last command. -/
def addUpsets (l : List Upset) (s : State) : State := { s with upsets := s.upsets ++ l }

/-- An upset is gone from its cell. -/
def dropUpset (u : Upset) (s : State) : State := { s with upsets := s.upsets.filter (· ≠ u) }

/-- The last-error fields of a front-cache slice. -/
def parityLast (slot : Nat) (tag : Bool) (s : State) : State :=
  let sl := slotSlice slot
  ((s.wr FCA_PERR_LAST_SET (slotSetKey slot % 4096) sl).wr FCA_PERR_LAST_WAY (slotWay slot) sl).wrB FCA_PERR_LAST_TAG tag sl

/-- A corrected parity error: counted, its event limited, its bucket raised (R111, R112, R436). -/
def parityFixed (slot : Nat) (tag : Bool) (s : State) : State :=
  let sl := slotSlice slot
  let s := (parityLast slot tag s).bump FCA_PERR_FIXED 1 sl
  (bucketAdd (592 + sl) (raiseLimited (256 + 8 * s.logicalOf sl) 0 s)).2

/-- A Fatal fault of a home slice for a parity error or a filter entry (R111, R95). -/
def sliceFault (sl d1 : Nat) (s : State) : State := fault 2 sl 2 (256 + 8 * s.logicalOf sl + 2) d1 0 s

/-- A lock is lost with its line; the head is told when `loss` (R107). -/
def loseLock (l : FcLine) (loss : Bool) (s : State) : State :=
  if l.locked then
    let s := unlockUse l.lockHead s
    if loss then raise (128 + 8 * l.lockHead + 5) s else s
  else s

/-- A clean line with a bad data or mask byte is refetched: its record goes, or stays locked with no byte valid until the
refetch is in; the fetch of its sheet starts when its page entry is at hand (R111). -/
def refetchLine (slot : Nat) (l : FcLine) (s : State) : State :=
  let s := if l.locked then setSlot slot (some { l with mask := 0, data := 0 }) s else setSlot slot none s
  match s.look l.line with
  | .fill => (startFill (lineSheet l.line) .demand l.owner l.cls s).getD s
  | .zero => if l.locked then setSlot slot (some { l with mask := fullMask, data := 0 }) s else s
  | _ => s

/-- A dirty line that fails parity is poisoned at its backing location, the other dirty lines of its sheet are written back,
and the slice takes a Fatal fault (R111). -/
def dirtyLost (slot : Nat) (l : FcLine) (s : State) : State :=
  let s := loseLock l true (setSlot slot none s)
  let s := gatherSheet (lineSheet l.line) [] none (poisonBacking l.line 3 s)
  sliceFault (slotSlice slot) l.line s

/-- An upset of a front-cache cell that a read finds (R111). -/
def foundUpset (u : Upset) (s : State) : State :=
  match u with
  | .fcData slot =>
    match s.fc.lines.find slot with
    | none => dropUpset u s
    | some l =>
      if l.dirty then dirtyLost slot l (parityLast slot false (dropUpset u s))
      else refetchLine slot l (parityFixed slot false (dropUpset u s))
  | .fcPoison slot =>
    match s.fc.lines.find slot with
    | none => dropUpset u s
    | some l =>
      if l.dirty then dirtyLost slot l (parityLast slot false (dropUpset u s))
      else parityFixed slot true (loseLock l false (setSlot slot none (dropUpset u s)))
  | .fcTag slot both =>
    match s.fc.lines.find slot with
    | none => dropUpset u s
    | some l =>
      if l.dirty || both then sliceFault (slotSlice slot) 0 (parityLast slot true s)
      else parityFixed slot true (loseLock l false (setSlot slot none (dropUpset u s)))
  | .fcDirtyArray slot => parityFixed slot true (dropUpset u s)
  | .filter sl set unc =>
    if unc then sliceFault sl set s
    else raiseLimited (256 + 8 * s.logicalOf sl + 6) 0 (dropUpset u s)

/-- A lookup of a line reads an upset cell: the filter set of an HDM-DB line, the records of its front-cache set, the data of
its own way (R95, R111). -/
def State.readsCell (s : State) (line : Nat) (u : Upset) : Bool :=
  let inSet := fun (slot : Nat) => (lineSlots s line).contains slot
  match u with
  | .filter sl set _ => s.isDB line && sl == sliceOf s line && set == filtSet line
  | .fcData slot => s.fcFind line == some slot
  | .fcPoison slot => inSet slot
  | .fcTag slot _ => inSet slot
  | .fcDirtyArray slot => inSet slot

/-- The errors a lookup of a line finds, in the order in which the cells were upset. -/
def checkLine (line : Nat) (s : State) : State :=
  forAll s.upsets (fun u s => if s.upsets.contains u && s.readsCell line u then foundUpset u s else s) s

/-! Prefetch. -/

/-- Fetch the sheet of a prefetch target, unless it is present, in flight, or the prefetch is dropped (R108, R109). -/
def prefetch (r : Region) (h : Nat) (line : Nat) (s : State) : State :=
  let e := s.entry (linePage line)
  if (s.fcFind line).isSome || (s.wbLine line).isSome || !(s.entryKnown (linePage line)) || e.tier then s
  else match s.look line with
    | .fill => (startFill (lineSheet line) .prefetch h (clsOf r.cls) s).getD s
    | .zero =>
      match chooseWays true (sheetLines (lineSheet line)) s with
      | none => s
      | some (ks, s) =>
        let absent := (sheetLines (lineSheet line)).filter (fun l => (s.fcFind l).isNone)
        forAll (absent.zip ks) (fun x s =>
          fillLine r x.1 (s.bareLine x.1) h (clsOf r.cls) (some x.2) s) s
    | _ => s

/-- The offsets a detector fetches ahead: last + stride × i for i from 1, while they stay in the page (R108). -/
def prefetchTargets (last : Nat) (stride : Int) (depth : Nat) : List Nat :=
  ((List.range depth).map (fun i => (last : Int) + stride * ((i : Int) + 1))).takeWhile (fun t => decide (0 ≤ t ∧ t ≤ 63))
    |>.map Int.toNat

/-- A demand read trains the slice's stream detector of its head and page, and fetches ahead (R108). -/
def trainStream (r : Region) (h line : Nat) (s : State) : State :=
  let s := nextClock s
  let sl := sliceOf s line
  let page := linePage line
  let offset := line % 64
  match s.fc.streams.find? (fun t => t.slice == sl && t.head == h && t.page == page) with
  | none =>
    let mine := s.fc.streams.filter (fun t => t.slice == sl)
    let old := mine.foldl (fun (a : Option Stream) t => match a with
      | some b => if t.used < b.used then some t else some b
      | none => some t) none
    let kept := if mine.length < 32 then s.fc.streams else match old with
      | some t => s.fc.streams.filter (· ≠ t)
      | none => s.fc.streams
    { s with fc := { s.fc with streams := kept ++ [⟨sl, h, page, offset, 0, 0, s.fc.clock⟩] } }
  | some t =>
    let delta : Int := (offset : Int) - t.last
    let t' : Stream := if delta = t.stride ∧ t.stride ≠ 0 then { t with conf := min (t.conf + 1) 3, last := offset, used := s.fc.clock }
      else { t with stride := delta, conf := 0, last := offset, used := s.fc.clock }
    let s := { s with fc := { s.fc with streams := s.fc.streams.map (fun u => if u = t then t' else u) } }
    if 2 ≤ t'.conf ∧ s.rdB FCA_CFG_PFEN then
      forAll (prefetchTargets offset t'.stride (s.rd FCA_CFG_PFD)) (fun o s => prefetch r h (64 * page + o) s) s
    else s

/-! Serving. -/

/-- A write-back or MemClnEvct that answers a snoop of its head: its data is applied, its Cmp sent, the snoop satisfied (R82,
R86). It waits as any write does for a way or the persistent dirty limit. -/
def snoopAnswer (q : Req) (n : Snoop) (s : State) : State :=
  let finish := fun (s : State) =>
    let load := s.devLoad (sliceOf s q.line) q.ovd
    let s := respond q (.ndr q.head q.haddr .cmp load) (dropReq q.id s)
    satisfy n q.line (if q.kind = .clnEvct then .i else writeAs n.kind q.mv) true s
  if q.kind = .clnEvct then finish s
  else match s.regionOf (lineExt q.line) with
    | none => finish s
    | some r =>
      if s.pdHeld r q.line then
        setStage q.id .pdirty (raiseLimited (256 + 8 * logicalSlice s (linePage q.line) + 5) 0 s)
      else match writeLine r q.line q.data (if q.kind == .wr then fullMask else q.mask) q.poison q.head q.cls s with
        | none => setStage q.id .alloc s
        | some s =>
          let s := if q.poison then deadLetter q.line 6 q.head false s else s
          earlyClean (sliceOf s q.line) 64 (finish s)

/-- Serve a request whose line is in the view: find the errors its lookup meets, answer a snoop, or order it at its slice; a
demand read trains its stream (R80, R82, R86, R108). -/
def serveMem (h : Nat) (k : ReqKind) (r : Region) (line haddr : Nat) (mv : Meta) (data : Line) (m : Mask) (poison : Bool)
    (s : State) : State :=
  let sl := sliceOf s line
  let s := checkLine line s
  if s.stopped then s
  else if sliceOf s line ≠ sl then answerPlain h haddr k.isRead (poisonBacking line 3 s)
  else
    let c := s.ceil h (clsOf r.cls)
    let s := if k.answers then unsilence line h s else s
    match (if k.answers then s.snoopOf h line else none) with
    | some n =>
      let q : Req := ⟨s.home.nextReq, h, k, line, haddr, mv, data, m, poison, c, false, .alloc, false⟩
      snoopAnswer q n { s with home := { s.home with reqs := s.home.reqs ++ [q], nextReq := q.id + 1 } }
    | none =>
      let s := acceptReq h k line haddr mv data m poison c s
      if k.isRead then trainStream r h line s else s

/-- The Activity output goes low with any CXL.mem request, and stays so for 50 ms after the last (R495). -/
def noteActivity (s : State) : State :=
  { s with pins := { s.pins with activity := false }, ports := { s.ports with lastReq := s.standbyNs } }

/-- A request at the ingress of a head. -/
def arrive (h : Nat) (k : ReqKind) (haddr : Nat) (mv : Meta) (data : Line) (m : Mask) (poison : Bool) (s : State) : State :=
  match s.gate h k haddr with
  | .none => s
  | .plain => answerPlain h haddr k.isRead (noteActivity s)
  | .outside => answerPlain h haddr k.isRead (outOfView h (noteActivity s))
  | .unsupported => answerPlain h haddr k.isRead (protoError h (noteActivity s))
  | .hold => { noteActivity s with home := { s.home with held := s.home.held ++ [⟨h, k, haddr, mv, data, m, poison⟩] } }
  | .serve r line => serveMem h k r line haddr mv data m poison (noteActivity s)

/-- A held request would take a tracker within the share of its head and class (R313). -/
def State.withinShare (s : State) (q : HeldReq) : Bool :=
  match layoutFind (s.headRegions q.head) q.haddr with
  | none => true
  | some (r, line) =>
    let c := s.ceil q.head (clsOf r.cls)
    decide (((s.trackers (sliceOf s line)).filter (fun p => p.head == q.head && p.cls == c)).length <
      s.rd QOS_BUD_B_TRK (q.head * 4 + c.code))

/-- Requests held at the ingress arrive again, those within their share of trackers before those beyond it, each in their order;
those still held stay (R94, R313, R348). -/
def releaseHeld (s : State) : State :=
  forAll (s.home.held.filter s.withinShare ++ s.home.held.filter (fun q => !(s.withinShare q))) (fun q s => arrive q.head q.kind q.haddr q.mv q.data q.mask q.poison s)
    { s with home := { s.home with held := [] } }

/-- Take up again a request that waited: an answer to a snoop, a request whose data stage waited, or one not yet begun. -/
def takeUp (q : Req) (s : State) : State :=
  match (if q.kind.answers then s.snoopOf q.head q.line else none) with
  | some n => snoopAnswer q n s
  | none => match q.stage with
    | .alloc | .pdirty | .entry | .fill => dataStage q s
    | _ => serveReq q.id s

/-- Take up again the first request of a line that waits in a stage. -/
def retryStage (line : Nat) (st : Stage) (s : State) : State :=
  match s.home.reqs.find? (fun q => q.line == line && q.stage == st) with
  | some q => releaseHeld (takeUp q s)
  | none => s

end Sys2Proof.Machine
end

