-- ==== Sys2Proof/Machine/Pins.lean ====
section
/-! DEFINITION. Sensors with their thresholds (R478), and the levels of the configurable sideband pins (R495, R496). -/
namespace Sys2Proof.Machine

/-- The warning and the critical threshold of a sensor, in its unit, with the events of each (R478). -/
def sensorLimits (id : Nat) : Option ((Nat × Option Nat) × (Nat × Option Nat)) :=
  if id = 1 then some ((40, some 14), (45, some 15))
  else if id = 2 then some ((95, some 16), (105, some 17))
  else if 3 ≤ id ∧ id ≤ 18 then some ((75, some 19), (85, some 20))
  else if id = 19 then some ((85, some 18), (95, none))
  else if id = 23 then some ((760, none), (800, none))
  else none

/-- A sensor reads above its critical threshold. -/
def State.thermalAlarm (s : State) : Bool :=
  s.mgt.sensors.any (fun x => match sensorLimits x.1 with | some (_, c, _) => decide (c < x.2) | none => false)

/-- The controller rails are on (R494). -/
def State.railsOn (s : State) : Bool := s.pwr.converters && s.modeCode != 6

/-- What SBIO pin i drives by its function; none is high impedance, or an input (R495). The console transmitter shows its idle level. -/
def State.pinFunction (s : State) (i : Nat) : Option Bool :=
  match s.pins.sbio[i]? with
  | some 1 => some true
  | some 3 => some (s.rdB PWR_STAT_PG)
  | some 4 => some s.pins.activity
  | some 5 => some !(s.modeCode == 4 || s.modeCode == 5 || s.modeCode == 7 || !s.pins.faultN)
  | some 6 => some s.pins.locate
  | some 7 => some !s.thermalAlarm
  | _ => none

/-- JTAG instructions, as the instruction register of the model numbers them. -/
def jtagExtest : Nat := 4
def jtagClamp : Nat := 5
def jtagHighz : Nat := 6

/-- What SBIO pin i drives: its latched level until the sideband pads are released (R385, R496), nothing while the rails are off (R494),
the boundary cell or nothing under EXTEST, CLAMP and HIGHZ (R482), else its function. -/
def State.pinLevel (s : State) (i : Nat) : Option Bool :=
  if s.rdB MOD_PADREL_SHELD then (s.pins.held[i]?).getD none
  else if !s.railsOn || s.pins.jtag = jtagHighz then none
  else if s.pins.jtag = jtagExtest ∨ s.pins.jtag = jtagClamp then some (s.pins.cells.testBit (Config.scanCell i))
  else s.pinFunction i

/-- The levels of all sixteen pins, as Stop latches them. -/
def State.pinLevels (s : State) : List (Option Bool) := (List.range 16).map s.pinLevel

end Sys2Proof.Machine
end

