-- ==== Sys2Proof/Machine/Drain.lean ====
section
/-! DEFINITION. What goes on over many commands: the drain of Stop entry, of recovery and of an image application (R383, R381,
R410), the flushes of the Tailrace (R346 to R348, R374), and a re-plan whose record is not yet committed (R262). Each command ends by
taking each of them as far as it can go. -/
namespace Sys2Proof.Machine

/-! Stop entry, and the drains made of its steps. -/

def setStop (n : Nat) (s : State) : State := { s with mode := { s.mode with stopStep := n } }

/-- A mode request ends with a result (R375). -/
def endRequest (res : Nat) (s : State) : State := (s.wr MOD_CTL_BUSY 0).wr MOD_CTL_RESULT res

/-- Step 1: Memory_Active becomes 0; requests held at the ingress are answered as R373 says. -/
def drainStart (what : Nat) (s : State) : State :=
  releaseHeld { s with mode := { s.mode with stopStep := 2, drainFor := what, memActive := false } }

/-- Step 2 is over: no accepted request, no fetch, no descriptor and no maintenance operation is left (R383). -/
def State.quiet (s : State) : Bool :=
  s.home.reqs.isEmpty && s.fc.fills.isEmpty && s.fc.mops.isEmpty && s.cou.opens.isEmpty && s.cou.rings.all (fun x => x.2.desc.isNone)

/-- Step 3: the filters are drained (R97). -/
def drainFilters (s : State) : State := forAll (s.home.filt.map (fun x => lineSheet x.1)).dedup (invalidateSheet .drain) s

/-- The heads that hold a lock. -/
def State.lockHeads (s : State) : Heads := s.fc.lines.foldl (fun m x => if x.2.locked then m ||| headBit x.2.lockHead else m) 0

/-- Step 4: every slice writes back its dirty lines and invalidates every line; locks are lost (R107, R110). -/
def emptyCache (s : State) : State :=
  let heads := s.lockHeads
  let s := forAll s.fc.lines (fun x s => if x.2.locked then unlockUse x.2.lockHead s else s) s
  let s := forAll (s.fc.lines.map (fun x => lineSheet x.2.line)).dedup (fun sh s => gatherSheet sh (sheetLines sh) none s) s
  forHeads heads (fun h s => raise (128 + 8 * h + 5) s) { s with fc := { s.fc with streams := [] } }

/-- Every write-back and every move that had begun is done. -/
def State.workDone (s : State) : Bool := s.fc.wbuf.isEmpty && s.fc.fills.isEmpty && s.work.all s.heldBack

/-- A root record is on its way. -/
def State.rootPending (s : State) : Bool :=
  let isRoot := fun (w : LogWrite) => match w.job with | .root _ => true | _ => false
  s.book.queue.any isRoot || s.book.refused.any isRoot || (match s.book.run with | some r => isRoot r.req | none => false)

/-- Step 5: the streams close; then the journal checkpoints and the Stop-entry root record is written; then the links go off (R70,
R239, R280). -/
def drainMedia (s : State) : State :=
  if !s.part.persist then setStop 6 (linksOff s)
  else if s.flush.rootSent then
    if s.rootPending then s
    else setStop 6 (bumpDurable 5 (linksOff { s with flush := { s.flush with rootSent := false } }))
  else
    let s := forAll (List.range 16) (fun k s => forAll [0, 1, 2] (fun st s => closeStream k st s) s) s
    if s.media.stripes.isEmpty && s.workDone then
      rootRecord 3 (journalWrite { s with mem := { s.mem with checkpointDue := false }, flush := { s.flush with rootSent := true } })
    else s

/-- No access waits or runs in a channel. -/
def State.dramIdle (s : State) : Bool :=
  s.dram.rdq.all (fun x => x.2.isEmpty) && s.dram.wrq.all (fun x => x.2.isEmpty) && s.dram.issued.isEmpty && s.dram.held.isEmpty &&
    s.dram.paused.isEmpty

/-- The heads whose links are up and not in L2. -/
def State.upHeads (s : State) : Heads :=
  (List.range 16).foldl (fun (m : Heads) h =>
    let st := s.rd HPT_LNK_STATE h
    if (st == 3 || st == 4 || st == 6) && !(s.ports.l2.getLsbD h) then m ||| headBit h else m) 0

/-- Step 8: pads are latched, rails go off, and the mode becomes 6 (R383, R385). -/
def stopDone (s : State) : State :=
  let s := { s with pins := { s.pins with held := s.pinLevels, jtag := 0 } }
  let s := ((s.wr MOD_PADREL_MHELD 1).wr MOD_PADREL_SHELD 1).bump MOD_CNT_STOPS 1
  let s := { s with mode := { s.mode with stopStep := 0, l2Left := 0 }, post := { s.post with coresUp := [] }, pwr := { s.pwr with converters := false } }
  endRequest 0 (setMode 6 s)

/-- A wake attempt begins (R387, R388): its step 1. -/
def wakeAttempt (n : Nat) (s : State) : State :=
  { s with mode := { s.mode with wakeAttempt := n, wakeStep := 1, retryDue := false }, pwr := { s.pwr with converters := true } }

/-- A wake begins from a source that was recorded (R386): sources 2 to 5 assert WAKE_N until a link is up. -/
def wakeBegin (s : State) : State :=
  let s := if 2 ≤ s.mode.wakeSrc then { s with pins := { s.pins with wakeN := false } } else s
  wakeAttempt 1 { s with mode := { s.mode with wakeFailed := false } }

/-- What follows step 6 of a recovery: re-plan steps 2 to 7, once the record is sent (R381 step 2). -/
def recoverPlan (s : State) : State :=
  match s.mode.planEnv with
  | none => setStop 0 s
  | some e =>
    let s := setStop 9 { s.wr MOD_STATE_STFAIL 0 with mode := { s.mode with planEnv := none } }
    let s := chooseGrade e s
    sendPlan (planFrom e 2 s) s

/-- One step of a drain, when its condition is met. -/
def drainStep (s : State) : State :=
  match s.mode.stopStep with
  | 2 => if s.quiet then setStop 3 s else s
  | 3 =>
    let s := drainFilters s
    if s.home.filt.isEmpty && s.home.evt.isEmpty && s.home.snoops.isEmpty then setStop 4 (emptyCache s) else s
  | 4 => if !s.workDone then s else if s.mode.drainFor = 2 then setStop 8 s else setStop 5 s
  | 5 => drainMedia s
  | 6 =>
    if !s.dramIdle then s
    else
      let s := { s with dram := { s.dram with selfRefresh := true } }
      if s.mode.drainFor = 1 then recoverPlan s
      else raise 68 (setStop 7 { s with mode := { s.mode with l2Left := s.upHeads } })
  | 7 =>
    if s.mode.l2Left ≠ 0 then s
    else
      let s := stopDone s
      if s.mode.wakeSrc ≠ 0 then wakeBegin s else s
  | _ => s

/-! The re-plan's end. -/

/-- A recovery's re-plan has its record: self-refresh exit, training, bring-up, and Configure with the live image (R381 steps 3 and
4). -/
def recoverEnd (s : State) : State :=
  let s := { setStop 0 s with dram := { s.dram with selfRefresh := false } }
  setMode 2 (forAll (List.range 16) startBringup s)

/-- The plan takes effect once its record is committed (R262). -/
def planStep (s : State) : State :=
  match s.mode.planWait with
  | none => s
  | some p =>
    if !(s.planStored p) then s
    else
      let s := loadPlan p s
      if s.mode.starting then coldEnd s else if s.mode.stopStep = 9 then recoverEnd s else s

/-! Flushes. -/

/-- The request's line is of a persistent region. -/
def State.persLine (s : State) (line : Nat) : Bool := match s.regionOf (lineExt line) with | some r => r.typ == 1 | none => false

/-- A line put into the write-back buffer beyond its limit: what a flush does with an accepted write that finds no way. -/
def forceBuffer (q : Req) (s : State) : State :=
  let id := s.fc.nextWb
  let ent : WbEntry := ⟨id, sliceOf s q.line, lineSheet q.line, [⟨q.line % 4, if q.kind == .wr then fullMask else q.mask, q.data, q.poison⟩],
    q.head, q.cls, none⟩
  addWork (linePage q.line) (lineSheet q.line) (.writeBack id)
    { s with fc := { s.fc with wbuf := s.fc.wbuf ++ [ent], nextWb := id + 1 } }

/-- Step 2 for an accepted request (R342, R346): a write is placed; one that waits for no snoop is answered. Reads that wait are
dropped. -/
def flushRequest (q : Req) (s : State) : State :=
  let isWrite := q.kind == .wr || q.kind == .wrPtl
  match s.regionOf (lineExt q.line) with
  | none => dropReq q.id s
  | some r =>
    if !isWrite then dropReq q.id s
    else
      let waits := s.home.snoops.any (fun n => n.why == .request q.id)
      let s := match writeLine r q.line q.data (if q.kind == .wr then fullMask else q.mask) q.poison q.head q.cls s with
        | some s => s
        | none => forceBuffer q s
      let s := if q.poison then deadLetter q.line 6 q.head false s else s
      if waits then dropReq q.id s else completeReq q 0 false s

/-- Work on a page whose target stripe is not programmed is aborted: relocations and demotions (R240). -/
def abortMoves (s : State) : State :=
  let unprog := fun (w : Work) => s.media.stripes.any (fun t => !t.programming && w.slots.any (fun i => t.slots.contains i))
  forAll (s.work.filter (fun w => unprog w && (match w.kind with | .relocate _ => true | .migrate up _ => !up | _ => false))) abortWork s

/-- Step 3: the dirty lines of persistent regions are gathered for write-back, others are dropped with the write-backs and moves
that wait for them. -/
def flushLines (s : State) : State :=
  let keep := s.fc.lines.filter (fun x => x.2.pers)
  let s := { s with fc := { s.fc with lines := keep, streams := [], fills := [], mops := [] } }
  let s := forAll ((keep.filter (fun x => x.2.dirty)).map (fun x => lineSheet x.2.line)).dedup (fun sh s => gatherSheet sh [] none s) s
  let gone := (s.fc.wbuf.filter (fun w => !(s.persLine (4 * w.sheet)))).map (·.id)
  let s := { s with fc := { s.fc with wbuf := s.fc.wbuf.filter (fun w => !(gone.contains w.id)) } }
  forAll (s.work.filter (fun w => match w.kind with | .writeBack id | .promote id => gone.contains id | _ => false))
    (fun w s => dropWork w.id (undoWork w s)) s

/-- The bank is cut off, every rail goes off, and what a restart flush leads to (R346 step 7, R374). -/
def flushOff (s : State) : State :=
  if s.flush.restart then
    match s.mode.coldEnv with
    | some e => coldStart e s
    | none => powerOff s
  else powerOff s

/-- What the next start shows of a flush. -/
def noteFlush (s : State) : State :=
  { s with flush := { s.flush with lastCause := s.rd TLR_STAT_CAUSE, lastTime := (s.standbyNs - s.flush.started) / 1000 } }

/-- A flush of every head begins (R346 steps 1 to 3). Causes: 0 a Cold Restart, 1 feeds, 2 seat. -/
def flushBegin (cause : Nat) (s : State) : State :=
  let s := ((s.wr TLR_STAT_ACTIVE 1).wr TLR_STAT_CAUSE cause).wr TLR_STAT_STEP 2
  let s := s.wr TLR_STAT_GPFQ 0
  let s := { s with
    flush := { s.flush with gpfHeads := 0, gpfNext := 0, snapWb := [], snapSlots := none, rootSent := false, restart := cause == 0
                            restartWaits := false, started := s.standbyNs }
    mode := { s.mode with stopStep := 0, memActive := false, planEnv := none, planWait := none, l2Left := 0 }
    post := { s.post with applying := none }
    ports := { s.ports with heldMem := 0 }
    home := { s.home with held := [] } }
  let s := raise 48 s
  if !s.part.persist then flushOff (raise 49 (noteFlush s))
  else
    let s := abortMoves (forAll s.home.reqs flushRequest s)
    (flushLines { s with home := { s.home with reqs := [], snoops := [], filt := [], evt := [] } }).wr TLR_STAT_STEP 4

/-- Persistent page work, and the write-backs it serves, are all committed. -/
def State.persDone (s : State) : Bool :=
  s.fc.wbuf.isEmpty && s.work.all (fun w => s.heldBack w) && !(s.media.slots.any (fun x => x.stream == 0 && x.left != 0))

/-- Persistent work that has yet to take its slots. -/
def State.unplaced (s : State) : Bool := s.work.any (fun w => (w.stage == .waiting || w.stage == .noSpace) && !(s.heldBack w))

/-- Steps 4 to 7 of a flush of every head, as far as they can go. -/
def flushStep (s : State) : State :=
  match s.rd TLR_STAT_STEP with
  | 4 =>
    let s := if s.unplaced then s else padStaged s
    if s.persDone then
      rootRecord 2 (journalWrite ({ s with mem := { s.mem with checkpointDue := false } }.wr TLR_STAT_STEP 5))
    else s
  | 5 =>
    if s.rootPending then s
    else flushOff (raise 49 (noteFlush (linksOff (s.wr TLR_STAT_STEP 7))))
  | _ => s

/-! GPF flushes. -/

/-- A GPF flush begins for some heads (R348): the snapshot is taken. -/
def gpfBegin (hs : Heads) (s : State) : State :=
  let s := ((s.wr TLR_STAT_ACTIVE 1).wr TLR_STAT_CAUSE 3).wr TLR_STAT_STEP 4
  let s := { s with flush := { s.flush with gpfHeads := hs, rootSent := false, restart := false, started := s.standbyNs, snapSlots := none }
                    ports := { s.ports with heldMem := s.ports.heldMem ||| hs } }
  let s := raise 48 s
  let dirty := (s.fc.lines.filter (fun x => x.2.dirty && x.2.pers)).map (fun x => lineSheet x.2.line)
  let s := forAll dirty.dedup (fun sh s => gatherSheet sh [] none s) s
  { s with flush := { s.flush with snapWb := (s.fc.wbuf.filter (fun w => s.persLine (4 * w.sheet))).map (·.id) } }

/-- A GPF flush ends: the Phase 2 responses, the held ingress; then a Halt that it put off, a flush that is queued, or a Cold Restart
that waits (R167, R348, R354, R374). -/
def gpfEnd (s : State) : State :=
  let s := forHeads s.flush.gpfHeads (fun h s => s.emit (.gpfRsp h 2)) (s.bump TLR_CNT_GPF 1)
  let next := s.flush.gpfNext
  let s := { s with flush := { s.flush with gpfHeads := 0, gpfNext := 0, snapWb := [], snapSlots := none, rootSent := false }
                    ports := { s.ports with heldMem := s.ports.heldMem &&& next } }
  let s := raise 49 ((((s.wr TLR_STAT_ACTIVE 0).wr TLR_STAT_CAUSE 0).wr TLR_STAT_STEP 0).wr TLR_STAT_GPFQ 0)
  if s.flush.deferred then haltWrite (haltStop s)
  else
    let s := releaseHeld s
    if next ≠ 0 then gpfBegin next s
    else if s.flush.restartWaits then flushBegin 0 s
    else s

/-- The steps of a GPF flush (R348): the snapshot's lines commit; its slots are verified; the journal and a checkpoint root record
follow. -/
def gpfStep (s : State) : State :=
  match s.flush.snapSlots with
  | none =>
    let left := s.flush.snapWb.filter (fun i => s.fc.wbuf.any (fun w => w.id == i))
    let placed := (s.work.filter (fun w => match w.kind with | .writeBack id => left.contains id | _ => false)).all
      (fun w => w.stage == .staging)
    let s := if placed then padStaged s else s
    if left.isEmpty then
      { s with flush := { s.flush with snapWb := [], snapSlots := some ((s.media.slots.filter (fun x => x.stream == 0 && x.left != 0)).map (·.id)) } }
    else s
  | some ids =>
    if s.flush.rootSent then (if s.rootPending then s else gpfEnd s)
    else if s.media.slots.any (fun x => ids.contains x.id && x.left != 0) then padStaged s
    else rootRecord 1 (journalWrite { s.wr TLR_STAT_STEP 5 with flush := { s.flush with rootSent := true } })

/-! All of them. -/

/-- Whatever goes on takes one step. -/
def advanceOnce (s : State) : State :=
  if s.stopped then s
  else if s.powerFlush then flushStep s
  else planStep (drainStep (if s.rdB TLR_STAT_ACTIVE then gpfStep s else s))

/-- Whatever goes on takes up to a number of steps. -/
def advance : Nat → State → State
  | 0, s => s
  | n + 1, s => advance n (advanceOnce s)

/-- A trigger of the Tailrace, or a Cold Restart that must flush first (R345, R354, R374). -/
def flushStart (cause : Nat) (s : State) : State :=
  let m := s.modeCode
  if s.powerFlush then (if cause ≠ 0 && s.flush.restart then
      { ((s.wr TLR_STAT_CAUSE cause).wr TLR_STAT_STEP (s.rd TLR_STAT_STEP)) with
        flush := { s.flush with restart := false, started := s.standbyNs }, mode := { s.mode with coldEnv := none } } else s)
  else if m = 6 ∨ m = 7 ∨ ((m = 1 ∨ m = 2) ∧ s.mode.stopStep = 0) then powerOff s
  else flushBegin cause { s with mode := { s.mode with coldEnv := if cause = 0 then s.mode.coldEnv else none } }

end Sys2Proof.Machine
end

