-- ==== Sys2Proof/Machine/Flags.lean ====
section
/-! DEFINITION. What every command leaves settled: the pressure level and reserve debts (R181, R182, R184), the causes of
Degraded Service and the move between modes 3 and 4 (R374, R380), and the fault log ring's next write (R420). Each
meaning ends in `settle`. -/
namespace Sys2Proof.Machine

/-! Pressure. -/

/-- The value N must exceed for the level to fall from l to l − 1 (R182). -/
def State.fallBound (s : State) (l : Nat) : Nat :=
  gib ((if l = 3 then 0 else if l = 2 then s.rd CAP_WM_CRIT else s.rd CAP_WM_LOW) + s.rd CAP_WM_HYST)

/-- The level falls one step at a time while N allows; each change raises event 451 (R182). -/
def fallLevel : Nat → State → State
  | 0, s => s
  | n + 1, s =>
    let l := s.rd CAP_GPOOL_LEVEL
    if l ≠ 0 && decide ((s.fallBound l : Int) < s.pool) then fallLevel n (raise 451 (s.wr CAP_GPOOL_LEVEL (l - 1))) else s

/-- Repay one head's debt from the general pool, as far as N stays above CRIT + HYST (R184). -/
def repayHead (h : Nat) (s : State) : State :=
  let d := s.cap.debt.get h 0
  let room := (s.pool - gib (s.rd CAP_WM_CRIT + s.rd CAP_WM_HYST) - 1).toNat
  if min d room = 0 then s else { s with cap := { s.cap with debt := s.cap.debt.put h (d - min d room) } }

/-- The level rises to what N demands; the event of every level entered is raised, in rising order (R182). -/
def riseLevel (s : State) : State :=
  let l := s.rd CAP_GPOOL_LEVEL
  let m := s.levelOf s.pool
  let s := if l < 1 && 1 ≤ m then raise 448 s else s
  let s := if l < 2 && 2 ≤ m then raise 449 s else s
  let s := if l < 3 && 3 ≤ m then raise 450 s else s
  s.wr CAP_GPOOL_LEVEL (max l m)

/-- The pressure level after an update, in the modes that serve hosts (R181, R182, R184). -/
def settleLevel (s : State) : State :=
  if s.serving then
    let s := fallLevel 3 s
    let s := if s.rd CAP_GPOOL_LEVEL ≤ 1 then forAll (List.range 16) repayHead s else s
    riseLevel s
  else s

/-! Degraded Service. -/

/-- A fenced set with the unit that the spare replaces taken out. -/
def uncovered (fenced sub : Nat) : Bool := (List.range 17).any (fun i => fenced.testBit i && i != sub)

/-- A unit is fenced that no spare replaces (R380, DEG_FENCE). -/
def State.anyFence (s : State) : Bool :=
  (List.range 16).any (fun i => s.headFenced i || s.channelFenced i || s.stackFenced i || s.rdBit COU_MAP_FENCED i) ||
    uncovered (s.rd HOM_SLMAP_FENCED) (s.rd HOM_SLMAP_SUB) || uncovered (s.rd MIL_CMP_MAP_FENCED) (s.rd MIL_CMP_MAP_SUB) ||
    uncovered (s.rd MIL_SEAL_MAP_FENCED) (s.rd MIL_SEAL_MAP_SUB) || !s.post.coreFence.isEmpty

/-- A cause of Degraded Service holds (R380). -/
def State.degraded (s : State) : Bool :=
  s.rdB MOD_STATE_DEG_FENCE || s.rdB MOD_STATE_DEG_SUB || s.rdB MOD_STATE_DEG_SCALE

/-- The causes of Degraded Service, and the move between Service and Degraded Service they lead to (R374, R380). -/
def settleMode (s : State) : State :=
  let s := (s.wrB MOD_STATE_DEG_FENCE s.anyFence).wrB MOD_STATE_DEG_SUB (s.rdB HOM_SLMAP_REBUILD)
  if s.modeCode = 3 ∧ s.degraded then setMode 4 (raise 65 (s.bump MOD_CNT_DEGR 1))
  else if s.modeCode = 4 ∧ !s.degraded then setMode 3 (raise 66 s)
  else s

/-- A walk audit that a Stop entry, a Cold Restart or a Halt interrupts ends aborted (R176). -/
def settleAudit (s : State) : State :=
  match s.cap.auditWalk with
  | none => s
  | some rt =>
    if s.serving && s.mode.stopStep == 0 then s
    else
      let s := { (s.wr CAP_AUD_RESULT 3).wr CAP_AUD_BUSY 0 with cap := { s.cap with auditWalk := none } }
      match rt with
      | some rt => bgEnd 0xC000 rt .aborted [] s
      | none => s

/-- The end of every command. -/
def settle (s : State) : State := settleMode (settleLevel (settleAudit (pumpRing (advance 8 s))))

end Sys2Proof.Machine
end

