-- ==== Sys2Proof/Machine/Mailbox.lean ====
section
/-! DEFINITION. The mailboxes: when the Clerks serve a command (R398, R399, R471), the routes of R473, the conditions of
R474, background commands. -/
namespace Sys2Proof.Machine

/-- A response to a command, with a return code, a Vendor Specific Extended Status and a payload. -/
def reply (rt : Route) (code : Ret) (payload : List Nat) (s : State) : State := s.emit (.mbox rt code 0 payload)

/-- A refusal of R474: Invalid Security State with an extended status. -/
def refuse (rt : Route) (ext : Nat) (s : State) : State := s.emit (.mbox rt .invalidSecurity ext [])

/-- The mailbox of a head can be reached while its link is up; none in Stop, whose rails are off (R373, R384). -/
def State.routeUp (s : State) (rt : Route) : Bool :=
  s.modeCode != 6 && (match rt with
    | .head h => s.rd HPT_LNK_STATE h == 3 || s.rd HPT_LNK_STATE h == 4 || s.rd HPT_LNK_STATE h == 6
    | .mgmt => true)

/-- A command on a mailbox (R398, R399): while the Clerks restart a head's command completes with Retry Required, and with no
Clerk core running with Internal Error; the management CCI then gets no answer. -/
def mailbox (rt : Route) (f : State → State) (s : State) : State :=
  if !(s.routeUp rt) then s
  else if s.post.restarting then (match rt with | .head _ => reply rt .retry [] s | .mgmt => s)
  else if s.post.coresUp.isEmpty then (match rt with | .head _ => reply rt .internal [] s | .mgmt => s)
  else f s

/-- A head may act as the management plane does for the commands marked HOSTW (R473, PST_CTL.HOSTW). -/
def State.hostw (s : State) (rt : Route) : Bool :=
  match rt with
  | .mgmt => true
  | .head h => s.rdBit PST_CTL_HOSTW h

/-- A command of the routes M and HOSTW; on another route it is Unsupported (R473). -/
def mboxHostw (rt : Route) (f : State → State) (s : State) : State :=
  mailbox rt (fun s => if s.hostw rt then f s else reply rt .unsupported [] s) s

/-- A command of the management CCI alone (R473). -/
def mboxMgmt (rt : Route) (f : State → State) (s : State) : State :=
  mailbox rt (fun s => if rt = .mgmt then f s else reply rt .unsupported [] s) s

/-- A command of a head's mailbox alone (R473). -/
def mboxHead (rt : Route) (f : Nat → State → State) (s : State) : State :=
  mailbox rt (fun s => match rt with | .head h => f h s | .mgmt => reply rt .unsupported [] s) s

/-- A secured session with a side is open (R475). -/
def State.inSession (s : State) (rt : Route) : Bool := s.mgt.sessions.any (fun x => x.side == rt)

/-- A background operation runs on this mailbox (R471). -/
def State.bgBusy (s : State) (rt : Route) : Bool := s.mgt.background.any (fun x => x.2 == rt)

/-- A background command is accepted (R471). -/
def bgStart (op : Nat) (rt : Route) (s : State) : State :=
  { s with mgt := { s.mgt with background := s.mgt.background ++ [(op, rt)] } }.emit (.mbox rt .background 0 [])

end Sys2Proof.Machine
end

