-- ==== Sys2Proof/Machine/FrontCache.lean ====
section
/-! DEFINITION. The front-cache commands (chapter 04): maintenance operations (R113 to R116) and the waits of R102 and
R104. -/
namespace Sys2Proof.Machine

/-- What became of one line of a maintenance operation. -/
inductive MopLine where
  | done | skipped | waits (line : Nat) | blocked | quota
  deriving DecidableEq, Repr

/-- Locked lines of the set that holds a place. -/
def State.setLocks (s : State) (slot : Nat) : Nat :=
  ((List.range 16).filter (fun w => match s.fc.lines.find (16 * slotSetKey slot + w) with
    | some l => l.locked
    | none => false)).length

/-- Lock a line that is present, for a head: first the limit of its set, then the head's quota (R105, R106). -/
def lockLine (h line : Nat) (s : State) : MopLine × State :=
  match s.fcFind line with
  | none => (.skipped, s)
  | some k => match s.fc.lines.find k with
    | none => (.skipped, s)
    | some l =>
      if l.locked then (.done, s)
      else if s.rd FCA_CFG_LOCKW ≤ s.setLocks k then (.skipped, s)
      else if s.rd FCA_LOCKQ_QUOTA h < s.rd FCA_LOCKQ_USED h + 1 then (.quota, s)
      else (.done, setSlot k (some { l with locked := true, lockHead := h }) (s.wr FCA_LOCKQ_USED (s.rd FCA_LOCKQ_USED h + 1) h))

/-- Unlock a line and return the quota use of its lock (R107, R113). -/
def unlockLine (line : Nat) (s : State) : State :=
  match s.fcLine line with
  | some l => if l.locked then unlockUse l.lockHead (modLine line (fun l => { l with locked := false }) s) else s
  | none => s

/-- The lines of a maintenance operation lie in the head's view and in a keyed domain (R48, R113, R146). -/
def State.mopView (s : State) (h haddr : Nat) : Option (Region × Nat) :=
  match s.view h haddr with
  | some (r, line) => if s.keyed r.keydom then some (r, line) else none
  | none => none

/-- Preload an absent line with its sheet and lock it (R113). -/
def preloadLine (h : Nat) (r : Region) (line : Nat) (s : State) : MopLine × State :=
  if (s.fcFind line).isSome then lockLine h line s
  else match s.look line with
    | .entry => (.blocked, fetchEntry (linePage line) s)
    | .fill => match startFill (lineSheet line) (.lock h) h (clsOf r.cls) s with
      | some s => (.waits line, s)
      | none => (.blocked, s)
    | _ => match allocWay line false s with
      | none => (.blocked, s)
      | some _ => lockLine h line (zeroFill r (lineSheet line) h (clsOf r.cls) s)

/-- One line of a maintenance operation (R113). -/
def mopLine (h op haddr : Nat) (s : State) : MopLine × State :=
  match s.mopView h haddr with
  | none => (.skipped, s)
  | some (r, line) =>
    let s := checkLine line s
    let sl := sliceOf s line
    let dirty := match s.fcLine line with | some l => l.dirty | none => false
    match op with
    | 0 => if !dirty then (.done, s)
      else if 64 ≤ s.wbUsed sl then (.blocked, s)
      else (.done, gatherSheet (lineSheet line) [] (some h) s)
    | 1 =>
      if dirty then
        if 64 ≤ s.wbUsed sl then (.blocked, s)
        else (.done, gatherSheet (lineSheet line) [line] (some h) (unlockLine line s))
      else
        let s := unlockLine line s
        (.done, match s.fcFind line with | some k => setSlot k none s | none => s)
    | 2 => if r.typ = 1 then (.skipped, s) else preloadLine h r line s
    | 3 => if r.typ = 1 then (.skipped, s) else lockLine h line s
    | _ => (.done, unlockLine line s)

/-- Go on with a maintenance operation, line by line, until a line is blocked, the quota refuses, or no line is left. -/
def mopRun : Nat → Mop → State → Mop × State
  | 0, m, s => (m, s)
  | n + 1, m, s =>
    if m.left = 0 ∨ s.modeCode = 7 ∨ s.mode.halting then (m, s)
    else
      let next := { m with haddr := m.haddr + 1, left := m.left - 1 }
      match mopLine m.head m.op m.haddr s with
      | (.done, s) => mopRun n { next with done := m.done + 1 } s
      | (.skipped, s) => mopRun n { next with done := m.done + 1, skip := m.skip + 1 } s
      | (.waits l, s) => mopRun n { next with waits := l :: m.waits } s
      | (.blocked, s) => (m, s)
      | (.quota, s) => ({ m with left := 0, result := 1 }, s)

/-- An operation goes on, and its progress shows in FCA_MOP_STAT. -/
def mopStep (m : Mop) (s : State) : State :=
  let (m, s) := mopRun m.left m s
  setMop m.head (some m) ((s.wr FCA_MOP_STAT_DONE m.done m.head).wr FCA_MOP_STAT_SKIP m.skip m.head)

/-- OP and LINES are valid (R116). -/
def mopValid (op lines : Nat) : Bool := op ≤ 4 && 1 ≤ lines && lines ≤ 4194304

/-- An operation that may not start leaves RESULT 3 (R116). -/
def mopInvalid (h : Nat) (s : State) : State :=
  ((s.wr FCA_MOP_STAT_RESULT 3 h).wr FCA_MOP_STAT_DONE 0 h).wr FCA_MOP_STAT_SKIP 0 h

/-- Start an operation of a head; on a fenced head it stops at once (R113, R115). -/
def mopStart (h op haddr lines : Nat) (rt : Option Route) (s : State) : State :=
  let m : Mop := ⟨h, op, haddr, lines, [], 0, 0, 0, rt⟩
  let s := setMop h (some m) (((s.wr FCA_MOP_STAT_BUSY 1 h).wr FCA_MOP_STAT_DONE 0 h).wr FCA_MOP_STAT_SKIP 0 h)
  if s.headFenced h then endMop m 4 s else mopStep m s

/-- FCA_MOP_CTL written with GO by head h (R116): OP and LINES as written, the first line from FCA_MOP_ADDR. -/
def mopGo (h op lines : Nat) (s : State) : State :=
  if !(s.routeUp (.head (Fin.ofNat 16 h))) then s
  else if s.rdB FCA_MOP_STAT_BUSY h then s.wr FCA_MOP_STAT_REFUSED 1 h
  else
    let s := (s.wr FCA_MOP_CTL_LINES lines h).wr FCA_MOP_CTL_OP op h
    if mopValid op lines then mopStart h op (s.rd FCA_MOP_ADDR_LINE h) lines none s else mopInvalid h s

/-- FCA_FLUSH (R113, OP 0): head h writes FCA_MOP_CTL with GO. -/
def execFcaFlush (h : Head) (lines : Nat) (ups : List Upset) (s : State) : Host.Outcome State Fault Refusal :=
  .next (settle (mopGo h 0 lines (addUpsets ups s)))
/-- FCA_INVALIDATE (R113, OP 1). -/
def execFcaInvalidate (h : Head) (lines : Nat) (ups : List Upset) (s : State) : Host.Outcome State Fault Refusal :=
  .next (settle (mopGo h 1 lines (addUpsets ups s)))
/-- FCA_LOCK_PRELOAD (R113, OP 2). -/
def execFcaLockPreload (h : Head) (lines : Nat) (ups : List Upset) (s : State) : Host.Outcome State Fault Refusal :=
  .next (settle (mopGo h 2 lines (addUpsets ups s)))
/-- FCA_PIN (R113, OP 3). -/
def execFcaPin (h : Head) (lines : Nat) (ups : List Upset) (s : State) : Host.Outcome State Fault Refusal :=
  .next (settle (mopGo h 3 lines (addUpsets ups s)))
/-- FCA_UNLOCK (R113, OP 4). -/
def execFcaUnlock (h : Head) (lines : Nat) (ups : List Upset) (s : State) : Host.Outcome State Fault Refusal :=
  .next (settle (mopGo h 4 lines (addUpsets ups s)))

/-- Every fetch and write-back of an operation has completed, and no line is left (R114). -/
def State.mopComplete (s : State) (m : Mop) : Bool :=
  m.left == 0 && m.waits.isEmpty && !(s.fc.wbuf.any (fun w => w.mop == some m.head))

/-- The operation of a head goes on where it was blocked, and ends when it is complete (R114, R116). -/
def mopEnd (h : Nat) (s : State) : State :=
  match s.fc.mops.find? (fun m => m.head == h) with
  | none => s
  | some m =>
    let s := mopStep m s
    match s.fc.mops.find? (fun m => m.head == h) with
    | some m => if s.mopComplete m then endMop m m.result s else s
    | none => s

/-- FCA_MOP_END (R116). -/
def execFcaMopEnd (h : Head) (s : State) : Host.Outcome State Fault Refusal := .next (settle (mopEnd h s))

/-- The vendor command Front-Cache Operation (R473): the operation of a named head, as a background command. -/
def frontCacheOp (rt : Route) (h op haddr lines : Nat) (s : State) : State :=
  mboxMgmt rt (fun s =>
    if s.bgBusy rt || s.rdB FCA_MOP_STAT_BUSY h then reply rt .busy [] s
    else if mopValid op lines then mopStart h op haddr lines (some rt) (bgStart 0xC007 rt s)
    else reply rt .invalidInput [] (mopInvalid h s)) s

/-- FRONT_CACHE_OPERATION (R473). -/
def execFrontCacheOperation (rt : Route) (h : Head) (op haddr lines : Nat) (s : State) : Host.Outcome State Fault Refusal :=
  .next (settle (frontCacheOp rt h op haddr lines s))

/-- The lines of a maintenance operation that waited for the fill of a sheet are locked, or skipped when none was installed
(R113, R115). -/
def mopFilled (sheet : Nat) (s : State) : State :=
  forAll s.fc.mops (fun m s =>
    let mine := m.waits.filter (fun l => lineSheet l == sheet)
    if mine.isEmpty then s
    else
      let m := { m with waits := m.waits.filter (fun l => lineSheet l != sheet) }
      let (m, s) := mine.foldl (fun (x : Mop × State) l =>
        let (m, s) := x
        if m.result = 1 then (m, s)
        else match lockLine m.head l s with
          | (.quota, s) => ({ m with left := 0, result := 1 }, s)
          | (.done, s) => ({ m with done := m.done + 1 }, s)
          | (_, s) => ({ m with done := m.done + 1, skip := m.skip + 1 }, s)) (m, s)
      setMop m.head (some m) ((s.wr FCA_MOP_STAT_DONE m.done m.head).wr FCA_MOP_STAT_SKIP m.skip m.head)) s

/-- FC_ALLOC_WAIT_END (R102): an allocation of the line that waited for a way or a buffer entry. -/
def execFcAllocWaitEnd (line : Nat) (s : State) : Host.Outcome State Fault Refusal :=
  .next (settle (retryStage line .alloc s))

/-- PERSIST_DIRTY_WAIT_END (R104): a write held at the persistent dirty limit. -/
def execPersistDirtyWaitEnd (line : Nat) (s : State) : Host.Outcome State Fault Refusal :=
  .next (settle (retryStage line .pdirty s))

end Sys2Proof.Machine
end

