-- ==== Sys2Proof/Machine/Store.lean ====
section
/-! DEFINITION. Stored sheets at work (chapters 05 and 06): opening a sheet with its tag check and decoding (R126, R154, R161,
R162, R164), storing the form of a sheet with the checks of R125 and R163, the page image (R127, R130, R153), and the heat
reports (R187, R189). -/
namespace Sys2Proof.Machine

/-! Blocks of the store. -/

/-- The 64-byte blocks that some bytes lie in. -/
def blocksOf (addr n : Nat) : List Nat := if n = 0 then [] else (List.range ((addr + n - 1) / 64 - addr / 64 + 1)).map (addr / 64 + ·)

/-- Some of the bytes lie in a block that no read can correct. -/
def State.bytesLost (s : State) (addr n : Nat) : Bool := (blocksOf addr n).any (fun b => s.mem.lost.contains b)

/-- Some of the bytes lie on a fenced channel or stack; a parcel whose stripe is not verified is read from its staging slot (R230,
R240). -/
def State.bytesFenced (s : State) (addr n : Nat) : Bool :=
  (blocksOf addr n).any (fun b => s.parcelFenced (b / 8) && !(s.media.slots.any (fun x =>
    x.stream == 0 && x.committed && x.left != 0 && x.parcel ≤ b / 8 && b / 8 < x.parcel + x.need)))

/-- Write bytes to the store; blocks written whole or in part are readable again. -/
def storeBytes (addr : Nat) (b : List Byte) (s : State) : State :=
  let gone := blocksOf addr b.length
  { s with mem := { s.mem with store := writeBytes s.mem.store addr b
                               lost := s.mem.lost.filter (fun x => !(gone.contains x)) } }

/-- The stored bytes of a sheet of a page. -/
def State.sheetBytes (s : State) (opq : Bool) (e : PageEntry) (n : Nat) : List Byte :=
  readBytes s.mem.store (e.parcel * 512 + sheetOffset opq e n) (sheetLen opq (e.code n))
/-- The tag slot of a sheet in the header line (R127). -/
def State.tagSlot (s : State) (e : PageEntry) (n : Nat) : Nat := leNat (readBytes s.mem.store (e.parcel * 512 + 4 * n) 4)
/-- The header line of a page can be read. -/
def State.headerOk (s : State) (e : PageEntry) : Bool :=
  !(s.bytesLost (e.parcel * 512) 64) && !(s.bytesFenced (e.parcel * 512) 64)
/-- A stored sheet and its tag can be read. -/
def State.sheetOk (s : State) (opq : Bool) (e : PageEntry) (n : Nat) : Bool :=
  let a := e.parcel * 512 + sheetOffset opq e n
  s.headerOk e && !(s.bytesLost a (sheetLen opq (e.code n))) && !(s.bytesFenced a (sheetLen opq (e.code n)))

/-! Engines. -/

/-- The engine that takes a sheet: the one named when it works, else the lowest that does. -/
def State.engine (s : State) (sealing : Bool) (e : Nat) : Nat :=
  if (s.liveMil sealing).contains e then e else (s.liveMil sealing).headD 16
/-- Another engine that works. -/
def State.otherEngine (s : State) (sealing : Bool) (e : Nat) : Option Nat := (s.liveMil sealing).find? (· ≠ e)

/-- The unit of the tier a page is stored in: its channel or stack (R126). -/
def tierFault (e : PageEntry) (cls src d1 : Nat) (s : State) : State :=
  if parcelMedia e.parcel then fault 4 (parcelStack e.parcel) cls src d1 0 s
  else fault 3 (parcelUnit s e.parcel / 2) cls src d1 0 s

/-- What opening a stored sheet gives: its lines; poison, with the Dead-Letter cause (0: no record); or the Halt. -/
inductive Opened where
  | sheet (sh : Sheet)
  | poisoned (cause : Nat)
  | halted
  deriving DecidableEq, Repr

/-- The tag check of a sheet's bytes (R162): whether its bytes go on, and the state. A mismatch that the second engine does
not confirm is the first engine's fault; a confirmed one, or one that no second engine can check, is the Integrity Halt,
with cause 2 when a merge or a read of a partly valid line opened the sheet (R164). -/
def tagCheck (page n dom : Nat) (e : PageEntry) (good : Bool) (v : EngEnv) (master sl : Nat) (merge : Bool) (s : State) :
    Bool × State :=
  let e1 := s.engine true v.sealEng
  let s := s.bump MIL_SEAL_ENG_OPEN 1 e1
  if good && !v.sealBad then (true, s)
  else
    let info := fun (second : Option Nat) =>
      (⟨if merge then 2 else 1, second.isSome, n, dom, e1, second.getD 0x1F, master, sl, page, e.gen, e.tier⟩ : HaltInfo)
    match s.otherEngine true e1 with
    | none => (false, halt (info none) s)
    | some e2 =>
      let s := s.bump MIL_SEAL_ENG_OPEN 1 e2
      if good then (true, fault 6 e1 2 390 page n (raise 390 (s.bump MIL_SEAL_ERR_UNCONF 1 e1)))
      else (false, halt (info (some e2)) s)

/-- Decode an opened sheet (R126): a first engine that errs takes a Fatal fault and the second's result stands; a sheet that
both find malformed is poisoned, a Contained fault of the page's tier unit. -/
def decodeSheet (page : Nat) (e : PageEntry) (code : Nat) (plain : List Byte) (v : EngEnv) (s : State) : Opened × State :=
  if code = 8 then (match decodeForm 8 plain with | some sh => (.sheet sh, s) | none => (.poisoned 9, s))
  else
    let e1 := s.engine false v.cmpEng
    let s := s.bump MIL_CMP_ENG_DECOMP 1 e1
    match decodeForm code plain with
    | some sh =>
      if !v.cmpBad then (.sheet sh, s)
      else
        let s := s.bump MIL_CMP_ERR_BADSTR 1 e1
        match s.otherEngine false e1 with
        | some e2 => (.sheet sh, fault 5 e1 2 384 page 0 (s.bump MIL_CMP_ENG_DECOMP 1 e2))
        | none => (.poisoned 9, tierFault e 1 391 page (raise 391 s))
    | none =>
      let s := s.bump MIL_CMP_ERR_BADSTR 1 e1
      let s := match s.otherEngine false e1 with
        | some e2 => (s.bump MIL_CMP_ENG_DECOMP 1 e2).bump MIL_CMP_ERR_BADSTR 1 e2
        | none => s
      (.poisoned 9, tierFault e 1 391 page (raise 391 s))

/-- Open sheet n of a page under an entry (R118, R154, R161): nothing stored for codes 0 and 15; unreadable storage is poison
with the cause of its tier, without a record on a fenced unit (R39, R429); then tag check, decryption, decoding. -/
def openSheet (page n : Nat) (e : PageEntry) (v : EngEnv) (master sl : Nat) (merge : Bool) (s : State) : Opened × State :=
  let code := e.code n
  if e.run = 0 ∨ code = 0 ∨ code = 15 then (.sheet (if code = 15 then deadSheet else zeroSheet), s)
  else match s.pageRegion page with
    | none => (.poisoned 0, s)
    | some r =>
      let a := e.parcel * 512 + sheetOffset r.opq e n
      if s.bytesFenced (e.parcel * 512) 64 || s.bytesFenced a (sheetLen r.opq code) then (.poisoned 0, s)
      else if !(s.sheetOk r.opq e n) then (.poisoned (if parcelMedia e.parcel then 2 else 1), s)
      else match s.keys.slots.find r.keydom with
        | none => (.poisoned 0, s)
        | some k =>
          let (c, tag) := v.altered.getD (s.sheetBytes r.opq e n, s.tagSlot e n)
          let c := fit (sheetLen r.opq code) c
          let good := tag == sheetTag k page n r.keydom code e.gen c
          match tagCheck page n r.keydom e good v master sl merge s with
          | (true, s) =>
            if s.stopped then (.halted, s)
            else decodeSheet page e code ((xtsDec k page n c).take (codeBytes code)) v s
          | (false, s) => if s.stopped then (.halted, s) else (.poisoned 0, s)

/-! Storing. -/

/-- Compress a sheet (R124, R125): an engine whose check decoder finds a difference takes a Fatal fault, and another begins
the sheet again. -/
def compressSheet (opq zeroPage : Bool) (sh : Sheet) (v : EngEnv) (s : State) : (Nat × List Byte) × State :=
  let e1 := s.engine false v.cmpEng
  let s := s.bump MIL_CMP_ENG_COMP 1 e1
  if v.cmpBad then
    let s := fault 5 e1 2 384 0 0 (s.bump MIL_CMP_ERR_CHECK 1 e1)
    (storeForm opq zeroPage sh, s.bump MIL_CMP_ENG_COMP 1 (s.engine false e1))
  else (storeForm opq zeroPage sh, s)

/-- A slot of a size-opaque page: the stored form and its pad, whose value the spec leaves open (R135). -/
def padSlot (b : List Byte) (s : State) : List Byte × State :=
  let (v, s) := s.fresh
  (b ++ (List.range (256 - b.length)).map (fun i => Config.padByte (256 * v + i)), s)

/-- Seal a sheet (R151, R152, R163): its ciphertext and its tag under a generation. An engine whose check path finds a
difference takes a Fatal fault, and another begins the sheet again. -/
def sealSheet (k : KeySlot) (page n dom code gen : Nat) (plain : List Byte) (v : EngEnv) (s : State) :
    (List Byte × Nat) × State :=
  let e1 := s.engine true v.sealEng
  let s := s.bump MIL_SEAL_ENG_SEAL 1 e1
  let s := if v.sealBad then
      let s := fault 6 e1 2 387 page n (s.bump MIL_SEAL_ERR_CHECK 1 e1)
      s.bump MIL_SEAL_ENG_SEAL 1 (s.engine true e1)
    else s
  let c := xtsEnc k page n plain
  ((c, sheetTag k page n dom code gen c), s)

/-- The page image of a new entry (R127, R130, R153): the sheets of `fresh` newly sealed (sheet, bytes, tag), every other stored
sheet copied as ciphertext from the old run with its tag rebound to the new generation; the tag slot of a sheet with code 0
or 15 is zero. -/
def buildImage (s : State) (r : Region) (k : KeySlot) (page : Nat) (old new : PageEntry)
    (fresh : List (Nat × List Byte × Nat)) : List Byte :=
  let mine := fun (i : Nat) => (fresh.find? (fun x => x.1 == i)).map (·.2)
  let tagOf := fun (i : Nat) =>
    if new.code i = 0 ∨ new.code i = 15 then 0
    else match mine i with
      | some x => x.2
      | none => rebindTag k page i r.keydom old.gen new.gen (s.tagSlot old i)
  let body := fun (i : Nat) =>
    match mine i with
    | some x => x.1
    | none =>
      if old.run = 0 then zeros (sheetLen r.opq (new.code i))
      else if r.opq then readBytes s.mem.store (old.parcel * 512 + sheetOffset true old i) 256
      else if new.code i = 15 then [] else s.sheetBytes false old i
  (List.range 16).flatMap (fun i => leBytes 4 (tagOf i)) ++ (List.range 16).flatMap body

/-- Record the lines of a sheet that neither the front cache nor the write-back buffer holds whole, as poisoned (R429). -/
def recordSheet (sheet cause : Nat) (s : State) : State :=
  if cause = 0 then s
  else forAll (sheetLines sheet) (fun l s =>
    if (match s.fcLine l with | some x => x.mask == fullMask && !x.poison | none => false) ||
        (match s.wbLine l with | some x => x.mask == fullMask && !x.poison | none => false) then s
    else deadLetter l cause 0 false s) s

/-! Heat. -/

/-- A heat report of a page (R187): its count rises, or it replaces the entry of lowest count in its set of eight. -/
def heatAdd (page : Nat) (s : State) : State :=
  match s.cap.heat.find page with
  | some c => { s with cap := { s.cap with heat := s.cap.heat.put page (min (c + 1) 255) } }
  | none =>
    let set := s.cap.heat.filter (fun x => Config.heatSet x.1 % 524288 == Config.heatSet page % 524288)
    let low := set.foldl (fun (a : Option (Nat × Nat)) x => match a with
      | some y => if x.2 < y.2 then some x else some y
      | none => some x) none
    let heat := if set.length < 8 then s.cap.heat else match low with
      | some x => s.cap.heat.del x.1
      | none => s.cap.heat
    { s with cap := { s.cap with heat := heat.put page 1 } }

/-- The promotion queue takes a media-resident page of an automatic region that is hot enough (R189). -/
def queuePromotion (page : Nat) (s : State) : State :=
  let auto := match s.pageRegion page with | some r => r.tier == 0 | none => false
  let hot := decide (s.rd TIE_CFG_PROMO ≤ s.cap.heat.get page 0) && decide (gib (s.rd TIE_DWM_START) ≤ s.cap.dram.free)
  if !auto || !((s.entry page).tier) || !hot || s.cap.promoQ.contains page then s
  else if s.cap.promoQ.length < 4096 then { s with cap := { s.cap with promoQ := s.cap.promoQ ++ [page] } }
  else s.bump TIE_STAT2_QDROP 1

/-- A fill or a sheet write-back of a slice: one in 2^SAMPLE is reported (R187). -/
def heatReport (sl page : Nat) (s : State) : State :=
  if !s.part.persist then s
  else
    let n := s.cap.sampled.get sl 0 + 1
    if n < 2 ^ s.rd TIE_CFG_SAMPLE then { s with cap := { s.cap with sampled := s.cap.sampled.put sl n } }
    else queuePromotion page (heatAdd page { s with cap := { s.cap with sampled := s.cap.sampled.put sl 0 } })

end Sys2Proof.Machine
end

