-- ==== Sys2Proof/Machine/Fill.lean ====
section
/-! DEFINITION. The ends of fetches: a sheet fill (R24, R28, R102, R161, R172), the fetch of a page-entry line (R69, R167), and
the retry of a Halt record (R165). -/
namespace Sys2Proof.Machine

/-- A write-back being written in place: it holds the page lock and names the old run (R130, R133). -/
def Work.inPlace (w : Work) : Bool :=
  (match w.kind with | .writeBack _ => true | _ => false) && w.stage == .ready && w.need == 0 && w.entry.run != 0

/-- The entry a fill is read under (R172): the entry it began under, or the present one while that names the same run. -/
def fillEntry (s : State) (f : Fill) : PageEntry :=
  let e := s.entry (sheetPage f.sheet)
  if e.run ≠ 0 ∧ e.parcel = f.entry.parcel then e else f.entry

/-- Install the lines of a filled sheet in the ways chosen for them; a line poisoned at its backing location is poisoned
(R102). -/
def installSheet (r : Region) (f : Fill) (sh : Sheet) (s : State) : State :=
  forAll (sheetLines f.sheet) (fun l s =>
    let v := if s.mem.backPoison.contains l then none else (sh[l % 4]?).getD none
    fillLine r l v f.head f.cls (f.ways.find? (fun k => slotSetKey k % 4096 == fcSet l)) s) s

/-- Stale parcels of a run that no fill reads any longer return to free (R172). -/
def freeRead (e : PageEntry) (s : State) : State :=
  forAll (runParcels e.parcel e.run) (fun p s =>
    if s.pstate p == .stale && !(s.filling p) then staleToFree p s else s) s

/-- The requests that wait for a sheet go on, in the order of acceptance. -/
def resumeFill (sheet : Nat) (s : State) : State :=
  forAll (s.home.reqs.filter (fun q => q.stage == .fill && lineSheet q.line == sheet)) dataStage s

/-- A sheet fill ends (R24 steps 5 to 7). It waits while the page is rewritten in place (R133). -/
def fillDone (sheet : Nat) (v : EngEnv) (s : State) : State :=
  match s.fc.fills.find? (fun f => f.sheet == sheet), s.pageRegion (sheetPage sheet) with
  | some f, some r =>
    if s.stopped || s.work.any (fun w => w.page == sheetPage sheet && w.inPlace) then s
    else
      let e := fillEntry s f
      let merge := (sheetLines sheet).any (fun l => match s.fcLine l with | some x => x.mask != fullMask && !x.poison | none => false)
      let sl := physSlice s (logicalSlice s (sheetPage sheet))
      let (o, s) := openSheet (sheetPage sheet) (sheet % 16) e v 0 sl merge s
      let s := { s with fc := { s.fc with fills := s.fc.fills.filter (fun g => g.sheet ≠ sheet) } }
      match o with
      | .halted => s
      | .sheet sh => freeRead e (heatReport sl (sheetPage sheet) (mopFilled sheet (resumeFill sheet (installSheet r f sh s))))
      | .poisoned c =>
        freeRead e (mopFilled sheet (resumeFill sheet (installSheet r f deadSheet (recordSheet sheet c s))))
  | _, _ => s

/-- SHEET_FILL_COMPLETE (R24): `v` says which engines take the sheet and whether they err on it. -/
def execSheetFillComplete (sheet : Nat) (v : EngEnv) (s : State) : Host.Outcome State Fault Refusal :=
  .next (settle (releaseHeld (fillDone sheet v s)))

/-- The requests that wait for the entries of a line. -/
def entryReqs (s : State) (line : Nat) : List Req :=
  s.home.reqs.filter (fun q => q.stage == .entry && entryLine (linePage q.line) == line)

/-- An entry line that fails verification: the Integrity Halt, which a flush puts off; no commit that needs the line is then
made, and the dirty lines of its pages are lost (R69, R167). -/
def entryMismatch (line eng : Nat) (s : State) : State :=
  let page := 4 * line
  let dom := match s.pageRegion page with | some r => r.keydom | none => 0
  let s := halt ⟨3, false, 0, dom, s.engine true eng, 0x1F, 0, physSlice s (logicalSlice s page), page, 0, false⟩ s
  if s.stopped then s
  else
    let s := { s with work := s.work.filter (fun w => entryLine w.page ≠ line) }
    forAll (entryReqs s line) completePoisoned (discardLines (fun l => entryLine (linePage l) == line) true s)

/-- The fetch of an entry line ends (R69). An uncorrectable line is a Contained fault of its stack, or of its channel where the
whole table lies in DRAM. -/
def entryDone (line : Nat) (res : EntryRes) (s : State) : State :=
  if !(s.mem.entryWait.contains line) || s.stopped then s
  else
    let s := { s with mem := { s.mem with entryWait := s.mem.entryWait.filter (· ≠ line) } }
    match res with
    | .verified => forAll (entryReqs s line) dataStage (cacheEntry (4 * line) s)
    | .mismatch eng => entryMismatch line eng s
    | .lost unit =>
      let s := entryLost line s
      let s := fault (if s.part.persist then 4 else 3) unit 1 396 line 0 s
      forAll (entryReqs s line) dataStage s

/-- ENTRY_LINE_FETCH_COMPLETE (R69). -/
def execEntryLineFetchComplete (line : Nat) (res : EntryRes) (s : State) : Host.Outcome State Fault Refusal :=
  .next (settle (releaseHeld (entryDone line res s)))

/-- HALT_RECORD_RETRY (R165 step 4): 1 ms after a refusal the record is written again. -/
def execHaltRecordRetry (s : State) : Host.Outcome State Fault Refusal :=
  .next (settle (if s.mode.halting then haltWrite s else s))

end Sys2Proof.Machine
end

