-- ==== Sys2Proof/Machine/Tokens.lean ====
section
/-! DEFINITION. Tokens (R309, R310, R312): taking one from a bucket, borrowing one from the pool, or demotion. -/
namespace Sys2Proof.Machine

/-- A token resource: 0 DRAM-tier access, 1 media write, 2 Courier engine time (R308). -/
def State.tok (s : State) (r : Nat) : TokRes := if r = 0 then s.qos.dram else if r = 1 then s.qos.media else s.qos.cou

/-- A token resource set. -/
def setTok (r : Nat) (t : TokRes) (s : State) : State :=
  { s with qos := if r = 0 then { s.qos with dram := t } else if r = 1 then { s.qos with media := t } else { s.qos with cou := t } }

/-- Tokens in all buckets. -/
def TokRes.held (t : TokRes) : Nat := (t.buckets.map (·.2)).sum

/-- A unit of a token resource is used by a head at a class (R312): whether the request is demoted there, and the state. -/
def charge (r h : Nat) (c : Cls) (s : State) : Bool × State :=
  let t := s.tok r
  let key := 4 * h + c.code
  let b := t.buckets.get key 0
  if 0 < b then (false, setTok r { t with buckets := t.buckets.put key (b - 1), spent := t.spent + 1 } s)
  else if c ≠ .express ∧ 0 < t.pool then
    (false, count 0x901 (some (h, clsBit c false)) 0x1F 1 ((setTok r { t with pool := t.pool - 1, spent := t.spent + 1 } s).bump QOS_DEM_BORROW 1 h))
  else (true, count 0x900 (some (h, clsBit c false)) 0x1F 1 (s.bump QOS_DEM_DEM 1 h))

/-- Several units used one after another. -/
def chargeN (r h : Nat) (c : Cls) : Nat → State → State
  | 0, s => s
  | n + 1, s => chargeN r h c n (charge r h c s).2

end Sys2Proof.Machine
end

