-- ==== Sys2Proof/Machine/Work.lean ====
section
/-! DEFINITION. Page work under the page lock (R30 to R34): sheet write-backs with their merge, sealing, allocation and commit
(R127 to R135, R153, R181, R229), and migrations and relocations (R190, R233, R235). -/
namespace Sys2Proof.Machine

/-! Building a new page image. -/

/-- A stored sheet of a code. -/
def storedCode (c : Nat) : Bool := c != 0 && c != 15

/-- The codes of a new image: in a size-opaque domain a page that is not wholly zero stores its zero sheets raw (R134). -/
def opaqueCodes (e : PageEntry) : PageEntry :=
  if (List.range 16).all (fun i => e.code i == 0) || (List.range 16).all (fun i => e.code i == 15) then e
  else (List.range 16).foldl (fun e i => if e.code i = 0 then e.setCode i 8 else e) e

/-- Sheet i of an old image cannot be carried into a new one in which sheet n changes from e to f (R130). Written in place,
only the header, the updated sheet and the sheets that move are written, with whatever shares a block with them. -/
def carryBad (s : State) (r : Region) (e f : PageEntry) (n : Nat) (inPlace : Bool) (i : Nat) : Bool :=
  let lenChanged := codeBytes (e.code n) != codeBytes (f.code n)
  let a := e.parcel * 512 + sheetOffset r.opq e n
  let near := blocksOf a (sheetLen r.opq (e.code n)) ++ blocksOf a (sheetLen r.opq (f.code n))
  let own := blocksOf (e.parcel * 512 + sheetOffset r.opq e i) (sheetLen r.opq (e.code i))
  let shares := own.any (fun b => near.contains b && s.mem.lost.contains b)
  e.run != 0 && i != n && storedCode (e.code i) &&
    (!(s.headerOk e) || (if inPlace then ((!r.opq && decide (n < i) && lenChanged && !(s.sheetOk r.opq e i)) || shares)
      else !(s.sheetOk r.opq e i)))

/-- The lines of sheets that take code 15 because they cannot be read are recorded, one by one (R130). -/
def recordBad (page : Nat) (bad : List Nat) (s : State) : State :=
  forAll bad (fun i s => forAll (sheetLines (16 * page + i)) (fun l s => deadLetter l 10 0 false s) s) s

/-- Some line of the page outside sheet n is poisoned (R57, R61): a sheet of code 15, a line marked in a stored sheet, or a line
poisoned at its backing location. -/
def otherPoison (s : State) (r : Region) (k : KeySlot) (page n : Nat) (old new : PageEntry) : Bool :=
  (List.range 16).any (fun i => i != n && (new.code i == 15 ||
    (old.anyPoison && storedCode (new.code i) && new.code i != 8 && old.run != 0 &&
      fieldAt (xtsDec k page i (s.sheetBytes r.opq old i)) 0 1 / 16 != 0))) ||
    s.mem.backPoison.any (fun l => linePage l == page && lineSheet l != 16 * page + n)

/-- Where a write-back goes and what it stores: the new entry without its run, the newly sealed sheets, the sheets lost. -/
structure Plan where
  entry : PageEntry
  fresh : List (Nat × List Byte × Nat)
  need : Nat
  deriving DecidableEq, Repr

/-- Seal the sheets of a new image that are not copied: the updated one, and the zero sheets that a size-opaque page stores with
its first run (R134, R135, R151). -/
def sealFresh (r : Region) (k : KeySlot) (page n : Nat) (old new : PageEntry) (form : List Byte) (v : EngEnv) (s : State) :
    List (Nat × List Byte × Nat) × State :=
  let first := r.opq && old.run == 0
  (List.range 16).foldl (fun (x : List (Nat × List Byte × Nat) × State) i =>
    let (acc, s) := x
    let c := new.code i
    if i = n then
      if c = 0 ∨ (c = 15 ∧ (!r.opq ∨ needOf r.opq new = 0)) then (acc, s)
      else
        let (plain, s) := if r.opq then padSlot form s else (form, s)
        let ((ct, tag), s) := sealSheet k page i r.keydom c new.gen plain v s
        (acc ++ [(i, ct, tag)], s)
    else if first && needOf r.opq new != 0 then
      let (plain, s) := if c = 15 then padSlot [] s else (zeros 256, s)
      let ((ct, tag), s) := sealSheet k page i r.keydom c new.gen plain { v with sealBad := false } s
      (acc ++ [(i, ct, tag)], s)
    else (acc, s)) ([], s)

/-- Merge a dirty sheet (R28 to R30): buffered lines, clean whole lines of the front cache, and the stored sheet. -/
def mergeSheet (r : Region) (b : WbEntry) (stored : Sheet) (s : State) : Sheet :=
  (List.range 4).map (fun i =>
    let line := 4 * b.sheet + i
    let old : Option Line := if s.mem.backPoison.contains line then none else (stored[i]?).getD none
    match b.lines.find? (fun l => l.idx == i) with
    | some w =>
      if w.poison then none
      else if w.mask = fullMask then some w.data
      else old.map (fun d => regionRound r fullMask (mergeLine d w.data w.mask))
    | none => match s.fcLine line with
      | some x => if x.mask == fullMask && !x.dirty then (if x.poison then none else some x.data) else old
      | none => old)

/-- The stored sheet must be read for the merge: not all four lines are at hand and whole (R30). -/
def needsStored (b : WbEntry) (s : State) : Bool :=
  (List.range 4).any (fun i =>
    match b.lines.find? (fun l => l.idx == i) with
    | some w => !(w.poison || w.mask == fullMask)
    | none => match s.fcLine (4 * b.sheet + i) with
      | some x => !(x.mask == fullMask && !x.dirty)
      | none => true)

/-- The write-back reads back a partly written line (R164). -/
def WbEntry.merges (b : WbEntry) : Bool := b.lines.any (fun w => w.mask != fullMask && !w.poison)

/-- The plan of a write-back whose merged sheet is stored under a code (R59, R127 to R130, R153). -/
def makePlan (r : Region) (k : KeySlot) (page n : Nat) (e : PageEntry) (sh : Sheet) (code : Nat) (form : List Byte) (keepZero : Bool)
    (v : EngEnv) (s : State) : Plan × State :=
  let raw := e.setCode n code
  let f := if r.opq && !keepZero then opaqueCodes raw else raw
  let inPlace := decide (r.typ ≠ 1 ∧ needOf r.opq f ≠ 0 ∧ needOf r.opq f ≤ e.run)
  let bad := (List.range 16).filter (carryBad s r e f n inPlace)
  let f := bad.foldl (fun f i => f.setCode i 15) f
  let pinned := e.pinned || r.tier == 1
  let f := { f with gen := (e.gen + 1) % 65536, written := true, repack := false, pinned,
                    anyPoison := decide (pmask sh ≠ 0) || otherPoison s r k page n e f }
  let (fresh, s) := sealFresh r k page n e f form v s
  (⟨f, fresh, needOf r.opq f⟩, recordBad page bad s)

/-! Growth (R181, R184). -/

/-- Room left in a head's reserve share, in parcels. -/
def State.reserveRoom (s : State) (h : Nat) : Nat := gib (s.rd CAP_EQ_RSHARE h) - s.cap.debt.get h 0

/-- The source of a growth write of a head (R181): true, its reserve share. -/
def State.fromShare (s : State) (h : Nat) : Bool :=
  let l := s.rd CAP_GPOOL_LEVEL
  l == 3 || (l == 2 && s.aboveQuota h)

/-- Take parcels from a head's reserve share (R184, R193). -/
def takeShare (h n : Nat) (s : State) : State :=
  let d := s.cap.debt.get h 0
  let s := { s with cap := { s.cap with debt := s.cap.debt.put h (d + n) } }
  let s := (if d = 0 ∧ n ≠ 0 then raise 452 s else s).wr CAP_EU_REFUSING 0 h
  if s.reserveRoom h = 0 then raise 453 s else s

/-- The refusal of a growth write is counted and reported (R181, R193). -/
def countRefusal (h lines : Nat) (s : State) : State :=
  raiseLimited 454 h ((s.wr CAP_EU_REFUSING 1 h).bump CAP_ED_REFUSED lines h)

/-! Starting a write-back. -/

/-- Work now ready to commit, with its new run, image and entry. -/
def readyWork (w : Work) (parcel need : Nat) (e : PageEntry) (image : List Byte) (slots : List Nat) (s : State) : State :=
  modWork w.id (fun w => { w with stage := .ready, parcel, need, entry := e, image, slots }) s

/-- Work that waits for parcels, holding the page lock (R179, R189). -/
def waitSpace (w : Work) (s : State) : State := modWork w.id (fun w => { w with stage := .noSpace }) s

/-- A plan that needs no new run: written in place, or nothing stored (R129). -/
def placeOld (w : Work) (r : Region) (k : KeySlot) (e : PageEntry) (p : Plan) (s : State) : State :=
  let f := if p.need = 0 then { p.entry with parcel := 0, run := 0, tier := false }
    else { p.entry with parcel := e.parcel, run := p.need, tier := false }
  let image := if p.need = 0 then [] else buildImage s r k w.page e f p.fresh
  readyWork w 0 0 f image [] s

/-- Poison the copies of lines that the front cache holds clean (R132). -/
def poisonCopies (lines : List Nat) (s : State) : State :=
  forAll lines (fun l s => modLine l (fun x => if x.dirty then x else { x with poison := true, mask := fullMask, data := 0 }) s) s

/-- A growth write refused: stored without growth (R132). -/
def storeRefused (w : Work) (r : Region) (k : KeySlot) (b : WbEntry) (e : PageEntry) (sh : Sheet) (h : Nat) (v : EngEnv)
    (s : State) : State :=
  let n := b.sheet % 16
  let dirty := b.lines.map (fun l => 4 * b.sheet + l.idx)
  let s := poisonCopies dirty (forAll dirty (fun l s => deadLetter l 7 h false s) s)
  let sh' : Sheet := sh.zipIdx.map (fun x => if b.lines.any (fun l => l.idx == x.2) then none else x.1)
  let ((code, form), s) := compressSheet r.opq false sh' v s
  let f := e.setCode n code
  if pmask sh' ≠ 15 ∧ needOf r.opq (if r.opq then opaqueCodes f else f) ≤ e.run then
    let (p, s) := makePlan r k w.page n e sh' code form false v s
    placeOld w r k e p (countRefusal h dirty.length s)
  else
    let rest := (sheetLines b.sheet).filter (fun l => !(dirty.contains l) && (sh'[l % 4]?).getD none != none)
    let s := poisonCopies rest (forAll rest (fun l s => deadLetter l 7 h false s) s)
    let (p, s) := makePlan r k w.page n e deadSheet 15 [] (e.run == 0) v s
    placeOld w r k e p (countRefusal h (dirty.length + rest.length) s)

/-- Staging room and power are at hand for a P-stream write (R228, R231, R352). -/
def State.stagingReady (s : State) (k n : Nat) : Bool :=
  decide (n ≤ s.stagingRoom k) && (s.rdB TLR_STAT_ARMED || s.rdB TLR_STAT_ACTIVE)

/-- Write the image of a persistent page into P-stream slots, or wait for room (R229 steps 1 and 2, R232). -/
def stageImage (w : Work) (e : PageEntry) (need : Nat) (image : List Byte) (h : Nat) (c : Cls) (s : State) : State :=
  let hold := fun (k : Nat) (s : State) =>
    let s := if w.stage = .staging then s else raiseLimited (640 + 8 * k + 6) 0 (s.bump MED_STG_WAITS 1)
    modWork w.id (fun w => { w with stage := .staging, need := 0, entry := e, image, want := need }) s
  match s.stackP with
  | none => hold 0 s
  | some k =>
    if !(s.stagingReady k need) then hold k s
    else match allocSlots 0 k need w.page image w.id s with
      | none => hold k s
      | some (sl, s) =>
        readyWork w sl.parcel need { e with parcel := sl.parcel, run := need, tier := true } image [sl.id] (chargeN 1 h c need s)

/-- Allocate and write a new run for a write-back (R129, R131, R181, R229). -/
def placeNew (w : Work) (r : Region) (k : KeySlot) (b : WbEntry) (e : PageEntry) (sh : Sheet) (p : Plan) (v : EngEnv) (s : State) :
    State :=
  if r.typ = 1 then
    stageImage w p.entry p.need (buildImage s r k w.page e { p.entry with run := p.need } p.fresh) b.owner b.cls s
  else
    let ch := if r.elastic then s.chargeHead w.page else none
    match ch.filter (fun h => s.fromShare h && decide (s.reserveRoom h < p.need)) with
    | some h => storeRefused w r k b e sh h v s
    | none => match allocDram p.need s with
      | (none, s) => waitSpace w s
      | (some q, s) =>
        let share := match ch with | some h => s.fromShare h | none => false
        let s := inFlightRun .growth .free q p.need s
        let s := heldChange w.page true p.need s
        let s := match ch with | some h => if share then takeShare h p.need s else s | none => s
        let s := setEntry w.page { e with repack := true } s
        let f := { p.entry with parcel := q, run := p.need, tier := false }
        readyWork w q p.need f (buildImage s r k w.page e f p.fresh) [] s

/-- A sheet write-back begins: merge, compress, seal, place (R30, R31). -/
def storeSheet (w : Work) (r : Region) (k : KeySlot) (b : WbEntry) (o v : EngEnv) (s : State) : State :=
  let e := s.entry w.page
  let n := b.sheet % 16
  let sl := physSlice s (logicalSlice s w.page)
  let (opened, s) := if needsStored b s then openSheet w.page n e o 0 sl b.merges s else (.sheet zeroSheet, s)
  let go := fun (stored : Sheet) (s : State) =>
    let sh := mergeSheet r b stored s
    let zeroPage := (List.range 16).all (fun i => i == n || e.code i == 0)
    let ((code, form), s) := compressSheet r.opq zeroPage sh v s
    if s.stopped then s
    else
      let (p, s) := makePlan r k w.page n e sh code form false v s
      if s.stopped then s
      else if p.need = 0 ∨ (r.typ ≠ 1 ∧ p.need ≤ e.run) then placeOld w r k e p s
      else placeNew w r k b e sh p v s
  match opened with
  | .halted => s
  | .sheet sh => go sh s
  | .poisoned c => go deadSheet (recordSheet b.sheet c s)

/-! Migrations and relocations. -/

/-- Copy a page unchanged (R33, R190 step 3, R235): every stored sheet is read and its tag checked by the tier engine; sheet `chk`
meets the engines of `v`. The new entry, the image, or none when the Halt begins. -/
def copyPage' (page : Nat) (r : Region) (k : KeySlot) (e : PageEntry) (chk : Nat) (v : EngEnv) (s : State) :
    Option (PageEntry × List Byte) × State :=
  let plain : EngEnv := { v with sealBad := false, cmpBad := false, altered := none }
  let (f, s) := (List.range 16).foldl (fun (x : PageEntry × State) i =>
    let (f, s) := x
    if s.stopped || !(storedCode (e.code i)) then (f, s)
    else if !(s.sheetOk r.opq e i) then (f.setCode i 15, recordBad page [i] s)
    else
      let u := if i = chk then v else plain
      let (c, tag) := u.altered.getD (s.sheetBytes r.opq e i, s.tagSlot e i)
      let c := fit (sheetLen r.opq (e.code i)) c
      let good := tag == sheetTag k page i r.keydom (e.code i) e.gen c
      let (ok, s) := tagCheck page i r.keydom e good u 0x20 0x1F false s
      (if ok then f else f.setCode i 15, s)) (e, s)
  if s.stopped then (none, s)
  else
    let f := { f with anyPoison := f.anyPoison || f.size != e.size, run := needOf r.opq f }
    let tags := (List.range 16).flatMap (fun i => leBytes 4 (if storedCode (f.code i) then s.tagSlot e i else 0))
    let body := (List.range 16).flatMap (fun i =>
      if r.opq then readBytes s.mem.store (e.parcel * 512 + sheetOffset true e i) 256
      else if storedCode (f.code i) then s.sheetBytes false e i else [])
    (some (f, tags ++ body), s)

/-- Migrations in flight, promotions on write left out (R190). -/
def State.migrating (s : State) : Nat :=
  (s.work.filter (fun w => (match w.kind with | .migrate _ _ => true | _ => false) && w.stage != .waiting)).length

/-- An abort for want of space at the target tier (R34). -/
def noTarget (w : Work) (s : State) : State := raise 459 ((dropWork w.id s).bump TIE_STAT2_ABORT 1)

/-- Allocate DRAM for a promotion: from free, or for a promotion on write the whole run from the migration reserve (R189). -/
def promoteTo (w : Work) (f : PageEntry) (image : List Byte) (onWrite : Bool) (s : State) : State :=
  let n := f.run
  let fromFree := decide (n ≤ s.cap.dram.free)
  let fromRes := onWrite && !fromFree && decide (n ≤ s.cap.migReserve)
  if !fromFree && !fromRes then (if onWrite then waitSpace w s else noTarget w s)
  else match allocDram n s with
    | (none, s) => if onWrite then waitSpace w s else noTarget w s
    | (some q, s) =>
      let s := inFlightRun .reloc (if fromFree then .free else .reserved) q n s
      let s := if fromFree then s else { s with cap := { s.cap with migReserve := s.cap.migReserve - n } }
      readyWork w q n { f with parcel := q, tier := false } image [] s

/-- Allocate media for a demotion or a relocation, in a stream of a stack (R190, R228, R233, R235). -/
def mediaTo (w : Work) (f : PageEntry) (image : List Byte) (stream : Nat) (k : Option Nat) (s : State) : State :=
  match k with
  | none => s
  | some k => match allocSlots stream k f.run w.page image w.id s with
    | none => (match w.kind with | .migrate _ _ => noTarget w s | _ => s)
    | some (sl, s) => readyWork w sl.parcel f.run { f with parcel := sl.parcel, tier := true } image [sl.id] s

/-- Page work that moves a page takes the lock (R190 steps 1 to 3, R235 step 2). -/
def movePage (w : Work) (r : Region) (chk : Nat) (v : EngEnv) (s : State) : State :=
  let e := s.entry w.page
  let apt := match w.kind with
    | .migrate up _ => e.run != 0 && (if up then e.tier else !e.tier && !e.pinned) && r.typ != 1
    | .promote _ => e.run != 0 && e.tier
    | .relocate k => e.run != 0 && e.tier && (k == 16 || parcelStack e.parcel == k)
    | .writeBack _ => false
  if !apt then dropWork w.id s
  else match w.kind, decide (s.rd TIE_CFG_MIGMAX ≤ s.migrating) with
    | .migrate _ _, true => s
    | _, _ => match s.keys.slots.find r.keydom with
      | none => dropWork w.id s
      | some k =>
        let demotes := match w.kind with | .migrate up _ => !up | _ => false
        if demotes && s.stackV.isNone then s
        else match copyPage' w.page r k e chk v s with
          | (none, s) => s
          | (some (f, image), s) =>
            if f.run = 0 then readyWork w 0 0 { f with parcel := 0, tier := false } [] [] s
            else match w.kind with
              | .migrate true _ => promoteTo w f image false s
              | .promote _ => promoteTo w f image true s
              | .migrate false _ => mediaTo w f image 2 s.stackV s
              | .relocate k =>
                mediaTo w f image (if r.typ = 1 then 1 else 2) (if k = 16 then s.stackAny else some k) s
              | .writeBack _ => s

/-- A write-back takes the lock: it waits for its page entry, first promotes a media-resident volatile page, or begins (R30,
R32, R69). -/
def beginWb (w : Work) (r : Region) (id chk : Nat) (o v : EngEnv) (s : State) : State :=
  match s.fc.wbuf.find? (fun b => b.id == id), s.keys.slots.find r.keydom with
  | some b, some k =>
    let e := s.entry w.page
    if r.typ ≠ 1 ∧ e.run ≠ 0 ∧ e.tier then
      let p := { w with kind := .promote id }
      movePage p r chk o (modWork w.id (fun w => { w with kind := .promote id }) s)
    else storeSheet w r k b o v s
  | some _, none => s
  | none, _ => dropWork w.id s

/-- Work begins under the page lock (R34). -/
def beginWork (w : Work) (chk : Nat) (o v : EngEnv) (s : State) : State :=
  match s.pageRegion w.page with
  | none => dropWork w.id s
  | some r =>
    if s.heldBack w then s
    else if !(s.entryKnown w.page) then fetchEntry w.page s
    else
      let s := useEntry w.page s
      match w.kind with
      | .writeBack id => beginWb w r id chk o v s
      | .promote _ => if (s.entry w.page).run != 0 && (s.entry w.page).tier then movePage w r chk o s
          else modWork w.id (fun w => match w.kind with | .promote wb => { w with kind := .writeBack wb, stage := .waiting } | _ => w) s
      | _ => movePage w r chk o s

/-- PAGE_LOCK_GRANT: the work that holds the lock and waits for parcels tries again; else the first work waiting for a free lock
takes it (R34). -/
def grantLock (page chk : Nat) (o v : EngEnv) (s : State) : State :=
  if s.stopped then s
  else match s.work.find? (fun w => w.page == page && w.stage == .noSpace) with
    | some w => beginWork w chk o v s
    | none =>
      if s.locked page then s
      else match s.work.find? (fun w => w.page == page && w.stage == .waiting) with
        | some w => beginWork w chk o v s
        | none => s

/-- PAGE_LOCK_GRANT (R34). `open_` and `store` say what the engines do on the read and the write side; `chk` is the sheet of a
copied page that meets `open_`. -/
def execPageLockGrant (page chk : Nat) (opn store : EngEnv) (s : State) : Host.Outcome State Fault Refusal :=
  .next (settle (grantLock page chk opn store s))

/-- The tier engine takes a page from the promotion queue (R189). -/
def takeQueued (page : Nat) (s : State) : State :=
  if s.cap.promoQ.contains page then
    addWork page 0 (.migrate true false) { s with cap := { s.cap with promoQ := s.cap.promoQ.filter (· ≠ page) } }
  else s

/-- MIGRATION_START (R190): a chosen page's migration, while the lock is free. -/
def migrationStart (page chk : Nat) (v : EngEnv) (s : State) : State :=
  if s.stopped || s.locked page then s
  else
    let s := takeQueued page s
    match s.work.find? (fun w => w.page == page && w.stage == .waiting && (match w.kind with | .migrate _ _ => true | _ => false)) with
    | some w => beginWork w chk v v s
    | none => s

/-- MIGRATION_START (R190). -/
def execMigrationStart (page chk : Nat) (v : EngEnv) (s : State) : Host.Outcome State Fault Refusal :=
  .next (settle (migrationStart page chk v s))

/-! Commits. -/

/-- Slots that are committed and verified are released (R229 step 6). -/
def releaseSlots (s : State) : State :=
  { s with media := { s.media with slots := s.media.slots.filter (fun x => !(x.committed && x.left == 0)) } }

/-- The slots of some work now belong to a committed entry. -/
def commitSlots (w : Work) (s : State) : State :=
  releaseSlots { s with media := { s.media with
    slots := s.media.slots.map (fun (x : Slot) => if w.slots.contains x.id then { x with committed := true } else x) } }

/-- Write the parts of an image that a rewrite in place writes: the header line, the updated sheet, and the sheets that move
(R130, R135). -/
def writeInPlace (r : Region) (n : Nat) (old new : PageEntry) (image : List Byte) (s : State) : State :=
  let base := old.parcel * 512
  let off := sheetOffset r.opq new n
  let len := sheetLen r.opq (new.code n)
  let s := storeBytes base (image.take 64) s
  let moved := !r.opq && (codeBytes (old.code n) != codeBytes (new.code n) ||
    (List.range 16).any (fun i => i != n && old.code i != new.code i))
  if moved then
    let first := ((List.range 16).find? (fun i => old.code i != new.code i)).getD n
    let a := min off (sheetOffset r.opq new first)
    storeBytes (base + a) ((image.drop a)) s
  else storeBytes (base + off) ((image.drop off).take len) s

/-- Held counts follow a commit that changes a page's run in one update (R179, R184). -/
def heldDiff (page old new : Nat) (s : State) : State :=
  if old ≤ new then heldChange page true (new - old) s else heldChange page false (old - new) s

/-- A write-back commits (R31, R129, R131 step 3, R229 step 3): one update of the entry, and the lock released. -/
def commitWb (w : Work) (r : Region) (id : Nat) (s : State) : State :=
  let old := s.entry w.page
  let n := w.sheet % 16
  let f := { w.entry with repack := false }
  let s := if w.need ≠ 0 then
      let s := storeBytes (w.parcel * 512) w.image s
      let s := ownRun w.pkind w.parcel w.need s
      let s := commitSlots w s
      let s := disownRun old.parcel old.run s
      if w.pkind = .growth then (heldChange w.page false old.run s).bump MIL_CMP_RPK_GROW 1 else heldDiff w.page old.run w.need s
    else
      let s := if f.run ≠ 0 then writeInPlace r n old f w.image s else s
      heldDiff w.page old.run f.run (disownRun (old.parcel + f.run) (old.run - f.run) s)
  let s := if f.run < old.run then s.bump MIL_CMP_RPK_SHRINK 1 else s
  let s := setEntry w.page f (count (0x300 + f.code n) none 0x1F 1 (s.bump MIL_CMP_HIST_SHEETS 1 (f.code n)))
  let s := if old.anyPoison && !f.anyPoison then deadClearPageRec w.page s else s
  let s := { s with
    mem := { s.mem with backPoison := s.mem.backPoison.filter (fun l => lineSheet l ≠ w.sheet) }
    fc := { s.fc with wbuf := s.fc.wbuf.filter (fun b => b.id ≠ id) } }
  heatReport (physSlice s (logicalSlice s w.page)) w.page (dropWork w.id s)

/-- A migration or relocation commits (R190 step 4, R233, R235): PARCEL, RUN and TIER, GEN unchanged. -/
def commitMove (w : Work) (s : State) : State :=
  let old := s.entry w.page
  let s := if w.need ≠ 0 then
      ownRun .reloc w.parcel w.need (storeBytes (w.parcel * 512) w.image s)
    else s
  let s := { s with media := { s.media with
    slots := s.media.slots.filter (fun x => !(x.page == w.page && x.stream == 0 && x.parcel == old.parcel)) } }
  let s := commitSlots w s
  let s := heldDiff w.page old.run w.entry.run (disownRun old.parcel old.run s)
  let s := setEntry w.page { w.entry with repack := false, pinned := old.pinned } s
  match w.kind with
  | .promote wb =>
    modWork w.id (fun w => { w with kind := .writeBack wb, stage := .waiting, parcel := 0, need := 0, image := [], slots := [] })
      (count 0x410 none 0x1F 1 (s.bump TIE_STAT_PROMO 1))
  | .migrate up _ =>
    if up then dropWork w.id (count 0x410 none 0x1F 1 (s.bump TIE_STAT_PROMO 1))
    else dropWork w.id { count 0x411 none 0x1F 1 (s.bump TIE_STAT_DEMOT 1) with cap := { s.cap with passFreed := s.cap.passFreed + old.run } }
  | _ => dropWork w.id s

/-- The staging slots or buffers of a move's target are all verified (R229 step 6). -/
def State.verified (s : State) (w : Work) : Bool :=
  w.slots.all (fun i => match s.media.slots.find? (fun x => x.id == i) with | some x => x.left == 0 | none => true)

/-- WRITE_BACK_COMMIT (R31). -/
def wbCommit (page : Nat) (s : State) : State :=
  if s.stopped then s
  else match s.work.find? (fun w => w.page == page && w.stage == .ready), s.pageRegion page with
    | some w, some r => (match w.kind with | .writeBack id => commitWb w r id s | _ => s)
    | _, _ => s

/-- WRITE_BACK_COMMIT (R31). -/
def execWriteBackCommit (page : Nat) (s : State) : Host.Outcome State Fault Refusal := .next (settle (wbCommit page s))

/-- A migration commits once its copy is done: a demotion when its stripes are verified (R190). -/
def migrationCommit (page : Nat) (s : State) : State :=
  if s.stopped then s
  else match s.work.find? (fun w => w.page == page && w.stage == .ready) with
    | some w => (match w.kind with
      | .migrate _ _ | .promote _ => if s.verified w then commitMove w s else s
      | _ => s)
    | none => s

/-- MIGRATION_COMMIT (R190). -/
def execMigrationCommit (page : Nat) (s : State) : Host.Outcome State Fault Refusal := .next (settle (migrationCommit page s))

/-- A write-back that waited for staging room goes on (R232). -/
def stagingRetry (page : Nat) (s : State) : State :=
  if s.stopped then s
  else match s.work.find? (fun w => w.page == page && w.stage == .staging) with
    | some w =>
      let (h, c) := match w.kind with
        | .writeBack id => (match s.fc.wbuf.find? (fun b => b.id == id) with | some b => (b.owner, b.cls) | none => (0, .standard))
        | _ => (0, .standard)
      stageImage w w.entry w.want w.image h c s
    | none => s

/-- STAGING_WAIT_END (R232). -/
def execStagingWaitEnd (page : Nat) (s : State) : Host.Outcome State Fault Refusal := .next (settle (stagingRetry page s))

end Sys2Proof.Machine
end

