-- ==== Sys2Proof/Machine/Capacity.lean ====
section
/-! DEFINITION. The accounting and tiering commands (chapter 07): audits (R175, R176), release requests (R183), the heat epoch
(R187), the demotion sweep (R188), and the journal checkpoint (R70). -/
namespace Sys2Proof.Machine

/-! Audits. -/

/-- Owned and growth in-flight parcels of a tier. -/
def Tier.held (t : Tier) : Nat := t.owned + t.growth

/-- The difference of a tier's six counters from its total. -/
def Tier.off (t : Tier) : Int :=
  ((t.free + t.owned + t.stale + (t.growth + t.reloc) + t.reserved + t.quar : Nat) : Int) - t.total

/-- The twelve state counters and the two totals. -/
def State.counters (s : State) : List Nat :=
  [s.cap.dram, s.cap.media].flatMap (fun t => [t.total, t.free, t.owned, t.stale, t.growth + t.reloc, t.reserved, t.quar])

/-- Held counts of the regions that meet a test. -/
def State.heldOf (s : State) (p : Region → Bool) : Nat :=
  (s.regions.filter p).foldl (fun a r => a + s.cap.rgnHeld.get r.n 0) 0

/-- Elastic use over all heads. -/
def State.useSum (s : State) : Nat := (List.range 16).foldl (fun a h => a + s.elasticUse h) 0

/-- The differences of the snapshot audit (R175): the tier sums; owned and growth against the regions' held counts; the
elastic regions' held counts against the heads' elastic use. -/
def State.snapDiffs (s : State) : List Int :=
  [s.cap.dram.off, s.cap.media.off,
   ((s.cap.dram.held + s.cap.media.held : Nat) : Int) - s.heldOf (fun _ => true),
   (s.heldOf (fun r => r.elastic) : Int) - s.useSum]

/-- A difference as it stands in a response. -/
def diffWord (d : Int) : Nat := (BitVec.ofInt 64 d).toNat

/-- The end of an audit: CAP_AUD, events 457 and 458, a record of a mismatch (R175, R176). -/
def auditEnd (walk : Bool) (diffs : List Int) (s : State) : State :=
  let bad := diffs.any (· ≠ 0)
  let s := (((s.wr CAP_AUD_RESULT (if bad then 2 else 1)).wr CAP_AUD_BUSY 0).wrB CAP_AUD_KIND walk).bump CAP_AUD_SEQ 1
  let s := raise 457 s
  if bad then raise 458 (noteRec 458 (diffWord (diffs.headD 0)) (diffs.length) s) else s

/-- The mode lets an audit run. -/
def State.auditable (s : State) : Bool := s.serving && s.mode.stopStep == 0

/-- A snapshot audit, asked for by a mailbox or by the Clerks themselves (R175, R176). -/
def auditSnapshot (rt : Option Route) (s : State) : State :=
  let run := fun (s : State) =>
    if s.rdB CAP_AUD_BUSY then (match rt with | some r => reply r .busy [] s | none => s)
    else
      let d := s.snapDiffs
      let pay := s.counters ++ [s.heldOf (fun _ => true), s.heldOf (fun r => r.elastic), s.useSum] ++ d.map diffWord
      let s := auditEnd false d s
      match rt with | some r => reply r .success pay s | none => s
  match rt with
  | some r => mailbox r run s
  | none => if s.auditable && !s.post.coresUp.isEmpty then run s else s

/-- AUDIT_SNAPSHOT (R175): `rt` is the mailbox that asks, or none for the Clerks' own audit of R176. -/
def execAuditSnapshot (rt : Option Route) (s : State) : Host.Outcome State Fault Refusal := .next (settle (auditSnapshot rt s))

/-- A walk audit starts (R175). -/
def auditWalk (rt : Option Route) (s : State) : State :=
  let run := fun (s : State) =>
    if s.rdB CAP_AUD_BUSY || (match rt with | some r => s.bgBusy r | none => false) then
      (match rt with | some r => reply r .busy [] s | none => s)
    else
      let s := { (s.wr CAP_AUD_BUSY 1).wr CAP_AUD_KIND 1 with cap := { s.cap with auditWalk := some rt } }
      match rt with | some r => bgStart 0xC000 r s | none => s
  match rt with
  | some r => mailbox r (fun s => if s.auditable then run s else refuse r 5 s) s
  | none => if s.auditable && !s.post.coresUp.isEmpty then run s else s

/-- AUDIT_WALK (R175). -/
def execAuditWalk (rt : Option Route) (s : State) : Host.Outcome State Fault Refusal := .next (settle (auditWalk rt s))

/-- The written page entries. -/
def State.writtenPages (s : State) : List (Nat × PageEntry) := s.mem.pages.filter (fun x => x.2.written)

/-- RUN summed over the written pages that meet a test. -/
def State.runSum (s : State) (p : Nat × PageEntry → Bool) : Nat := (s.writtenPages.filter p).foldl (fun a x => a + x.2.run) 0

/-- A written entry names a parcel. -/
def State.named (s : State) (p : Nat) : Bool :=
  s.writtenPages.any (fun x => x.2.parcel ≤ p && p < x.2.parcel + x.2.run)

/-- Owned parcels that no written entry names: listed as owned, or noted when their entry line was lost (R69). -/
def State.orphanList (s : State) : List Nat :=
  ((s.cap.pmap.filter (fun x => x.2 == .owned)).map (·.1)).filter (fun p => !(s.named p))

/-- Growth in-flight parcels of pages that meet a test. -/
def State.growthSum (s : State) (p : Nat → Bool) : Nat :=
  (s.work.filter (fun w => w.stage == .ready && w.pkind == .growth && w.need != 0 && p w.page)).foldl (fun a w => a + w.need) 0

/-- The held counts, elastic use, segment OWNED counts and TIE_PIN.USED corrected to the walk's sums (R175). -/
def correctCounts (s : State) : State :=
  let ofRegion := fun (r : Region) (page : Nat) => r.base ≤ pageExt page && pageExt page < r.base + r.size
  let s := forAll s.regions (fun r s =>
    let held := s.runSum (fun x => ofRegion r x.1) + s.growthSum (ofRegion r)
    { s with cap := { s.cap with rgnHeld := s.cap.rgnHeld.put r.n held } }) s
  let ext := s.mem.extents.map (fun (x : Nat × Extent) =>
    (x.1, { x.2 with held := s.runSum (fun y => pageExt y.1 == x.1) + s.growthSum (fun p => pageExt p == x.1) }))
  let seg := s.media.segs.map (fun (x : Nat × Seg) =>
    let mine := fun (y : Nat × PageEntry) => y.2.tier && parcelStack y.2.parcel * 2097152 + parcelSeg y.2.parcel == x.1
    (x.1, { x.2 with owned := s.runSum mine }))
  let s := { s with mem := { s.mem with extents := ext }, media := { s.media with segs := seg } }
  s.wr TIE_PIN_USED (s.writtenPages.filter (fun x => x.2.pinned &&
    (match s.pageRegion x.1 with | some r => r.tier != 1 | none => false))).length

/-- A walk audit ends: sums, orphans recovered, counts corrected, the result reported (R175, R69). -/
def auditWalkEnd (s : State) : State :=
  match s.cap.auditWalk with
  | none => s
  | some rt =>
    let orphans := s.orphanList
    let off := fun (media : Bool) =>
      let t := s.tier media
      let lost := if s.cap.lostSinceWalk then (orphans.filter (fun p => parcelMedia p == media)).length else 0
      (t.owned : Int) - s.runSum (fun x => x.2.tier == media) - lost
    let diffs := s.snapDiffs ++ [off false, off true]
    let pay := s.counters ++ [s.runSum (fun x => !x.2.tier), s.runSum (fun x => x.2.tier)] ++ diffs.map diffWord ++ [orphans.length]
    let s := forAll orphans disownParcel s
    let s := correctCounts { s with cap := { s.cap with orphans := [], lostSinceWalk := false, auditWalk := none } }
    let s := auditEnd true diffs s
    match rt with
    | some r => bgEnd 0xC000 r .success pay s
    | none => s

/-- AUDIT_WALK_COMPLETE (R175). -/
def execAuditWalkComplete (s : State) : Host.Outcome State Fault Refusal := .next (settle (auditWalkEnd s))

/-! Release requests. -/

/-- The extents a head is asked to release (R183): those it is charge head of and that are not yet asked for, in descending
order of held count, until their held counts reach a number of parcels, at most RELMAX. -/
def pickExtents : Nat → Nat → List (Nat × Extent) → List Nat
  | 0, _, _ => []
  | _, _, [] => []
  | n + 1, want, x :: l => if want = 0 then [] else x.1 :: pickExtents n (want - x.2.held) l

/-- Insert an extent in descending order of held count. -/
def insertHeld (x : Nat × Extent) : List (Nat × Extent) → List (Nat × Extent)
  | [] => [x]
  | y :: l => if y.2.held < x.2.held then x :: y :: l else y :: insertHeld x l

/-- The extents of a charge head that may be asked for. -/
def State.askable (s : State) (h : Nat) : List (Nat × Extent) :=
  (s.mem.extents.filter (fun x => x.2.charge == h && x.2.accepted != 0 && x.2.requested == 0)).foldl (fun l x => insertHeld x l) []

/-- Send a Dynamic Capacity event about extents to a head: its log and its message (R50, R183): 1 add, 2 release request. -/
def dcSend (h kind : Nat) (exts : List Nat) (s : State) : State :=
  if exts.isEmpty then s
  else { s with evt := { s.evt with dcLog := s.evt.dcLog.put h (s.evt.dcLog.get h [] ++ exts.map (fun e => (kind, e))) } }.emit
    (.dcEvent h kind exts)

/-- Ask for some extents: every head that holds one is asked (R183). -/
def askRelease (exts : List Nat) (s : State) : State :=
  let held := fun (s : State) (h : Nat) => exts.filter (fun e => match s.mem.extents.find e with | some x => x.accepted.getLsbD h | none => false)
  let s' := forAll (List.range 16) (fun h s =>
    let l := held s h
    if l.isEmpty then s else dcSend h 2 l (s.bump CAP_ED_RELREQ l.length h)) s
  forAll exts (fun e s => match s.mem.extents.find e with
    | some x => { s with mem := { s.mem with extents := s.mem.extents.put e { x with requested := x.accepted } } }
    | none => s) s'

/-- The excess of a head over its quota. -/
def State.excess (s : State) (h : Nat) : Nat := s.elasticUse h - s.rd CAP_EQ_QUOTA h * 2097152

/-- Heads in descending order of a measure, ties to the lower head. -/
def byDesc (f : Nat → Nat) : List Nat → List Nat
  | [] => []
  | h :: l => ins h (byDesc f l)
where
  ins (h : Nat) : List Nat → List Nat
    | [] => [h]
    | g :: l => if f g ≤ f h then h :: g :: l else g :: ins h l

/-- A release-request period (R183). -/
def releasePeriod (s : State) : State :=
  if !s.serving || s.rd CAP_GPOOL_LEVEL = 0 then s
  else
    let max := s.rd CAP_WM_RELMAX
    let high := byDesc s.excess ((List.range 16).filter s.aboveQuota)
    let lists := if high.isEmpty then
        match (byDesc s.elasticUse (List.range 16)).head? with
        | some h => [pickExtents max (gib (s.rd CAP_WM_LOW + s.rd CAP_WM_HYST) - s.pool).toNat (s.askable h)]
        | none => []
      else high.map (fun h => pickExtents max (s.excess h) (s.askable h))
    if lists.all List.isEmpty then s else raise 455 (forAll lists askRelease s)

/-- RELEASE_REQUEST_PERIOD (R183): RELP × 100 ms have passed. -/
def execReleaseRequestPeriod (s : State) : Host.Outcome State Fault Refusal := .next (settle (releasePeriod s))

/-! Heat and demotion. -/

/-- HEAT_EPOCH (R187): every heat count is halved. -/
def execHeatEpoch (s : State) : Host.Outcome State Fault Refusal :=
  .next (settle { s with cap := { s.cap with heat := s.cap.heat.map (fun x => (x.1, x.2 / 2)) } })

/-- The next candidate of the sweep (R188): a page whose run starts at or after the sweep's place, neither pinned nor under
repack, no hotter than the pass threshold, and not already chosen. -/
def State.candidate (s : State) : Option (Nat × PageEntry) :=
  (s.mem.pages.filter (fun x => x.2.run != 0 && !x.2.tier && !x.2.pinned && !x.2.repack && decide (s.cap.sweep ≤ x.2.parcel) &&
      decide (s.cap.heat.get x.1 0 ≤ s.rd TIE_STAT2_DEMOTH) &&
      !(s.work.any (fun w => w.page == x.1 && (match w.kind with | .migrate _ _ => true | _ => false))))).foldl
    (fun a x => match a with
      | some y => if x.2.parcel < y.2.parcel then some x else some y
      | none => some x) none

/-- A pass of the sweep ends (R188): no candidate at all raises the stall event; too little freed raises the threshold. -/
def passEnd (s : State) : State :=
  let s := if s.cap.passFound then s else raise 460 s
  let s := if s.cap.passFreed < gib (s.rd TIE_DWM_STOP - s.rd TIE_DWM_START) then
      s.wr TIE_STAT2_DEMOTH (min 255 (s.rd TIE_STAT2_DEMOTH + 1)) else s
  { s with cap := { s.cap with sweep := 0, passFreed := 0, passFound := false } }

/-- Demotion starts or stops by the DRAM free count (R188). -/
def demotionState (s : State) : State :=
  if s.cap.demoting then
    if gib (s.rd TIE_DWM_STOP) < s.cap.dram.free then
      { s.wr TIE_STAT2_DEMOTH (s.rd TIE_CFG_DEMO) with cap := { s.cap with demoting := false, sweep := 0, passFreed := 0, passFound := false } }
    else s
  else if s.cap.dram.free < gib (s.rd TIE_DWM_START) then
    { s.wr TIE_STAT2_DEMOTH (s.rd TIE_CFG_DEMO) with cap := { s.cap with demoting := true, sweep := 0, passFreed := 0, passFound := false } }
  else s

/-- A step of the demotion sweep: the next candidate is chosen, or the pass ends (R188). -/
def demotionSweep (s : State) : State :=
  if !s.part.persist || !s.serving || s.mode.stopStep ≠ 0 then s
  else
    let s := demotionState s
    if !s.cap.demoting then s
    else match s.candidate with
      | some (page, e) => addWork page 0 (.migrate false false)
          { s with cap := { s.cap with sweep := e.parcel + 1, passFound := true } }
      | none => passEnd s

/-- DEMOTION_SWEEP (R188). -/
def execDemotionSweep (s : State) : Host.Outcome State Fault Refusal := .next (settle (demotionSweep s))

/-! The journal. -/

/-- JOURNAL_CHECKPOINT (R70, R230): P-stream stripes with committed slots are padded and programmed first. -/
def journalCheckpoint (s : State) : State :=
  if s.stopped || s.modeCode == 6 then s
  else checkpoint (padStaged { s with mem := { s.mem with checkpointDue := true } })

/-- JOURNAL_CHECKPOINT (R70). -/
def execJournalCheckpoint (s : State) : Host.Outcome State Fault Refusal := .next (settle (journalCheckpoint s))

end Sys2Proof.Machine
end

