-- ==== Sys2Proof/Machine/DynCap.lean ====
section
/-! DEFINITION. Dynamic Capacity (R50 to R55, R469, R472): adding extents, their acceptance and release, and the lists the fabric
manager and the hosts read. -/
namespace Sys2Proof.Machine

/-- The record of an extent; one that is not listed is in the fabric manager's free pool. -/
def State.extent (s : State) (e : Nat) : Extent := s.mem.extents.get e ⟨0, 0, 0, 0, 0, 0, 0, false⟩

def setExtent (e : Nat) (x : Extent) (s : State) : State :=
  { s with mem := { s.mem with extents := s.mem.extents.put e x } }

/-- An extent may be added to some heads with a tag (R50, R53, R55): it lies in an elastic region that they all see; shared only
in HDM-DB, under one tag; not while its last release is running. -/
def State.addable (s : State) (heads : Heads) (tag e : Nat) : Bool :=
  match s.regionOf e with
  | none => false
  | some r =>
    let x := s.extent e
    let taken := x.accepted ||| x.offered
    r.elastic && heads != 0 && (heads &&& ~~~r.heads) == 0 && (taken &&& heads) == 0 && !x.clearing &&
      !(x.accepted == 0 && x.releasing != 0) && (x.releasing &&& heads) == 0 &&
      (if r.db then taken == 0 || x.tag == tag
       else taken == 0 && ((List.range 16).filter (fun h => heads.getLsbD h)).length == 1)

/-- INITIATE_DC_ADD (R50, R469). -/
def initiateAdd (rt : Route) (heads : Heads) (tag : Nat) (exts : List Nat) (s : State) : State :=
  mboxMgmt rt (fun s =>
    if !s.serving then refuse rt 5 s
    else if exts.isEmpty || !(exts.all (s.addable heads tag)) || !(exts.Nodup) then reply rt .invalidInput [] s
    else
      let s := forAll exts (fun e s => setExtent e { s.extent e with offered := (s.extent e).offered ||| heads, tag } s) s
      reply rt .success [] (forHeads heads (fun h s => dcSend h 1 exts s) s)) s

/-- INITIATE_DC_ADD: the fabric manager offers extents to heads under a tag. -/
def execInitiateDcAdd (rt : Route) (heads : BitVec 16) (tag : Nat) (exts : List Nat) (s : State) : Host.Outcome State Fault Refusal :=
  .next (settle (initiateAdd rt heads tag exts s))

/-- A head accepts an extent it was offered; the extent becomes live with its first acceptance, its charge head then the lowest
head that has accepted it (R52, R180). -/
def acceptExtent (h e : Nat) (s : State) : State :=
  let x := s.extent e
  let live := x.accepted != 0
  setExtent e { x with offered := x.offered &&& ~~~(headBit h), accepted := x.accepted ||| headBit h,
                       charge := if live then x.charge else h } s

/-- ADD_DC_RESPONSE (R50): the extents a head accepts; its other open offers are declined. -/
def addResponse (rt : Route) (exts : List Nat) (s : State) : State :=
  mboxHead rt (fun h s =>
    if !s.serving then refuse rt 5 s
    else if !(exts.all (fun e => (s.extent e).offered.getLsbD h)) || !(exts.Nodup) then reply rt .invalidInput [] s
    else
      let s := forAll exts (fun e s => acceptExtent h e s) s
      let ext := s.mem.extents.filterMap (fun (x : Nat × Extent) =>
        let y := { x.2 with offered := x.2.offered &&& ~~~(headBit h) }
        if y.offered == 0 && y.accepted == 0 && y.releasing == 0 && !y.clearing then none else some (x.1, y))
      reply rt .success [] { s with mem := { s.mem with extents := ext } }) s

/-- ADD_DC_RESPONSE (R50). -/
def execAddDcResponse (rt : Route) (exts : List Nat) (s : State) : Host.Outcome State Fault Refusal :=
  .next (settle (addResponse rt exts s))

/-- The lowest head of a set. -/
def lowestHead (m : Heads) : Option Nat := (List.range 16).find? (fun h => m.getLsbD h)

/-- Back-invalidate the lines of an extent that a head holds and that no snoop is out for (R53 step 2). -/
def releaseSnoops (h e : Nat) (s : State) : State :=
  let mine := s.home.filt.filter (fun x => lineExt x.1 == e && x.2.holders.getLsbD h && !x.2.held && (s.snoopOf h x.1).isNone)
  forAll (mine.map (fun x => lineSheet x.1)).dedup (fun sh s =>
    let ls := (mine.filter (fun x => lineSheet x.1 == sh)).map (·.1)
    if ls.length = 4 then sendSnoop h (4 * sh) true ls .inv (.release e) s
    else forAll ls (fun l s => sendSnoop h l false [l] .inv (.release e) s) s) s

/-- Step 1 of a release for one extent (R53, R180): the head's requests leave the view, the charge passes to the lowest head that
still holds it, and step 2 begins. -/
def releaseExtent (h e : Nat) (s : State) : State :=
  let x := s.extent e
  let left := x.accepted &&& ~~~(headBit h)
  let charge := if x.charge = h then (lowestHead left).getD h else x.charge
  releaseSnoops h e (setExtent e { x with accepted := left, requested := x.requested &&& ~~~(headBit h),
                                          releasing := x.releasing ||| headBit h, charge } s)

/-- RELEASE_DC_RESPONSE (R53). -/
def releaseResponse (rt : Route) (exts : List Nat) (s : State) : State :=
  mboxHead rt (fun h s =>
    if !s.serving then refuse rt 5 s
    else if !(exts.all (fun e => (s.extent e).accepted.getLsbD h)) || !(exts.Nodup) then reply rt .invalidInput [] s
    else reply rt .success [] (forAll exts (fun e s => releaseExtent h e s) s)) s

/-- RELEASE_DC_RESPONSE (R53 step 1). -/
def execReleaseDcResponse (rt : Route) (exts : List Nat) (s : State) : Host.Outcome State Fault Refusal :=
  .next (settle (releaseResponse rt exts s))

/-- The head still has something in the extent: a request accepted, a line held, an eviction under way. -/
def State.busyExtent (s : State) (h e : Nat) : Bool :=
  s.home.reqs.any (fun q => q.head == h && lineExt q.line == e) ||
    s.home.filt.any (fun x => lineExt x.1 == e && x.2.holders.getLsbD h) ||
    s.home.evt.any (fun t => lineExt t.line == e && t.holders.getLsbD h)

/-- Steps 2 to 4 of R53: once the head's lines are back-invalidated the release is complete, or the clearing of the extent
begins. -/
def releaseSnooped (h e : Nat) (s : State) : State :=
  let x := s.extent e
  if !(x.releasing.getLsbD h) then s
  else if s.busyExtent h e then releaseSnoops h e s
  else
    let left := x.releasing &&& ~~~(headBit h)
    setExtent e { x with releasing := left, clearing := x.accepted == 0 && left == 0 } s

/-- EXTENT_RELEASE_SNOOPED (R53). -/
def execExtentReleaseSnooped (h : Head) (ext : Nat) (s : State) : Host.Outcome State Fault Refusal :=
  .next (settle (releaseSnooped h ext s))

/-- A descriptor in progress touches a page that meets a test. The ranges of a descriptor are read from its bytes (R292): source,
destination and length. -/
def State.descTouches (s : State) (p : Nat → Bool) : Bool :=
  s.cou.rings.any (fun x => match x.2.desc with
    | some d =>
      !d.finished && (let len := fieldAt d.bytes 24 8
        let pages := fun (a : Nat) => match layoutFind (s.headRegions x.2.head) (a / 64) with
          | some (_, l) => (List.range (len / 4096 + 2)).any (fun i => p (linePage l + i))
          | none => false
        pages (fieldAt d.bytes 8 8) || pages (fieldAt d.bytes 16 8))
    | none => false)

/-- Page work under way on a page that meets a test. -/
def State.workTouches (s : State) (p : Nat → Bool) : Bool := s.work.any (fun w => p w.page && w.stage != .waiting)

/-- Drop everything the front cache and the queues hold of some pages (R53 step 4, R148 step 3): lines, buffered lines, fills,
waiting page work, queued promotions, locks. -/
def forgetPages (p : Nat → Bool) (s : State) : State :=
  let s := discardLines (fun l => p (linePage l)) true s
  { s with work := s.work.filter (fun w => !(p w.page))
           fc := { s.fc with fills := s.fc.fills.filter (fun f => !(p (sheetPage f.sheet)))
                             mops := s.fc.mops.map (fun m => { m with waits := m.waits.filter (fun l => !(p (linePage l))) }) }
           cap := { s.cap with promoQ := s.cap.promoQ.filter (fun q => !(p q)) }
           mem := { s.mem with backPoison := s.mem.backPoison.filter (fun l => !(p (linePage l))) } }

/-- Clear the entries of the pages that meet a test (R52, R58). -/
def clearPages (p : Nat → Bool) (s : State) : State :=
  forAll ((s.mem.pages.map (·.1)).filter p) clearPage s

/-- Steps 4 and 5 of R53. -/
def releaseCleared (e : Nat) (s : State) : State :=
  let mine := fun (page : Nat) => pageExt page == e
  if !(s.extent e).clearing || s.stopped || s.workTouches mine || s.descTouches mine then s
  else
    let s := clearPages mine (forgetPages mine s)
    raise 456 { s with mem := { s.mem with extents := s.mem.extents.del e } }

/-- EXTENT_RELEASE_CLEARED (R53). -/
def execExtentReleaseCleared (ext : Nat) (s : State) : Host.Outcome State Fault Refusal := .next (settle (releaseCleared ext s))

/-- INITIATE_DC_RELEASE (R50, R54, R469): the heads are asked; nothing is withdrawn. -/
def initiateRelease (rt : Route) (heads : Heads) (exts : List Nat) (s : State) : State :=
  mboxMgmt rt (fun s =>
    if !s.serving then refuse rt 5 s
    else if exts.isEmpty || !(exts.all (fun e => heads != 0 && (heads &&& ~~~((s.extent e).accepted)) == 0)) || !(exts.Nodup) then
      reply rt .invalidInput [] s
    else
      let s := forHeads heads (fun h s => dcSend h 2 exts (s.bump CAP_ED_RELREQ exts.length h)) s
      reply rt .success [] (forAll exts (fun e s =>
        setExtent e { s.extent e with requested := (s.extent e).requested ||| heads } s) s)) s

/-- INITIATE_DC_RELEASE (R469). -/
def execInitiateDcRelease (rt : Route) (heads : BitVec 16) (exts : List Nat) (s : State) : Host.Outcome State Fault Refusal :=
  .next (settle (initiateRelease rt heads exts s))

/-! Lists. -/

/-- The Dynamic Capacity regions of a head, in its order: region, first head line, size and block size in extents (R46, R50). -/
def State.dcRegions (s : State) (h : Nat) : List Nat :=
  ((s.headRegions h).filter (·.elastic)).flatMap (fun r => [r.n, s.headLine h (r.base * 4194304), r.size, 1])

/-- Extents that a head has accepted: head line and tag. -/
def State.dcExtents (s : State) (h : Nat) : List Nat :=
  (s.mem.extents.filter (fun x => x.2.accepted.getLsbD h)).flatMap (fun x => [s.headLine h (x.1 * 4194304), x.2.tag])

/-- GET_DC_REGION_CONFIG (R469): the fabric manager reads the Dynamic Capacity regions of a head. -/
def execGetDcRegionConfig (rt : Route) (h : Head) (s : State) : Host.Outcome State Fault Refusal :=
  .next (settle (mboxMgmt rt (fun s => reply rt .success (s.dcRegions h) s) s))

/-- GET_DC_REGION_EXTENT_LISTS (R469): the fabric manager reads the extents of a head, accepted and offered. -/
def execGetDcRegionExtentLists (rt : Route) (h : Head) (s : State) : Host.Outcome State Fault Refusal :=
  .next (settle (mboxMgmt rt (fun s => reply rt .success
    (s.dcExtents h ++ (s.mem.extents.filter (fun x => x.2.offered.getLsbD h)).flatMap (fun x =>
      [s.headLine h (x.1 * 4194304), x.2.tag])) s) s))

/-- GET_DC_CONFIGURATION (R472): a head's Dynamic Capacity regions. -/
def execGetDcConfiguration (rt : Route) (s : State) : Host.Outcome State Fault Refusal :=
  .next (settle (mboxHead rt (fun h s => reply rt .success (s.dcRegions h) s) s))

/-- GET_DC_EXTENT_LIST (R472): a head's accepted extents. -/
def execGetDcExtentList (rt : Route) (s : State) : Host.Outcome State Fault Refusal :=
  .next (settle (mboxHead rt (fun h s => reply rt .success (s.dcExtents h) s) s))

end Sys2Proof.Machine
end

