-- ==== Sys2Proof/Machine/Keys.lean ====
section
/-! DEFINITION. Key domains (R145 to R150, R159): provisioning with its wrapped blob, the erase of a domain, and the rights of
internal masters. -/
namespace Sys2Proof.Machine

/-! Checks shared by the commands of an owning head. -/

/-- The owner and session checks of R147: the head, or the refusal. -/
def ownerCheck (rt : Route) (d : Nat) (f : Nat → State → State) (s : State) : State :=
  mboxHead rt (fun h s =>
    if 4096 ≤ d then reply rt .invalidInput [] s
    else if s.rd MIL_KD_OWNER d ≠ h then refuse rt 2 s
    else if !(s.inSession rt) then refuse rt 3 s
    else f h s) s

/-- A protected write that LOGWP_N refuses before it is made (R147, R148). -/
def State.writeProtected (s : State) : Bool := !s.pins.logwpN

/-- PROVISION_KEY_DOMAIN (R147, R149). -/
def provision (rt : Route) (d : Nat) (secret : List Byte) (s : State) : State :=
  ownerCheck rt d (fun _ s =>
    if s.rd MIL_KD_STATE d = 1 then reply rt .invalidInput [] s
    else if s.rd MIL_KD_STATE d = 2 then reply rt .busy [] s
    else if secret.length ≠ 64 then reply rt .invalidInput [] s
    else if !(s.rdB MIL_KD_PERSIST d) then reply rt .success [] (loadKeys d secret s)
    else if s.writeProtected then refuse rt 1 s
    else match s.blobFree with
      | none => reply rt .internal [] s
      | some i =>
        let (res, s) := logWriteNow 3 (128 * i) (blobBytes d 1 (kwWrap (Config.derivedKey 0) secret)) s
        if res = 0 then reply rt .success [] (loadKeys d secret s)
        else if res = 1 then reply rt .busy [] s
        else if res = 2 then refuse rt 1 s
        else reply rt .internal [] s) s

/-- PROVISION_KEY_DOMAIN (R147). -/
def execProvisionKeyDomain (rt : Route) (dom : Nat) (secret : List Byte) (s : State) : Host.Outcome State Fault Refusal :=
  .next (settle (provision rt dom secret s))

/-- Step 1 of an erase (R148). -/
def eraseStart (rt : Route) (d : Nat) (s : State) : State :=
  ownerCheck rt d (fun _ s =>
    if s.rd MIL_KD_STATE d = 2 || s.bgBusy rt then reply rt .busy [] s
    else if s.rdB MIL_KD_PERSIST d && s.writeProtected then refuse rt 1 s
    else bgStart 0xC002 rt { s.wr MIL_KD_STATE 2 d with keys := { s.keys with erasing := s.keys.erasing ++ [(d, rt)] } }) s

/-- ERASE_KEY_DOMAIN (R148). -/
def execEraseKeyDomain (rt : Route) (dom : Nat) (s : State) : Host.Outcome State Fault Refusal :=
  .next (settle (eraseStart rt dom s))

/-- A page belongs to a key domain. -/
def State.inDomain (s : State) (d page : Nat) : Bool := match s.pageRegion page with | some r => r.keydom == d | none => false

/-- Back-invalidate the host copies of a domain (R148 step 3). -/
def eraseSnoops (d : Nat) (s : State) : State :=
  let mine := s.home.filt.filter (fun x => s.inDomain d (linePage x.1) && !x.2.held)
  forAll mine (fun x s => forHeads x.2.holders (fun h s =>
    if (s.snoopOf h x.1).isSome then s else sendSnoop h x.1 false [x.1] .inv (.erase d) s) s) s

/-- Erase the blob of a persistent domain (R148 step 5): whether it is gone, and the state. -/
def eraseBlob (d : Nat) (s : State) : Bool × State :=
  if !(s.rdB MIL_KD_PERSIST d) then (true, s)
  else match s.blobOf d with
    | none => (true, s)
    | some i =>
      let (res, s) := logWriteNow 3 (128 * i) (zeros 128) s
      (res == 0, s)

/-- Steps 2 to 5 of an erase (R148), as far as the work in progress lets them: while a request, a descriptor, a migration or a
repack of the domain is under way, or a host copy is not yet given up, they wait. -/
def eraseDrained (d : Nat) (s : State) : State :=
  match s.keys.erasing.find? (fun x => x.1 == d) with
  | none => s
  | some (_, rt) =>
    let mine := s.inDomain d
    if s.stopped || s.home.reqs.any (fun q => mine (linePage q.line)) || s.workTouches mine || s.descTouches mine then s
    else if s.home.filt.any (fun x => mine (linePage x.1)) || s.home.evt.any (fun t => mine (linePage t.line)) then eraseSnoops d s
    else
      let (gone, s) := eraseBlob d s
      if !gone then s
      else
        let s := clearPages mine (forgetPages mine s)
        let s := { s.wr MIL_KD_STATE 0 d with
          keys := { s.keys with slots := s.keys.slots.del d, erasing := s.keys.erasing.filter (fun x => x.1 ≠ d) } }
        bgEnd 0xC002 rt .success [] (raise 392 s)

/-- ERASE_DOMAIN_DRAINED (R148). -/
def execEraseDomainDrained (dom : Nat) (s : State) : Host.Outcome State Fault Refusal := .next (settle (eraseDrained dom s))

/-- The rights entry of a master and the values it may take (R158). -/
def State.rightsOf (s : State) (master : Nat) : Option (Fld × List Nat) :=
  let ft := s.modeCode == 0
  if 0x10 ≤ master ∧ master ≤ 0x1F then some (MIL_KD_COU, [0, 1, 2])
  else if master = 0x20 then some (MIL_KD_TIER, [1])
  else if master = 0x21 then some (MIL_KD_SCRUB, [0, 1])
  else if master = 0x30 then some (MIL_KD_CLKDBG, if ft then [0, 1, 2] else [0, 1])
  else if master = 0x31 then some (MIL_KD_JTAG, if ft then [0, 2] else [0])
  else none

/-- SET_MASTER_RIGHTS (R159). -/
def setRights (rt : Route) (d master value : Nat) (s : State) : State :=
  ownerCheck rt d (fun _ s =>
    match s.rightsOf master with
    | some (f, ok) => if ok.contains value then reply rt .success [] (s.wr f value d) else reply rt .invalidInput [] s
    | none => reply rt .invalidInput [] s) s

/-- SET_MASTER_RIGHTS (R159). -/
def execSetMasterRights (rt : Route) (dom master value : Nat) (s : State) : Host.Outcome State Fault Refusal :=
  .next (settle (setRights rt dom master value s))

end Sys2Proof.Machine
end

