-- ==== Sys2Proof/Machine/Dram.lean ====
section
/-! DEFINITION. The commands of the DRAM tier controllers (chapter 08): queues and scheduling, refresh, the row-disturbance
tally, retraining pauses, ECC, rows marked for repair, and the faults of a channel. -/
namespace Sys2Proof.Machine

/-! Arrival. -/

/-- The class code a command carries: 0 to 3 a class, 4 a prefetch at Overdraft (R109), others device work (R307). -/
def codeClass (c : Nat) : Option Cls := if c < 4 then some (clsOf c) else none

/-- The tier answers accesses: it is trained and not in self-refresh (R214). -/
def State.dramUp (s : State) : Bool := !s.dram.selfRefresh && s.modeCode != 1 && s.modeCode != 6

/-- An access of a source arrives at its channel (R198). The budgets of its head and class decide whether it runs at Overdraft:
a token for the access, and for a write the share of the write queue (R309, R312, R313). -/
def dramArrive (src addr h code : Nat) (write : Bool) (data : Line) (s : State) : State :=
  if !s.dramUp || s.part.dramParcels * 512 ≤ addr then s
  else
    let a0 := addr / 64 * 64
    let c := addrChannel s a0
    let id := s.dram.nextId
    let s := { s with dram := { s.dram with nextId := id + 1 } }
    let cls := codeClass code
    let tok : Bool × State := match cls with
      | some k => charge 0 h k s
      | none => (code == 4, s)
    let share := match cls with
      | some k =>
        let mine := ((s.writeQ c).filter (fun (b : DAcc) => b.head == h && b.cls == some k)).length
        write && decide (s.rd QOS_BUD_B_WQ (4 * h + k.code) ≤ mine)
      | none => false
    let s := if share then count 0x900 (some (h, 4)) c 1 (tok.2.bump QOS_DEM_DEM 1 h) else tok.2
    let a : DAcc := ⟨id, src, a0, h, cls, tok.1 || share, false, write, if write then data else 0, 0, false, false⟩
    if s.channelFenced c then
      if write then s
      else finishRead a 0 true s
    else if s.dram.held.any (fun b => b.src == src) then { s with dram := { s.dram with held := s.dram.held ++ [a] } }
    else enterQueue a s

/-- DRAM_READ (R198): source, DRAM-tier byte address, head and class code of the request. -/
def execDramRead (src addr : Nat) (h : Head) (code : Nat) (s : State) : Host.Outcome State Fault Refusal :=
  .next (settle (dramArrive src addr h code false 0 s))

/-- DRAM_WRITE (R198). -/
def execDramWrite (src addr : Nat) (h : Head) (code : Nat) (data : Line) (s : State) : Host.Outcome State Fault Refusal :=
  .next (settle (dramArrive src addr h code true data s))

/-! Issue. -/

/-- The arbitration level of an access (R200, R306): classes 0 to 3, Overdraft 4, or 3 once aged (R314); device work stands at Standard (R307). -/
def DAcc.level (a : DAcc) : Nat := if a.ovd then (if a.aged then 3 else 4) else match a.cls with | some c => c.code | none => 2

/-- The element of a list that comes first by a strict order, the earlier on a tie. -/
def firstBy {α : Type} (lt : α → α → Bool) : List α → Option α
  | [] => none
  | a :: l => match firstBy lt l with
    | none => some a
    | some b => if lt b a then some b else some a

/-- The bank and row of an access. -/
def bankOf (s : State) (a : DAcc) : Nat := (dramLoc s a.addr).bankId
def rowOf (s : State) (a : DAcc) : Nat := (dramLoc s a.addr).row

/-- An access to the row that is open in its bank. -/
def State.rowHit (s : State) (a : DAcc) : Bool := s.dram.openRow.find (bankOf s a) == some (rowOf s a)

/-- The choice within accesses of one level (R200): one passed over 16 times, else the oldest to an open row, else the oldest. -/
def chooseAcc (s : State) (l : List DAcc) : Option DAcc :=
  match l.find? (fun a => 16 ≤ a.passed) with
  | some a => some a
  | none => match l.find? s.rowHit with
    | some a => some a
    | none => l.head?

/-- The reads of a level. -/
def topLevel (l : List DAcc) : List DAcc :=
  match firstBy (fun a b => decide (a.level < b.level)) l with
  | some a => l.filter (fun b => b.level == a.level)
  | none => []

/-- The access a subchannel issues next (R199, R200). -/
def nextAccess (s : State) (u : Nat) : Option DAcc :=
  let c := u / 2
  let here := fun (a : DAcc) => (dramLoc s a.addr).unit == u
  let reads := (s.readQ c).filter here
  let writes := (s.writeQ c).filter here
  let express := reads.filter (fun a => a.level == 0)
  if s.rdB DRM_CH_DRAIN c then
    match chooseAcc s express with
    | some a => some a
    | none => match chooseAcc s writes with
      | some a => some a
      | none => chooseAcc s (topLevel reads)
  else match chooseAcc s (topLevel reads) with
    | some a => some a
    | none => chooseAcc s writes

/-- The tally of one activation (R203). -/
def tallyAct (bank row : Nat) (s : State) : State :=
  let t := s.dram.tally.get bank []
  let put := fun (t : List Tally) (s : State) => { s with dram := { s.dram with tally := s.dram.tally.put bank t } }
  let (t, n) : List Tally × Nat := match t.find? (fun e => e.row == row) with
    | some e => (t.map (fun x => if x.row = row then { x with count := x.count + 1 } else x), e.count + 1)
    | none =>
      if t.length < 32 then (t ++ [⟨row, 1⟩], 1)
      else match firstBy (fun a b => decide (a.count < b.count)) t with
        | some e =>
          let i := t.findIdx (fun x => x == e)
          (t.set i ⟨row, e.count + 1⟩, e.count + 1)
        | none => (t, 1)
  if s.rd DRM_CFG_NR_THRESH ≤ n then
    let t := t.map (fun x => if x.row = row then { x with count := 0 } else x)
    let s := put t s
    { s with dram := { s.dram with neigh := s.dram.neigh ++ [(bank, row)] } }
  else put t s

/-- A row is opened, which is an activation unless it is open already. -/
def openRow (bank row : Nat) (s : State) : State :=
  if s.dram.openRow.find bank = some row then s
  else tallyAct bank row { s with dram := { s.dram with openRow := s.dram.openRow.put bank row } }

/-- A neighbour refresh is issued (R204): rows r − 2, r − 1, r + 1, r + 2 that exist are activated and precharged. -/
def neighbourRefresh (bank row : Nat) (s : State) : State :=
  let rows := ((if 2 ≤ row then [row - 2] else []) ++ (if 1 ≤ row then [row - 1] else []) ++ [row + 1, row + 2]).filter (· < 262144)
  let s := { s with dram := { s.dram with neigh := s.dram.neigh.erase (bank, row), openRow := s.dram.openRow.del bank } }
  forAll rows (fun r s => tallyAct bank r s) (count 0x520 none (bank / 128) 1 (s.bump DRM_CH_NR_NREF 1 (bank / 128)))

/-- Every neighbour refresh that is queued for a subchannel is issued. -/
def neighboursOf (u : Nat) (s : State) : State :=
  forAll (s.dram.neigh.filter (fun x => x.1 / 64 == u)) (fun x s => neighbourRefresh x.1 x.2 s) s

/-- A read or a write leaves its queue for the devices (R199 to R201). -/
def issueAccess (a : DAcc) (s : State) : State :=
  let c := addrChannel s a.addr
  let s := openRow (bankOf s a) (rowOf s a) s
  let s := { s with dram := { s.dram with retries := s.dram.retries.del c } }
  let s := if a.write then
      drainMode c (setWriteQ c ((s.writeQ c).filter (fun b => b.id ≠ a.id)) (storeBytes a.addr (lineBytes a.data) s))
    else
      let older := fun (b : DAcc) => decide (b.id < a.id) && b.level == a.level && (dramLoc s b.addr).unit == (dramLoc s a.addr).unit
      let q := ((s.readQ c).filter (fun b => b.id ≠ a.id)).map (fun b => if older b then { b with passed := b.passed + 1 } else b)
      let s := setReadQ c q s
      match (s.writeQ c).find? (fun b => b.addr == a.addr) with
      | some b => finishRead a b.data false (s.bump DRM_CH_NR_FWD 1 c)
      | none => { s with dram := { s.dram with issued := s.dram.issued ++ [a] } }
  releaseAccesses s

/-- A Fatal fault of a channel (R212). -/
def channelFault (c : Nat) (s : State) : State := fault 3 c 2 (512 + 8 * c + 5) c 0 s

/-- DRAM_ACCESS_ISSUE on a subchannel: neighbour refreshes first, then the access chosen. With a command/address parity error the
command is retried; the error of the third retry is a Fatal fault of the channel (R204, R212). -/
def accessIssue (u : Nat) (parity : Bool) (s : State) : State :=
  let c := u / 2
  if s.stopped || !s.dramUp || !(s.channelOn c) || s.channelFenced c || s.dram.paused.contains u then s
  else match s.dram.neigh.find? (fun x => x.1 / 64 == u) with
    | some (bank, row) => neighbourRefresh bank row s
    | none => match nextAccess s u with
      | none => s
      | some a =>
        if parity then
          let n := s.dram.retries.get c 0 + 1
          if 4 ≤ n then channelFault c { s with dram := { s.dram with retries := s.dram.retries.del c } }
          else { s with dram := { s.dram with retries := s.dram.retries.put c n } }
        else issueAccess a (if a.write then s else count 0x500 (a.cls.map (fun k => (a.head, clsBit k a.ovd))) c 1 s)

/-- DRAM_ACCESS_ISSUE (R200). -/
def execDramAccessIssue (unit : Nat) (parity : Bool) (s : State) : Host.Outcome State Fault Refusal :=
  .next (settle (accessIssue unit parity s))

/-! ECC. -/

/-- Mark a row for repair (R210). -/
def markRow (rowId : Nat) (s : State) : State :=
  if s.dram.marked.contains rowId then s
  else
    let c := rowId / 262144 / 128
    let ps := (rowParcels s rowId).filter (fun p => p < s.dramDataTop)
    let free := (ps.filter (fun p => s.pstate p == .free)).length
    let s := { s with dram := { s.dram with marked := s.dram.marked ++ [rowId] } }
    let s := (s.bump DRM_CH_ECC_MARKED 1 c).bump DRM_PPR_PENDING 1
    let s := quarantine false free (fun p => ps.contains p) s
    mapRecord 1 rowId (raise (512 + 8 * c + 2) s)

/-- The sheets of written pages whose stored bytes take in a block. -/
def State.sheetsAt (s : State) (block : Nat) : List Nat :=
  s.mem.pages.flatMap (fun x =>
    let e := x.2
    if e.run != 0 && decide (e.parcel ≤ block / 8) && decide (block / 8 < e.parcel + e.run) then
      match s.pageRegion x.1 with
      | some r => ((List.range 16).filter (fun i => storedCode (e.code i) &&
          (blocksOf (e.parcel * 512 + sheetOffset r.opq e i) (sheetLen r.opq (e.code i))).contains block)).map (16 * x.1 + ·)
      | none => []
    else [])

/-- An uncorrectable access (R209, R210, R212). -/
def accessLost (a : DAcc) (s : State) : State :=
  let l := dramLoc s a.addr
  let c := l.unit / 2
  let s := ((((s.bump DRM_CH_ECC_UE 1 c).wr DRM_UE_VALID 1 c).wr DRM_UE_SUBCH (l.unit % 2) c).wr DRM_UE_RANK l.rank c).wr DRM_UE_BG l.bg c
  let s := (((s.wr DRM_UE_BANK l.bank c).wr DRM_UE_ROW l.row c).wr DRM_UE_COL l.col c).wr DRM_UE_SRC a.src c
  let s := raise (512 + 8 * c) s
  let b := a.addr / 64
  let s := { s with mem := { s.mem with lost := b :: s.mem.lost.filter (· ≠ b) } }
  let s := forAll (s.sheetsAt b) (fun sh s => recordSheet sh 1 s) s
  let s := markRow l.rowId s
  let s := fault 3 c 1 (512 + 8 * c) a.addr a.src s
  let now := s.standbyNs
  let recent := (s.dram.ueRecent.get c []).filter (fun t => now < t + 1000000000) ++ [now]
  let s := { s with dram := { s.dram with ueRecent := s.dram.ueRecent.put c recent } }
  let s := finishRead a 0 true s
  if 64 ≤ recent.length && !(s.channelFenced c) then channelFault c s else s

/-- A corrected access (R208, R210): returned, written back at the next drain, counted for its rank and its row. -/
def accessCorrected (a : DAcc) (data : Line) (s : State) : State :=
  let l := dramLoc s a.addr
  let c := l.unit / 2
  let (_, s) := bucketAdd (l.unit * 2 + l.rank) (s.bump DRM_CH_ECC_CE 1 c)
  let s := finishRead a data false s
  let s := if (s.writeQ c).any (fun b => b.addr == a.addr) || s.channelFenced c then s
    else
      let id := s.dram.nextId
      enterQueue ⟨id, a.src, a.addr, 0, none, false, false, true, data, 0, false, false⟩ { s with dram := { s.dram with nextId := id + 1 } }
  let n := s.dram.ceRow.get l.rowId 0 + 1
  let s := { s with dram := { s.dram with ceRow := s.dram.ceRow.put l.rowId n } }
  if s.rd DRM_CFG_CE_ROW ≤ n then markRow l.rowId s else s

/-- A read comes back through the decoder (R207): `res` is 0 without error, 1 corrected, 2 uncorrectable. A block that is already
lost stays so. -/
def accessComplete (id res : Nat) (s : State) : State :=
  match s.dram.issued.find? (fun a => a.id == id && !a.done) with
  | none => s
  | some a =>
    let data := bytesLine (readBytes s.mem.store a.addr 64)
    if res = 2 ∨ s.mem.lost.contains (a.addr / 64) then accessLost a s
    else if res = 1 then accessCorrected a data s
    else finishRead a data false s

/-- DRAM_ACCESS_COMPLETE (R207). -/
def execDramAccessComplete (id res : Nat) (s : State) : Host.Outcome State Fault Refusal := .next (settle (accessComplete id res s))

/-! Refresh, tally windows, retraining. -/

/-- A refresh of a bank is issued; it closes the bank's row. -/
def refreshBank (bank : Nat) (s : State) : State :=
  { s with dram := { s.dram with postponed := s.dram.postponed.del bank, openRow := s.dram.openRow.del bank } }

/-- A same-bank refresh falls due (R202, R205): postponed, up to four times, behind a queued Express read; and until the end of a
retraining pause. -/
def refreshDue (bank : Nat) (s : State) : State :=
  let u := bank / 64
  if !s.dramUp || s.channelFenced (u / 2) then s
  else
    let n := s.dram.postponed.get bank 0
    let express := (s.readQ (u / 2)).any (fun a => bankOf s a == bank && a.level == 0)
    if s.dram.paused.contains u || (express && n < 4) then { s with dram := { s.dram with postponed := s.dram.postponed.put bank (n + 1) } }
    else refreshBank bank s

/-- DRAM_REFRESH_DUE (R202). -/
def execDramRefreshDue (bank : Nat) (s : State) : Host.Outcome State Fault Refusal := .next (settle (refreshDue bank s))

/-- TALLY_WINDOW_CLEAR (R204): the tables of a rank, numbered unit × 2 + rank. -/
def execTallyWindowClear (rank : Nat) (s : State) : Host.Outcome State Fault Refusal :=
  .next (settle { s with dram := { s.dram with tally := s.dram.tally.filter (fun x => x.1 / 32 ≠ rank) } })

/-- A subchannel's retraining pause falls due (R205, R215): skipped while the Tailrace runs; queued neighbour refreshes first. -/
def pauseStart (u : Nat) (s : State) : State :=
  let c := u / 2
  let m := s.modeCode
  if !(m == 3 || m == 4 || m == 5) || !s.dramUp || s.mode.stopStep != 0 || !(s.channelOn c) || s.dram.paused.contains u then s
  else
    let s := s.wr DRM_RTS_NEXT ((u + 1) % (2 * s.part.channels))
    if s.channelFenced c then s
    else if s.rdB TLR_STAT_ACTIVE then s.bump DRM_CH_RT_SKIPS 1 c
    else
      let s := neighboursOf u s
      { s with dram := { s.dram with paused := s.dram.paused ++ [u] } }

/-- RETRAINING_PAUSE_START (R205). -/
def execRetrainingPauseStart (unit : Nat) (s : State) : Host.Outcome State Fault Refusal := .next (settle (pauseStart unit s))

/-- A retraining pause ends (R205, R206) with the smallest lane margin measured, or with no passing setting for some lane. -/
def pauseEnd (u : Nat) (margin : Option Nat) (s : State) : State :=
  let c := u / 2
  if !(s.dram.paused.contains u) then s
  else
    let s := { s with dram := { s.dram with paused := s.dram.paused.filter (· ≠ u) } }
    let s := forAll ((s.dram.postponed.filter (fun x => x.1 / 64 == u)).map (·.1)) refreshBank s
    let s := s.bump DRM_CH_RT_DONE 1 c
    let (rtf, marg) := if u % 2 = 0 then (DRM_CH_RTF0, DRM_CH_RT_MARG0) else (DRM_CH_RTF1, DRM_CH_RT_MARG1)
    match margin with
    | some m =>
      let s := { (s.wr rtf 0 c).wr marg m c with dram := { s.dram with failRun := s.dram.failRun.del u } }
      if m < s.rd DRM_CFG_MARGIN then raise (512 + 8 * c + 3) s else s
    | none =>
      let n := s.dram.failRun.get u 0 + 1
      let s := raise (512 + 8 * c + 4) ((s.wr rtf 1 c).bump DRM_CH_RT_FAILS 1 c)
      let s := { s with dram := { s.dram with failRun := s.dram.failRun.put u n } }
      if 2 ≤ n then channelFault c s else s

/-- RETRAINING_PAUSE_END (R206). -/
def execRetrainingPauseEnd (unit : Nat) (margin : Option Nat) (s : State) : Host.Outcome State Fault Refusal :=
  .next (settle (pauseEnd unit margin s))

/-- DRAM_PHY_LOCK_LOSS (R212). -/
def execDramPhyLockLoss (c : Nat) (s : State) : Host.Outcome State Fault Refusal :=
  .next (settle (if s.channelOn c && !(s.channelFenced c) && s.dramUp then channelFault c s else s))

end Sys2Proof.Machine
end

