-- ==== Sys2Proof/Machine/MediaHealth.lean ====
section
/-! DEFINITION. Media health (chapter 10): read references and the ladder (R242 to R249), the failure of a die and its rebuild
(R250 to R255), and the commands of sector reads. -/
namespace Sys2Proof.Machine

/-- The logical die of a media parcel (R219). -/
def parcelDie (p : Nat) : Nat := (bits p 5 29 + bits p 0 5) % 33

/-- The reference step change of a ladder step (R244): +1, −1, +2, −2, +3, −3 times STEP at steps 2 to 7. -/
def ladderStep (step : Nat) (size : Nat) : Int :=
  if step ≤ 1 ∨ 7 < step then 0 else (if step % 2 = 0 then ((step / 2 : Nat) : Int) else -((step / 2 : Nat) : Int)) * size

/-- The sensing reference of a sector read (R242, R244). -/
def State.reference (s : State) (k g d step : Nat) : Int :=
  signed8 (s.rd MED_DIE_TRIM (dieId k d)) + signed8 (s.rd MED_DRIFT_OFS (s.ageBucket (s.rd MED_AGE_NOW - (s.seg k g).born))) +
    ladderStep step (s.rd MED_HLTH_STEP)

/-- A die has failed. -/
def State.dieFailed (s : State) (k d : Nat) : Bool := s.media.failed.contains (k, d)

/-- The die that holds a sector: its own, or the donor die its block was remapped to (R252). -/
def State.holdingDie (s : State) (p : Nat) : Nat :=
  match s.media.remap.find (Nat.pair (parcelStack p * 2097152 + parcelSeg p) (parcelDie p)) with
  | some v => v % 64
  | none => parcelDie p

/-! Die failure. -/

/-- Donor segments a stack needs for f failed dies (R251). -/
def State.donorNeed (s : State) (k f : Nat) : Nat :=
  let ns := 2097152 - s.spareAll k - s.listedIn k .retired
  (ns * f + (33 - f) - 1) / (33 - f)

/-- Insert a segment in descending WEAR, ties to the lower number. -/
def insertWear (x : Nat × Seg) : List (Nat × Seg) → List (Nat × Seg)
  | [] => [x]
  | y :: l => if y.2.wear < x.2.wear then x :: y :: l else y :: insertWear x l

/-- The held spares in descending WEAR (R251). -/
def State.heldSpares (s : State) (k : Nat) : List Nat :=
  let listed := ((s.segsOf k).filter (fun x => x.1 < dataSegs && x.2.state == .spare && !((s.donorsOf k).contains x.1))).foldl
    (fun l x => insertWear x l) []
  let known := (s.segsOf k).map (·.1)
  listed.map (·.1) ++ ((List.range (dataSegs - s.spareBound k)).map (s.spareBound k + ·)).filter
    (fun g => !(known.contains g) && !((s.donorsOf k).contains g))

/-- A segment still holds a stripe whose sector on a failed die is not remapped (R253): listed, in use. -/
def Seg.inUse (e : Seg) : Bool := e.state == .open_ || e.state == .closed || e.state == .reclaiming

/-- A die failure (R250, R251, R253 to R255): accepted with its donors and its rebuild, or a Fatal fault of the stack. -/
def failDie (k d : Nat) (s : State) : State :=
  if s.dieFailed k d || !(s.stackActive k) || 33 ≤ d then s
  else
    let f := (s.failedDies k).length + 1
    let need := s.donorNeed k f
    let have_ := (s.donorsOf k).length
    if s.rdB MED_HSTK_REBUILD k || 4 < f || have_ + s.spareCount k < need then
      fault 4 k 2 (640 + 8 * k + 2) d f s
    else
      let s := mapRecord 5 (k * 2 ^ 32 + need) (mapRecord 4 (dieId k d) s)
      let more := (s.heldSpares k).take (need - have_)
      let s := { s with media := { s.media with
        failed := s.media.failed ++ [(k, d)], donors := s.media.donors.put k (s.donorsOf k ++ more)
        reads := s.media.reads.map (fun (r : SectorRead) => if parcelStack r.parcel = k ∧ r.die = d then { r with step := 8 } else r) } }
      let s := ((s.wr MED_DIE_STATE 1 (dieId k d)).wr MED_HSTK_FAILED f k).wr MED_HSTK_DONOR (s.donorsOf k).length k
      let s := (s.wr MED_HSTK_REBUILD 1 k).wr MED_HSTK_RBDIE d k
      let victims := ((s.segsOf k).filter (fun x => x.1 < dataSegs && x.2.inUse)).map (·.1)
      let s := { s with media := { s.media with rebuildLeft := s.media.rebuildLeft.put k victims } }
      let s := s.wr MED_HSTK_RBLEFT victims.length k
      raise (640 + 8 * k + 2) (forAll [0, 1, 2] (fun st s => closeStream k st s) s)

/-- The rebuild of a stack ends when no victim is left (R253). -/
def rebuildCheck (k : Nat) (s : State) : State :=
  if s.rdB MED_HSTK_REBUILD k && (s.media.rebuildLeft.get k []).isEmpty then
    let d := s.rd MED_HSTK_RBDIE k
    raise (640 + 8 * k + 3) (((s.wr MED_HSTK_REBUILD 0 k).wr MED_HSTK_RBDIE 0x3F k).wr MED_DIE_STATE 2 (dieId k d))
  else s

/-- A segment is no longer a rebuild victim. -/
def rebuildDone1 (k g : Nat) (s : State) : State :=
  let left := (s.media.rebuildLeft.get k []).filter (· ≠ g)
  rebuildCheck k ({ s with media := { s.media with rebuildLeft := s.media.rebuildLeft.put k left } }.wr MED_HSTK_RBLEFT left.length k)

/-- A counted error of a die (R248, R250): an overflow of its bucket counts, and OVFMAX of them fail the die. Reads of a failed
die add nothing. -/
def dieError (k d : Nat) (s : State) : State :=
  if s.dieFailed k d then s
  else
    let (ovf, s) := bucketAdd (64 + dieId k d) s
    if !ovf then s
    else
      let s := s.bump MED_DIE_OVF 1 (dieId k d)
      if s.rd MED_HLTH_OVFMAX ≤ s.rd MED_DIE_OVF (dieId k d) then failDie k d s else s

/-! Sector reads. -/

/-- A segment enters the early-refresh queue of its stack (R249). -/
def earlyRefresh (k g : Nat) (s : State) : State :=
  let q := s.media.erq.get k []
  if q.contains g then s
  else if q.length < 256 then { s with media := { s.media with erq := s.media.erq.put k (q ++ [g]) } }
  else s.bump MED_HSTK2_ERDROP 1 k

/-- A read in progress changed or ended. -/
def setRead (p : Nat) (r : Option SectorRead) (s : State) : State :=
  { s with media := { s.media with reads := s.media.reads.filterMap (fun x => if x.parcel = p then r else some x) } }

/-- A step of a read begins: the die is read at its reference (R242, R244), or the stripe is read for reconstruction. -/
def readStep (r : SectorRead) (s : State) : State :=
  let k := parcelStack r.parcel
  if r.step = 8 then s.emit (.xfer 4 [k, r.parcel])
  else s.emit (.xfer 3 [k, r.die, r.parcel, (BitVec.ofInt 16 (s.reference k (parcelSeg r.parcel) r.die r.step)).toNat])

/-- The stripe of a parcel is on the dies: no slot of the staging area or of the stripe buffers still holds the parcel (R230). -/
def State.onDies (s : State) (p : Nat) : Bool :=
  !(s.media.slots.any (fun x => x.left != 0 && decide (x.parcel ≤ p) && decide (p < x.parcel + x.need)))

/-- MEDIA_SECTOR_READ (R244 step 1): a read of a sector on a failed die goes straight to reconstruction. -/
def sectorRead (p : Nat) (s : State) : State :=
  if !(parcelMedia p) || !(s.stackActive (parcelStack p)) || s.modeCode == 6 || s.media.reads.any (fun r => r.parcel == p) then s
  else if !(s.onDies p) then s.emit (.xfer 5 [p])
  else
    let d := s.holdingDie p
    let r : SectorRead := ⟨p, d, if s.dieFailed (parcelStack p) d then 8 else 1⟩
    readStep r (count 0x600 none (parcelStack p) 1 { s with media := { s.media with reads := s.media.reads ++ [r] } })

/-- MEDIA_SECTOR_READ (R244). -/
def execMediaSectorRead (parcel : Nat) (s : State) : Host.Outcome State Fault Refusal := .next (settle (sectorRead parcel s))

/-- An uncorrectable sector (R247): its parcel's sheets are storage-uncorrectable. -/
def sectorLost (p : Nat) (s : State) : State :=
  let k := parcelStack p
  let blocks := (List.range 8).map (8 * p + ·)
  let s := raise (640 + 8 * k) (s.bump MED_HSTK2_POISON 1 k)
  let s := noteRec (640 + 8 * k) p (parcelDie p) s
  if s.mem.pages.any (fun x => x.2.run != 0 && decide (x.2.parcel ≤ p) && decide (p < x.2.parcel + x.2.run)) then
    let s := { s with mem := { s.mem with lost := blocks ++ s.mem.lost.filter (fun b => !(blocks.contains b)) } }
    let s := forAll (blocks.flatMap s.sheetsAt).dedup (fun sh s => recordSheet sh 2 s) s
    fault 4 k 1 (640 + 8 * k) p 0 s
  else s

/-- A read's next step (R244). -/
def nextStep (r : SectorRead) (s : State) : State :=
  let r' := { r with step := r.step + 1 }
  readStep r' (count 0x610 none (parcelStack r.parcel) 1 (setRead r.parcel (some r') s))

/-- The sector's data is at hand. -/
def readDone (r : SectorRead) (s : State) : State := (setRead r.parcel none s).emit (.xfer 5 [r.parcel])

/-- A successful reconstruction (R246, R248 to R250). -/
def reconstructed (r : SectorRead) (s : State) : State :=
  let k := parcelStack r.parcel
  let s := s.bump MED_HSTK2_RECON 1 k
  let s := earlyRefresh k (parcelSeg r.parcel) (readDone r s)
  if s.dieFailed k r.die then s
  else
    let n := s.media.hourRecon.get (dieId k r.die) 0 + 1
    let s := { s.bump MED_DIE_RECON 1 (dieId k r.die) with media := { s.media with hourRecon := s.media.hourRecon.put (dieId k r.die) n } }
    let s := dieError k r.die s
    if s.rd MED_HLTH_DIEUE < n then failDie k r.die s else s

/-- Sector data arrives (R244, R246 to R249): `bits` is the number of bits corrected, or none where the decode fails; at step 8
some value means that the reconstruction succeeded. -/
def dataArrival (p : Nat) (nb : Option Nat) (s : State) : State :=
  match s.media.reads.find? (fun r => r.parcel == p) with
  | none => s
  | some r =>
    let k := parcelStack p
    let s := if r.step = 8 then s else { s with media := { s.media with timeouts := s.media.timeouts.del (dieId k r.die) } }
    match nb with
    | none => if r.step = 8 then sectorLost p (setRead p none s) else nextStep r s
    | some n =>
      if r.step = 8 then reconstructed r s
      else
        let s := readDone r s
        let s := if s.rd MED_HLTH_ERSTEP + 1 ≤ r.step then earlyRefresh k (parcelSeg p) s else s
        if 1 < r.step then dieError k r.die (s.bump MED_DIE_LADDER 1 (dieId k r.die))
        else if s.rd MED_HLTH_CBITS < n then dieError k r.die s
        else s

/-- SECTOR_DATA_ARRIVAL (R244). -/
def execSectorDataArrival (parcel : Nat) (nb : Option Nat) (s : State) : Host.Outcome State Fault Refusal :=
  .next (settle (dataArrival parcel nb s))

/-- The hub read timer of a read expires (R245): its step fails, and 16 in a row fail the die. -/
def hubTimeout (p : Nat) (s : State) : State :=
  match s.media.reads.find? (fun r => r.parcel == p) with
  | none => s
  | some r =>
    let k := parcelStack p
    if r.step = 8 then s
    else
      let n := s.media.timeouts.get (dieId k r.die) 0 + 1
      let s := { s with media := { s.media with timeouts := s.media.timeouts.put (dieId k r.die) n } }
      let s := dieError k r.die (nextStep r s)
      if 16 ≤ n then failDie k r.die { s with media := { s.media with timeouts := s.media.timeouts.del (dieId k r.die) } } else s

/-- HUB_READ_TIMEOUT (R245). -/
def execHubReadTimeout (parcel : Nat) (s : State) : Host.Outcome State Fault Refusal := .next (settle (hubTimeout parcel s))

/-- HUB_DIE_FAULT_REPORT (R250). -/
def execHubDieFaultReport (k d : Nat) (s : State) : Host.Outcome State Fault Refusal :=
  .next (settle (if s.modeCode == 6 then s else failDie k d s))

end Sys2Proof.Machine
end

