-- ==== Sys2Proof/Machine/MediaWrite.lean ====
section
/-! DEFINITION. The media write path (chapter 09): pad timeouts, the closing of aged segments, stripes verified or failed,
reclaim, and the media clock. -/
namespace Sys2Proof.Machine

/-! Stripes. -/

/-- PADTO after its first slot, an R- or V-stream stripe is padded and programmed (R226). -/
def padTimeout (k stream : Nat) (s : State) : State :=
  if s.stopped || s.modeCode == 6 then s else if stream = 1 ∨ stream = 2 then padStream k stream s else s

/-- STRIPE_PAD_TIMEOUT (R226). -/
def execStripePadTimeout (k stream : Nat) (s : State) : Host.Outcome State Fault Refusal := .next (settle (padTimeout k stream s))

/-- An open segment whose age reaches half the refresh age is closed (R226). Its age runs from its first programmed stripe. -/
def ageClose (k stream : Nat) (s : State) : State :=
  match s.openStripe k stream with
  | none => s
  | some t =>
    let e := s.seg k t.seg
    if !s.stopped && t.stripe != 0 && decide (s.rd MED_AGE_REFRESH ≤ 2 * (s.rd MED_AGE_NOW - e.born)) then closeStream k stream s else s

/-- SEGMENT_AGE_CLOSE (R226). -/
def execSegmentAgeClose (k stream : Nat) (s : State) : Host.Outcome State Fault Refusal := .next (settle (ageClose k stream s))

/-- The stripe slots that hold data. -/
def Stripe.filled (t : Stripe) (s : State) : List Nat := t.slots.filter (fun i => s.media.slots.any (fun x => x.id == i))

/-- A segment whose last stripe is out of the way is closed (R224). -/
def closeCheck (k g : Nat) (s : State) : State :=
  if s.media.stripes.any (fun t => t.stack == k && t.seg == g) then s
  else
    let e := s.seg k g
    if e.state == .open_ then setSeg k g { e with state := .closed } s else s

/-- A relocation whose target is verified commits (R235, R249). -/
def commitRelocations (s : State) : State :=
  forAll (s.work.filter (fun w => w.stage == .ready && (match w.kind with | .relocate _ => true | _ => false))) (fun w s =>
    if s.verified w then commitMove w s else s) s

/-- A stripe verified on all 33 sectors (R229 step 6, R230): WRITTEN, BORN, the slots, the journal, the commits that waited. -/
def stripeVerified (t : Stripe) (s : State) : State :=
  let k := t.stack
  let filled := t.filled s
  let e := s.seg k t.seg
  let s := setSeg k t.seg { e with written := e.written + filled.length,
                                   born := if t.stripe = 0 then s.rd MED_AGE_NOW else e.born } s
  let isNew := fun (i : Nat) => match s.media.slots.find? (fun x => x.id == i) with
    | some x => x.stream == 0 || s.work.any (fun w => w.id == x.work && (match w.kind with | .migrate _ _ => true | _ => false))
    | none => false
  let pads := 32 - filled.length + (if t.final then (255 - t.stripe) * 32 else 0)
  let s := ((s.bump MED_STK_PRG_NEWP (filled.filter isNew).length k).bump MED_STK_PRG_RELP
    (filled.filter (fun i => !(isNew i))).length k).bump MED_STK_PAD_PAD pads k
  let s := setStripes (s.media.stripes.filter (fun u => !(sameStripe u t))) s
  let s := { s with media := { s.media with slots := s.media.slots.map (fun (x : Slot) =>
    { x with left := x.left - (filled.filter (· = x.id)).length }) } }
  let s := closeCheck k t.seg s
  checkpoint (journalWrite (commitRelocations (releaseSlots s)))

/-- Page work whose target stripe failed begins again, its own copy the source (R233). -/
def restartWork (w : Work) (s : State) : State :=
  let s := undoWork w s
  modWork w.id (fun w => { w with
    kind := (match w.kind with | .promote wb => .writeBack wb | k => k), stage := .waiting, parcel := 0, need := 0
    image := (match w.kind with | .relocate _ => w.image | _ => []), slots := [] }) s

/-- A programme failure of a stripe with its failing sector on a die (R233, R250). -/
def stripeFailed (t : Stripe) (d : Nat) (s : State) : State :=
  let k := t.stack
  let mine := s.media.slots.filter (fun x => t.slots.contains x.id)
  let s := raise (640 + 8 * k + 4) (s.bump MED_STK_PAD_PFAIL 1 k)
  let s := setStripes (s.media.stripes.filter (fun u => !(sameStripe u t))) s
  let s := forAll (mine.filter (fun x => x.committed && x.stream == 0)) (fun x s =>
    { s with work := s.work ++ [⟨s.nextWork, x.page, 0, .relocate 16, .waiting, 0, 0, .none, x.image, [], 0⟩]
             nextWork := s.nextWork + 1 }) s
  let s := forAll (s.work.filter (fun w => w.stage == .ready && w.slots.any (fun i => mine.any (fun x => x.id == i && !x.committed))))
    restartWork s
  let s := setSeg k t.seg { s.seg k t.seg with pfail := true } s
  let s := forAll [0, 1, 2] (fun st s => match s.openStripe k st with
    | some u => if u.seg = t.seg then closeStream k st s else s
    | none => s) s
  let s := closeCheck k t.seg s
  let now := s.rd MED_AGE_NOW
  let days := (s.media.pfDay.get (dieId k d) []).filter (fun h => now < h + 24) ++ [now]
  let s := { s with media := { s.media with pfDay := s.media.pfDay.put (dieId k d) days } }
  let s := dieError k d (s.wr MED_DIE_PFCNT (min 15 days.length) (dieId k d))
  if s.rd MED_HLTH_PFMAX ≤ days.length then failDie k d s else s

/-- The programme of a stripe ends: verified, or failed on a die (R229, R233). -/
def stripeEnd (k g stripe : Nat) (bad : Option Nat) (s : State) : State :=
  match s.media.stripes.find? (fun t => t.stack == k && t.seg == g && t.stripe == stripe && t.programming) with
  | none => s
  | some t => match bad with
    | none => stripeVerified t s
    | some d => stripeFailed t d s

/-! Reclaim. -/

/-- The relocations of a segment's pages that are not finished. -/
def State.segWork (s : State) (k g : Nat) : Bool :=
  s.work.any (fun w => (match w.kind with | .relocate j => j == k | _ => false) &&
    (let e := s.entry w.page; e.tier && e.run != 0 && parcelStack e.parcel == k && parcelSeg e.parcel == g))

/-- The pages whose entries name runs in a segment, in ascending parcel address. -/
def State.segPages (s : State) (k g : Nat) : List Nat :=
  ((s.mem.pages.filter (fun x => x.2.tier && x.2.run != 0 && parcelStack x.2.parcel == k && parcelSeg x.2.parcel == g)).mergeSort
    (fun a b => a.2.parcel ≤ b.2.parcel)).map (·.1)

/-- Queue the relocation of the pages of a segment that is not yet queued (R235 step 2). -/
def queueRelocations (k g : Nat) (s : State) : State :=
  forAll (s.segPages k g) (fun p s =>
    if s.work.any (fun w => w.page == p && w.kind == .relocate k) then s else addWork p 0 (.relocate k) s) s

/-- Closed data segments of a stack. -/
def State.closedSegs (s : State) (k : Nat) : List (Nat × Seg) := (s.segsOf k).filter (fun x => x.1 < dataSegs && x.2.state == .closed)

/-- The best of some segments by a measure, greatest first; ties to the lower WEAR, then to the lower number (R234). -/
def bestSeg (f : Nat × Seg → Int) : List (Nat × Seg) → Option (Nat × Seg)
  | [] => none
  | x :: l => match bestSeg f l with
    | none => some x
    | some y => if f y < f x ∨ (f y = f x ∧ (x.2.wear < y.2.wear ∨ (x.2.wear = y.2.wear ∧ x.1 ≤ y.1))) then some x else some y

/-- Victims of a stack in reclaim, of rebuild kind or not. -/
def State.reclaimsOf (s : State) (k : Nat) (rebuild : Bool) : Nat :=
  (s.media.reclaims.filter (fun r => r.stack == k && (r.kind == .rebuild) == rebuild)).length

/-- The parcels of a segment that are not owned, its f in units of 1/8,192 (R234). -/
def segFree (x : Nat × Seg) : Int := (8192 : Int) - x.2.owned

/-- The lowest and the highest WEAR over a stack's data segments (MED_STK_WEAR). -/
def State.wearRange (s : State) (k : Nat) : Nat × Nat :=
  let l := ((s.segsOf k).filter (fun x => x.1 < dataSegs)).map (fun x => x.2.wear)
  let all := if l.length < dataSegs then 0 :: l else l
  (all.foldl min (all.headD 0), all.foldl max 0)

/-- Stale reclaim of a stack starts below START and stops at STOP Empty segments (R234). -/
def staleState (k : Nat) (s : State) : State :=
  let n := s.emptyCount k
  if n < s.rd MED_RCL_START then { s with media := { s.media with staleOn := k :: s.media.staleOn.filter (· ≠ k) } }
  else if s.rd MED_RCL_STOP ≤ n then { s with media := { s.media with staleOn := s.media.staleOn.filter (· ≠ k) } }
  else s

/-- The victim a stack chooses next (R234, R238, R249, R253). -/
def chooseVictim (s : State) (k : Nat) : Option (VictimKind × Nat) :=
  let closed := s.closedSegs k
  let left := s.media.rebuildLeft.get k []
  let room := decide (s.reclaimsOf k false < s.rd MED_CFG_RCLPAR)
  let rebuild := if s.reclaimsOf k true < s.rd MED_RBD_PAR then bestSeg segFree (closed.filter (fun x => left.contains x.1)) else none
  let queued := ((s.media.erq.get k []).find? (fun g => closed.any (fun x => x.1 == g)))
  let now := s.rd MED_AGE_NOW
  let aged := bestSeg (fun x => -(x.2.born : Int)) (closed.filter (fun x => decide (s.rd MED_AGE_REFRESH ≤ now - x.2.born)))
  let (lo, hi) := s.wearRange k
  let spread := if s.rd MED_WEAR_SPREAD < hi - lo then bestSeg (fun x => -(x.2.wear : Int)) closed else none
  let best := bestSeg segFree closed
  let stale := if s.media.staleOn.contains k then
      best.filter (fun x => decide ((s.rd MED_RCL_MINSTALE : Int) * 8192 ≤ segFree x * 256)) else none
  let urgent := if s.emptyCount k ≤ s.rd MED_RCL2_FLOOR then best else none
  match rebuild with
  | some x => some (.rebuild, x.1)
  | none =>
    if !room then none
    else match queued, aged, stale, spread, urgent with
      | some g, _, _, _, _ => some (.age, g)
      | none, some x, _, _, _ => some (.age, x.1)
      | none, none, some x, _, _ => some (.stale, x.1)
      | none, none, none, some x, _ => some (.spread, x.1)
      | none, none, none, none, some x => some (.urgent, x.1)
      | none, none, none, none, none => none

/-- The device may start a reclaim: it serves, and neither a flush nor a Stop entry is under way (R239, R240). -/
def State.mayReclaim (s : State) : Bool := s.part.persist && s.serving && s.mode.stopStep == 0 && !(s.rdB TLR_STAT_ACTIVE)

/-- A stack chooses a victim and begins to relocate its runs (R234, R235 steps 1 and 2). -/
def victimChoice (k : Nat) (s : State) : State :=
  if !s.mayReclaim || !(s.stackActive k) then s
  else
    let s := staleState k s
    match chooseVictim s k with
    | none => s
    | some (kind, g) =>
      let s := setSeg k g { s.seg k g with state := .reclaiming, urgent := kind == .urgent } s
      let s := { s with media := { s.media with reclaims := s.media.reclaims ++ [⟨k, g, kind, false⟩] } }
      let s := if kind = .urgent then raise (640 + 8 * k + 7) s else s
      queueRelocations k g s

/-- RECLAIM_VICTIM_CHOICE (R234). -/
def execReclaimVictimChoice (k : Nat) (s : State) : Host.Outcome State Fault Refusal := .next (settle (victimChoice k s))

/-- The scan of a reclaim ends (R235 step 3): the entries are walked for runs that the scan missed, and what is then still owned
is orphaned. -/
def scanDone (k g : Nat) (s : State) : State :=
  if s.stopped || !(s.media.reclaims.any (fun r => r.stack == k && r.seg == g)) || s.segWork k g then s
  else
    let s := { s with media := { s.media with reclaims := s.media.reclaims.map (fun (r : Reclaim) =>
      if r.stack = k ∧ r.seg = g then { r with scanned := true } else r) } }
    if (s.seg k g).owned = 0 then s
    else if !(s.segPages k g).isEmpty then queueRelocations k g s
    else
      let orphans := (s.cap.pmap.filter (fun x => x.2 == .owned && parcelMedia x.1 && parcelStack x.1 == k && parcelSeg x.1 == g)).map (·.1)
      let s := forAll orphans disownParcel s
      correctCounts (setSeg k g { s.seg k g with owned := 0 } s)

/-- RECLAIM_SCAN_DONE (R235). -/
def execReclaimScanDone (k g : Nat) (s : State) : Host.Outcome State Fault Refusal := .next (settle (scanDone k g s))

/-- A journal record may still restore a run of a segment. -/
def State.journalNames (s : State) (k g : Nat) : Bool :=
  s.mem.durable.any (fun x => x.2.tier && x.2.run != 0 && parcelStack x.2.parcel == k && parcelSeg x.2.parcel == g)

/-- A reclaimed segment is released (R235 step 4): after the forced journal commit of a persistent segment, its stale parcels
return to free, or all its parcels to quarantined when it retires. -/
def segmentRelease (k g : Nat) (s : State) : State :=
  match s.media.reclaims.find? (fun r => r.stack == k && r.seg == g) with
  | none => s
  | some r =>
    let e := s.seg k g
    if s.stopped || !r.scanned || e.owned ≠ 0 || s.segWork k g then s
    else
      let s := if e.kind = 1 then journalWrite s else s
      if e.kind = 1 && s.journalNames k g then padStaged s
      else
        let here := fun (p : Nat) => parcelMedia p && parcelStack p == k && parcelSeg p == g
        let stale := ((s.cap.pmap.filter (fun x => x.2 == .stale && here x.1)).map (·.1)).length
        let listed := (s.cap.pmap.filter (fun x => here x.1)).length
        let retire := e.pfail || decide (s.rd MED_WEAR_RETIRE ≤ e.wear) || e.wear == 0x7FFFFFF
        let s := moveCount true .stale (if retire then .quar else .free) stale s
        let s := if retire then moveCount true .free .quar (8192 - listed) s else s
        let s := { s with cap := { s.cap with pmap := s.cap.pmap.filter (fun x => !(here x.1)) } }
        let s := setSeg k g { e with state := if retire then .retired else .empty, kind := 0, written := 0, owned := 0, born := 0,
                                     pfail := false, urgent := false } s
        let s := if r.kind = .age then s.bump MED_STK_PAD_REFR 1 k else s
        let s := { s with media := { s.media with
          reclaims := s.media.reclaims.filter (fun q => !(q.stack == k && q.seg == g))
          erq := s.media.erq.put k ((s.media.erq.get k []).filter (· ≠ g))
          remap := s.media.remap.filter (fun x => (Nat.unpair x.1).1 ≠ k * 2097152 + g) } }
        rebuildDone1 k g s

/-- RECLAIM_SEGMENT_RELEASE (R235). -/
def execReclaimSegmentRelease (k g : Nat) (s : State) : Host.Outcome State Fault Refusal := .next (settle (segmentRelease k g s))

/-- The media clock advances one hour (R234): kept in the Logbook (R239, R454); the hourly and daily tallies of dies follow. -/
def clockHour (s : State) : State :=
  if !s.part.persist || s.modeCode == 1 || s.modeCode == 6 then s
  else
    let now := min (s.rd MED_AGE_NOW + 1) 0xFFFFFF
    let s := { s.wr MED_AGE_NOW now with media := { s.media with hourRecon := [] } }
    let s := forAll s.media.pfDay (fun x s => s.wr MED_DIE_PFCNT (min 15 (x.2.filter (fun h => now < h + 24)).length) x.1) s
    logSend 2 6 (.counter 2 now true) true s

/-- MEDIA_CLOCK_HOUR (R234). -/
def execMediaClockHour (s : State) : Host.Outcome State Fault Refusal := .next (settle (clockHour s))

end Sys2Proof.Machine
end

