-- ==== Sys2Proof/Machine/Flume.lean ====
section
/-! DEFINITION. The Flume media links (chapter 11): bring-up and retrain, frames with their replay and credits, spare-lane swaps,
failure, and the Test state. -/
namespace Sys2Proof.Machine

/-- The swap field of a direction: the lane replaced, 6 spare unusable, 7 spare (FLM_LNK_k). -/
def swapFld (d : Nat) : Fld := if d = 0 then FLM_LNK_SWAP0 else FLM_LNK_SWAP1
/-- A threshold of the links: before Configure has loaded it, its image default (R272 runs at Cold Start step 4). -/
def State.linkCfg (s : State) (f : Fld) : Nat := if s.rd f = 0 then f.imageDefault 0 else s.rd f
/-- The event of a link (R281). -/
def linkEvent (k j : Nat) : Nat := 768 + 8 * k + j
/-- A link present and not failed, in a device that has not halted (R280). -/
def State.linkLive (s : State) (k : Nat) : Bool := s.stackOn k && !(s.rdB FLM_LNK_FENCED k) && !s.stopped

/-- A link has failed: it stays off and its stack takes a Fatal fault (R272, R277). -/
def linkFailed (k : Nat) (s : State) : State :=
  let s := raise (linkEvent k 3) ((s.wr FLM_LNK_STATE 0 k).wr FLM_LNK_FENCED 1 k)
  fault 4 k 2 (linkEvent k 3) k 0 (setLink k { s.link k with retraining := false } s)

/-! Bring-up (R272, R273). -/

/-- An attempt of a full bring-up fails; the third fails the link. -/
def attemptFailed (k : Nat) (s : State) : State :=
  let n := (s.link k).attempts
  if 3 ≤ n then linkFailed k s
  else setLink k { s.link k with attempts := n + 1, absent := [] } ((s.wr FLM_LNK_STATE 1 k).wr FLM_LNK_ATT (n + 1) k)

/-- A tap setting is valid (R270). -/
def tapsValid (pre main post : Nat) : Bool :=
  pre + main + post == 63 && pre ≤ 15 && post ≤ 31 && decide (21 + pre + post ≤ main)

/-- The place of a lane's register. -/
def tapIdx (k d l : Nat) : Nat := (k * 2 + d) * 5 + l

/-- Train ends: eye widths measured, settings adapted except on lanes that Factory Test set (R271); an invalid setting is refused. -/
def trainDone (k : Nat) (eyes taps : List Nat) (s : State) : State :=
  let s := forAll (List.range 10) (fun j s =>
    let i := 10 * k + j
    let eye := (eyes[j]?).getD 0
    let (a, b, c) := ((taps[3 * j]?).getD 64, (taps[3 * j + 1]?).getD 0, (taps[3 * j + 2]?).getD 0)
    let s := s.wr FLM_TAP_EYE eye i
    if (s.link k).retraining || (s.link k).fixed.contains j || !(tapsValid a b c) then s
    else ((s.wr FLM_TAP_PRE a i).wr FLM_TAP_MAIN b i).wr FLM_TAP_POST c i) s
  s.wr FLM_LNK_EYEMIN ((List.range 10).foldl (fun m j => min m (s.rd FLM_TAP_EYE (10 * k + j))) 63) k

/-- A lane is below margin: a narrow eye, absent, or recorded as swapped in the repair map (R273). -/
def State.laneBelow (s : State) (k d l : Nat) : Bool :=
  decide (s.rd FLM_TAP_EYE (tapIdx k d l) < s.linkCfg FLM_CFG_MARGIN) || (s.link k).absent.contains (6 * d + l) ||
    s.mapRecords.contains (6, k * 64 + d * 8 + l)

/-- The lane map of a direction: its swap field, or none where the attempt fails (R273). -/
def State.laneMap (s : State) (k d : Nat) : Option Nat :=
  let below := (List.range 4).filter (s.laneBelow k d)
  let sBad := s.laneBelow k d 4
  match below with
  | [] => some (if sBad then 6 else 7)
  | [n] => if sBad then none else some n
  | _ => none

/-- Exchange: both directions' lane maps agreed; a full bring-up sets credits to their grants and SEQ to 0, a retrain replays what
is not acknowledged (R272, R273, R276). -/
def exchange (k : Nat) (s : State) : State :=
  let s := forAll [0, 1] (fun d s => forAll (List.range 5) (fun l s => s.wrB FLM_TAP_BELOW (s.laneBelow k d l) (tapIdx k d l)) s) s
  let anyBelow := [0, 1].any (fun d => (List.range 4).any (s.laneBelow k d))
  let s := if anyBelow then raise (linkEvent k 5) s else s
  let s := if s.laneBelow k 0 4 || s.laneBelow k 1 4 then raise (linkEvent k 6) s else s
  let l := s.link k
  match s.laneMap k 0, s.laneMap k 1 with
  | some a, some b =>
    let s := (((s.wr FLM_LNK_SWAP0 a k).wr FLM_LNK_SWAP1 b k).wr FLM_LNK_RATE (s.rd MOD_STATE_GRADE) k).wr FLM_LNK_STATE 5 k
    if l.retraining then
      let again := ([l.d0, l.d1].filter (fun x => x.acked != x.next)).length
      let clean := fun (x : FDir) => { x with dropping := false, swapping := none, bip := [], lost := [] }
      setLink k { l with retraining := false, replays := [], d0 := clean l.d0, d1 := clean l.d1 }
        (count 0x700 none k again (s.bump FLM_LNK_ERR_REPLAY again k))
    else raise (linkEvent k 0) (setLink k { l with d0 := .fresh, d1 := .fresh, replays := [] } s)
  | _, _ => if l.retraining then linkFailed k s else attemptFailed k s

/-- A step's condition is met (R272, R276): Detect with its absent lanes (direction × 6 + lane; lane 5 is the clock lane, whose
absence fails the attempt), Train with eye widths and settings, Lock, Exchange. -/
def bringupStep (k : Nat) (absent eyes taps : List Nat) (s : State) : State :=
  if !(s.linkLive k) then s
  else match s.rd FLM_LNK_STATE k with
    | 1 =>
      if absent.contains 5 || absent.contains 11 then attemptFailed k s
      else setLink k { s.link k with absent } (s.wr FLM_LNK_STATE 2 k)
    | 2 => (trainDone k eyes taps s).wr FLM_LNK_STATE 3 k
    | 3 => s.wr FLM_LNK_STATE 4 k
    | 4 => exchange k s
    | _ => s

/-- FLUME_BRINGUP_STEP_DONE (R272). -/
def execFlumeBringupStepDone (k : Nat) (absent eyes taps : List Nat) (s : State) : Host.Outcome State Fault Refusal :=
  .next (settle (bringupStep k absent eyes taps s))

/-- A link is in a step of a bring-up or retrain. -/
def State.inSteps (s : State) (k : Nat) : Bool := 1 ≤ s.rd FLM_LNK_STATE k && s.rd FLM_LNK_STATE k ≤ 4

/-- FLUME_BRINGUP_TIMEOUT (R272): the bound of a step of a full bring-up passes. -/
def execFlumeBringupTimeout (k : Nat) (s : State) : Host.Outcome State Fault Refusal :=
  .next (settle (if s.linkLive k && s.inSteps k && !((s.link k).retraining) then attemptFailed k s else s))

/-- FLUME_DETECT_RETRY (R272): receiver detect is sent again. -/
def execFlumeDetectRetry (k : Nat) (s : State) : Host.Outcome State Fault Refusal :=
  .next (settle (if s.linkLive k && s.rd FLM_LNK_STATE k == 1 then s.emit (.flume k 1 (s.link k).attempts) else s))

/-! Retraining (R276, R277). -/

/-- Times within a span that ends now. -/
def recent (now span : Nat) (l : List Nat) : List Nat := l.filter (fun t => now < t + span)

/-- A retrain starts; more than RTNMAX within 1 s fail the link. -/
def startRetrain (k : Nat) (s : State) : State :=
  let l := s.link k
  if l.retraining then s
  else
    let times := recent s.standbyNs 1000000000 l.retrains ++ [s.standbyNs]
    let s := setLink k { l with retraining := true, retrains := times } ((s.wr FLM_LNK_STATE 2 k).bump FLM_LNK_ERR_RETRAIN 1 k)
    let s := fault 4 k 0 (linkEvent k 2) k 0 (raise (linkEvent k 2) s)
    if s.linkCfg FLM_CFG_RTNMAX < times.length then linkFailed k s else s

/-- FLUME_RETRAIN_TIMEOUT (R277). -/
def execFlumeRetrainTimeout (k : Nat) (s : State) : Host.Outcome State Fault Refusal :=
  .next (settle (if s.linkLive k && (s.link k).retraining then linkFailed k s else s))

/-- The sender of a direction replays its frames that are not acknowledged (R268). -/
def replayFrames (k d : Nat) (s : State) : State :=
  let x := s.fdir k d
  if x.acked = x.next then s
  else
    let l := s.link k
    let times := recent s.standbyNs 1000000 l.replays ++ [s.standbyNs]
    let s := (setLink k { l with replays := times } (count 0x700 none k 1 (s.bump FLM_LNK_ERR_REPLAY 1 k))).emit (.flume k 2 x.acked)
    let s := if s.linkCfg FLM_CFG_RPLMAX < 2 * times.length then raiseLimited (linkEvent k 4) 0 s else s
    if s.linkCfg FLM_CFG_RPLMAX < times.length then startRetrain k s else s

/-- Frames flow: Active or Spare-Swap. -/
def State.flows (s : State) (k : Nat) : Bool := s.linkLive k && (s.rd FLM_LNK_STATE k == 5 || s.rd FLM_LNK_STATE k == 6)

/-- FLUME_REPLAY_TIMEOUT (R268): a frame sent in a direction has had no ACK for 2 µs. -/
def execFlumeReplayTimeout (k d : Nat) (s : State) : Host.Outcome State Fault Refusal :=
  .next (settle (if s.flows k then replayFrames k d s else s))

/-! Spare-lane swaps (R275). -/

/-- A swap of lane n of a direction begins at its receiving end. -/
def startSwap (k d n : Nat) (s : State) : State :=
  (setFDir k d { s.fdir k d with swapping := some n } (s.wr FLM_LNK_STATE 6 k)).emit (.flume k 3 (8 * d + n))

/-- A data lane in use fails: swapped when the spare is free and usable, else a retrain (R274, R275, R280). -/
def laneFailed (k d n : Nat) (s : State) : State :=
  if s.rd (swapFld d) k = n then s
  else if s.rd (swapFld d) k = 7 && (s.fdir k d).swapping.isNone && !((s.fdir k d).lost.contains 4) then startSwap k d n s
  else if (s.fdir k d).swapping = some n then s
  else startRetrain k s

/-- Injections that waited for a swap are applied (R279). -/
def applyInjections (k : Nat) (s : State) : State :=
  let l := s.link k
  if l.inject = 0 then s
  else (setLink k { l with inject := 0 } (s.bump FLM_INJ_COUNT l.inject k)).emit (.flume k 4 (s.rd FLM_INJ_LANE k))

/-- Steps 4 and 5 of a swap (R275). -/
def swapDone (k d n : Nat) (s : State) : State :=
  if (s.fdir k d).swapping ≠ some n then s
  else
    let s := setFDir k d { s.fdir k d with swapping := none } (s.wr (swapFld d) n k)
    let s := if (s.fdir k (1 - d)).swapping.isNone then s.wr FLM_LNK_STATE 5 k else s
    let s := fault 4 k 0 (linkEvent k 1) (8 * d + n) 0 (raise (linkEvent k 1) s)
    applyInjections k (mapRecord 6 (k * 64 + d * 8 + n) s)

/-- ALIGNMENT_MARKER in a direction with the BIP-8 errors of its five lanes (R266, R275): LERR within 1 ms fail a data lane. -/
def alignmentMarker (k d : Nat) (errs : List Nat) (s : State) : State :=
  if !(s.flows k) then s
  else
    let x := s.fdir k d
    let now := s.standbyNs
    let fresh := (List.range 5).flatMap (fun l => List.replicate ((errs[l]?).getD 0) (l, now))
    let bip := (x.bip ++ fresh).filter (fun e => now < e.2 + 1000000)
    let s := setFDir k d { x with bip } s
    forAll (List.range 5) (fun l s =>
      let n := (bip.filter (fun e => e.1 == l)).length
      if n < (s.linkCfg FLM_CFG_LERR) then s
      else if l < 4 then laneFailed k d l s
      else if s.rd (swapFld d) k < 4 then startRetrain k s
      else s) s

/-- ALIGNMENT_MARKER (R266). -/
def execAlignmentMarker (k d : Nat) (errs : List Nat) (s : State) : Host.Outcome State Fault Refusal :=
  .next (settle (alignmentMarker k (d % 2) errs s))

/-- LANE_LOCK_LOSS: lanes of a direction lose block lock together; 4 is S, 5 the clock lane (R274). -/
def lockLoss (k d : Nat) (lanes : List Nat) (s : State) : State :=
  if !(s.flows k) then s
  else
    let x := s.fdir k d
    let lost := (x.lost ++ lanes).dedup
    let s := setFDir k d { x with lost } s
    if lost.contains 5 || 2 ≤ lost.length then startRetrain k s
    else match lost with
      | [n] => if n < 4 then laneFailed k d n s else if s.rd (swapFld d) k < 4 then startRetrain k s else s
      | _ => s

/-- LANE_LOCK_LOSS (R274). -/
def execLaneLockLoss (k d : Nat) (lanes : List Nat) (s : State) : Host.Outcome State Fault Refusal :=
  .next (settle (lockLoss k (d % 2) lanes s))

/-! Frames (R267 to R269). -/

/-- Frames from a to b, modulo 1,024. -/
def seqDist (a b : Nat) : Nat := (b + 1024 - a) % 1024

/-- The sender of a direction takes an ACK: the frames up to it leave its replay buffer. -/
def takeAck (x : FDir) (ack : Nat) : FDir :=
  if seqDist x.acked ack < seqDist x.acked x.next then { x with acked := (ack + 1) % 1024 } else x

/-- The sender of a direction takes credits back (R269). -/
def takeCredits (x : FDir) (cls n : Nat) : FDir :=
  if cls = 1 then { x with avCmd := x.avCmd + min n x.outCmd, outCmd := x.outCmd - min n x.outCmd }
  else if cls = 2 then { x with avDat := x.avDat + min n x.outDat, outDat := x.outDat - min n x.outDat }
  else x

/-- The sender of a direction uses credits for the messages of a new frame, which enters its replay buffer. -/
def useCredits (x : FDir) (cmds dats : Nat) : FDir :=
  { x with avCmd := x.avCmd - min cmds x.avCmd, outCmd := x.outCmd + min cmds x.avCmd,
           avDat := x.avDat - min dats x.avDat, outDat := x.outDat + min dats x.avDat }

/-- The tail of a frame received intact in direction d acts on the sender of the other direction (R267, R268, R275). -/
def takeTail (k d typ lane ack : Nat) (nak : Bool) (ccls ccnt : Nat) (s : State) : State :=
  let o := 1 - d
  let s := setFDir k o (takeCredits (takeAck (s.fdir k o) ack) ccls ccnt) s
  let s := if nak then replayFrames k o s else s
  if typ = 3 then swapDone k o lane s else s

/-- A frame arrives in a direction (R268): intact or not, with its tail and the credits its messages used. -/
def frameReceived (k d typ lane seq ack : Nat) (nak : Bool) (ccls ccnt cmds dats : Nat) (good : Bool) (s : State) : State :=
  if !(s.flows k) then s
  else
    let x := s.fdir k d
    let x := if seq = x.next ∧ seqDist x.acked x.next < 512 then
        useCredits { x with next := (x.next + 1) % 1024 } cmds dats else x
    let nakOut := fun (s : State) =>
      if x.dropping then s else (setFDir k d { x with dropping := true } s).emit (.flume k 5 ((x.expect + 1023) % 1024))
    let s := setFDir k d x s
    if !good then nakOut (s.bump FLM_LNK_ERR_CRC 1 k)
    else if seq = x.expect ∧ seqDist x.expect x.next ≠ 0 then
      takeTail k d typ lane ack nak ccls ccnt
        (setFDir k d { x with expect := (x.expect + 1) % 1024, dropping := false } s)
    else if seqDist seq x.expect ≤ 512 then s
    else nakOut s

/-- FLUME_FRAME_RECEIVED (R268). -/
def execFlumeFrameReceived (k d typ lane seq ack : Nat) (nak : Bool) (ccls ccnt cmds dats : Nat) (good : Bool) (s : State) :
    Host.Outcome State Fault Refusal :=
  .next (settle (frameReceived k (d % 2) typ lane (seq % 1024) (ack % 1024) nak ccls ccnt cmds dats good s))

/-! The Test state (R278, R279). -/

/-- FLUME_TEST_ENTER: EN set with the fields of FLM_PG_k (R278). -/
def testEnter (k dir pat lanes : Nat) (s : State) : State :=
  if s.modeCode = 0 ∧ s.rd FLM_LNK_STATE k = 5 then
    ((((s.wr FLM_PG_EN 1 k).wr FLM_PG_DIR dir k).wr FLM_PG_PAT pat k).wr FLM_PG_LANES lanes k).wr FLM_LNK_STATE 7 k
  else s

/-- FLUME_TEST_ENTER (R278). -/
def execFlumeTestEnter (k dir pat lanes : Nat) (s : State) : Host.Outcome State Fault Refusal :=
  .next (settle (testEnter k dir pat lanes s))

/-- What a checker found since it was last cleared, for each lane: bit errors, bits in units of 2^20, lock (1). -/
def checkerResults (err nbits lock : Fld) (base n : Nat) (res : List Nat) (s : State) : State :=
  forAll (List.range n) (fun l s =>
    ((s.bump err ((res[3 * l]?).getD 0) (base + l)).bump nbits ((res[3 * l + 1]?).getD 0) (base + l)).wr lock
      ((res[3 * l + 2]?).getD 0) (base + l)) s

/-- FLUME_TEST_EXIT: EN cleared, a retrain follows (R278). -/
def testExit (k : Nat) (res : List Nat) (s : State) : State :=
  if s.rd FLM_LNK_STATE k = 7 then
    startRetrain k (checkerResults FLM_PCNT_ERR FLM_PCNT_BITS FLM_PCNT_LOCK (5 * k) 5 res (s.wr FLM_PG_EN 0 k))
  else s

/-- FLUME_TEST_EXIT (R278). -/
def execFlumeTestExit (k : Nat) (res : List Nat) (s : State) : Host.Outcome State Fault Refusal :=
  .next (settle (testExit k res s))

/-- FLUME_COUNTER_CLEAR (R278): FLM_PG_k.CLR. -/
def execFlumeCounterClear (k : Nat) (s : State) : Host.Outcome State Fault Refusal :=
  .next (settle (forAll (List.range 5) (fun l s =>
    ((s.wr FLM_PCNT_ERR 0 (5 * k + l)).wr FLM_PCNT_BITS 0 (5 * k + l)).wr FLM_PCNT_LOCK 0 (5 * k + l)) s))

/-- FLUME_ERROR_INJECT: GO written with the fields of FLM_INJ_k (R279). During a swap it waits. -/
def errorInject (k lane mode blen : Nat) (s : State) : State :=
  let st := s.rd FLM_LNK_STATE k
  if s.modeCode ≠ 0 ∨ 5 ≤ lane ∨ st < 5 then s
  else
    let s := ((s.wr FLM_INJ_LANE lane k).wr FLM_INJ_MODE mode k).wr FLM_INJ_BLEN blen k
    if st = 6 then setLink k { s.link k with inject := (s.link k).inject + 1 } s
    else (s.bump FLM_INJ_COUNT 1 k).emit (.flume k 4 lane)

/-- FLUME_ERROR_INJECT (R279). -/
def execFlumeErrorInject (k lane mode blen : Nat) (s : State) : Host.Outcome State Fault Refusal :=
  .next (settle (errorInject k lane mode blen s))

end Sys2Proof.Machine
end

