-- ==== Sys2Proof/Machine/Courier.lean ====
section
/-! DEFINITION. The Courier engines and rings (chapter 12): opening and closing rings, doorbells, descriptors and their checks,
accesses through the home slices, the work of each opcode, completions, timeouts, and fences of engines. -/
namespace Sys2Proof.Machine

/-! Accesses through the home slices (R286, R292). -/

/-- What an access of an engine comes to: done; waiting, for a snoop, a fill or room; or the descriptor ends with a status. -/
inductive CouRes (α : Type) where
  | ok (a : α) (s : State)
  | blocked (s : State)
  | ended (status : Nat) (s : State)

/-- Who makes an access: the ring or the opening it is for, the head, the class. -/
structure CouWho where
  key : Nat
  head : Nat
  cls : Cls
  deriving DecidableEq, Repr

/-- The region and DPA line of an access: in the head's view, in a keyed domain (R55, R167, R298). -/
def couAt (w : CouWho) (hline : Nat) (s : State) : CouRes (Region × Nat) :=
  match s.view w.head hline with
  | none => .ended 0x11 s
  | some (r, line) => if s.keyed r.keydom then .ok (r, line) s else .ended 0x12 s

/-- The coherence of an access (R292): ready (false), timed out (true), or waiting for snoops, hold time or earlier requests. -/
def couCoherent (w : CouWho) (line : Nat) (write : Bool) (s : State) : CouRes Bool :=
  if s.home.reqs.any (fun q => q.line == line) || s.evicting line || s.snooped line || s.rebuildHolds line then .blocked s
  else if !(s.isDB line) then .ok false s
  else match s.filt line with
    | none => .ok false s
    | some e =>
      if s.cou.timed.contains (w.key, line) then .ok true s
      else if !write && (!e.excl || s.cou.clear.contains (w.key, line)) then .ok false s
      else if e.held then .blocked s
      else .blocked (forHeads e.holders (fun h s => sendSnoop h line false [line] (if write then .inv else .cur) (.courier w.key) s) s)

/-- An engine reads a line: its data, or none for poison. -/
def couRead (w : CouWho) (hline : Nat) (s : State) : CouRes (Option Line × Nat) :=
  match couAt w hline s with
  | .blocked s => .blocked s
  | .ended n s => .ended n s
  | .ok (r, line) s => match couCoherent w line false s with
    | .blocked s => .blocked s
    | .ended n s => .ended n s
    | .ok true s => .ok (none, line) s
    | .ok false s =>
      let s := useEntry (linePage line) (checkLine line s)
      if s.stopped then .blocked s
      else match s.look line with
        | .hit d p => .ok (if p then none else some d, line) (match s.fcFind line with | some k => touch k s | none => s)
        | .zero => .ok (some (s.bareData line), line) (zeroFill r (lineSheet line) w.head w.cls s)
        | .entry => .blocked (fetchEntry (linePage line) s)
        | .fill => .blocked ((startFill (lineSheet line) .demand w.head w.cls s).getD s)

/-- An engine writes bytes of a line, or poison; true when the line counts as written as poison. -/
def couWrite (w : CouWho) (hline : Nat) (d : Line) (m : Mask) (poison : Bool) (s : State) : CouRes Bool :=
  match couAt w hline s with
  | .blocked s => .blocked s
  | .ended n s => .ended n s
  | .ok (r, line) s => match couCoherent w line true s with
    | .blocked s => .blocked s
    | .ended n s => .ended n s
    | .ok true s => .ok true s
    | .ok false s =>
      let s := checkLine line s
      if s.stopped then .blocked s
      else if s.pdHeld r line then .blocked (raiseLimited (256 + 8 * logicalSlice s (linePage line) + 5) 0 s)
      else match writeLine r line d m poison w.head w.cls s with
        | none => .blocked s
        | some s =>
          let s := if poison then deadLetter line 12 0 false s else s
          .ok poison (earlyClean (sliceOf s line) 64 s)

/-- The bytes of a head address range of at most 64 bytes, which takes in one line or two, and the lines that read as poison. -/
def couBytes (w : CouWho) (a n : Nat) (s : State) : CouRes (List Byte × List Nat) :=
  let part := fun (o : Option Line × Nat) => (match o.1 with | some l => lineBytes l | none => zeros 64, if o.1.isNone then [o.2] else [])
  match couRead w (a / 64) s with
  | .blocked s => .blocked s
  | .ended k s => .ended k s
  | .ok x s =>
    if a % 64 + n ≤ 64 then .ok (slice (part x).1 (a % 64) n, (part x).2) s
    else match couRead w (a / 64 + 1) s with
      | .blocked s => .blocked s
      | .ended k s => .ended k s
      | .ok y s => .ok (slice ((part x).1 ++ (part y).1) (a % 64) n, (part x).2 ++ (part y).2) s

/-- The mask of n bytes from a place in a line. -/
def spanMask (off n : Nat) : Mask := BitVec.ofNat 64 ((2 ^ n - 1) * 2 ^ off)

/-- Write at most 64 bytes that lie in one line. -/
def couPut (w : CouWho) (a : Nat) (b : List Byte) (poison : Bool) (s : State) : CouRes Bool :=
  couWrite w (a / 64) (bytesLine (zeros (a % 64) ++ b ++ zeros 64)) (spanMask (a % 64) b.length) poison s

/-! Ranges. -/

/-- The regions that a head's byte range lies in, one for each extent of it; none when some of it is outside the view (R48). -/
def State.rangeRegions (s : State) (h a len : Nat) : Option (List Region) :=
  if len = 0 then some []
  else
    let lo := a / 268435456
    ((List.range ((a + len - 1) / 268435456 - lo + 1)).mapM (fun i => (s.view h ((lo + i) * 4194304)).map (·.1)))

/-- R286 for a range: in the view, not of a reduced-precision region, in a keyed domain. -/
def State.postOk (s : State) (h a len : Nat) : Bool :=
  match s.rangeRegions h a len with
  | some l => l.all (fun r => r.typ != 2 && s.keyed r.keydom)
  | none => false

/-! Rings (R282 to R291). -/

def State.ring (s : State) (r : Nat) : Option Ring := s.cou.rings.find r

/-- The entries of a ring. -/
def Ring.entries (g : Ring) : Nat := 2 ^ g.logsz

/-- An open or close ends with a result. -/
def ringResult (h res : Nat) (s : State) : State := (s.wr COU_RSTAT_RESULT res h).wr COU_RSTAT_BUSY 0 h

/-- A refused open (R288, R305). -/
def openRefused (h res : Nat) (s : State) : State := raise 931 (ringResult h res s)

/-- The ring of a context, or none when it is malformed (R287). -/
def ringOfContext (h : Nat) (b : List Byte) : Option Ring :=
  let f := fieldAt b
  let (dbase, cbase, logsz, cls, vec, tmo) := (f 0 8, f 8 8, f 16 1, f 17 1, f 18 1, f 20 4)
  if dbase % 4096 = 0 ∧ cbase % 4096 = 0 ∧ 6 ≤ logsz ∧ logsz ≤ 16 ∧ cls < 4 ∧ vec < 128 ∧ tmo ≤ 10000 ∧ f 19 1 = 0 ∧
      (b.drop 24).all (· == 0) then
    some ⟨h, dbase, cbase, logsz, clsOf cls, vec, if tmo = 0 then 1000 else tmo, 0, 0, .running, 0, false, none⟩
  else none

/-- The ring lies in the head's partition (R282). -/
def State.inPartition (s : State) (h r : Nat) : Bool :=
  decide (s.rd COU_PART_BASE h ≤ r) && decide (r < s.rd COU_PART_BASE h + s.rd COU_PART_COUNT h)

/-- Steps 2 and 3 of R288, once the context is read; while its line waits, the open stays under way. -/
def openRead (h r ctx : Nat) (s : State) : State :=
  let finish := fun (s : State) =>
    forgetSnoops (262144 + h) { s with cou := { s.cou with opens := s.cou.opens.filter (fun x => x.1 ≠ h) } }
  match couRead ⟨262144 + h, h, .standard⟩ ctx s with
  | .blocked s => s
  | .ended _ s => openRefused h 5 (finish s)
  | .ok (none, _) s => openRefused h 4 (finish s)
  | .ok (some l, _) s =>
    let s := finish s
    match ringOfContext h (lineBytes l) with
    | none => openRefused h 4 s
    | some g =>
      if !(s.postOk h g.dbase (64 * g.entries)) || !(s.postOk h g.cbase (32 * g.entries)) then openRefused h 5 s
      else ringResult h 0 ((setRing r (some g) s).wr COU_RQ_USED (s.rd COU_RQ_USED h + 1) h)

/-- RING_OPEN (R288): GO with OP open by head h, with the line of the context. -/
def ringOpen (h ctx : Nat) (s : State) : State :=
  if !(s.routeUp (.head (Fin.ofNat 16 h))) then s
  else if s.rdB COU_RSTAT_BUSY h then s.wr COU_RSTAT_REFUSED 1 h
  else
    let s := (s.wr COU_ROPEN_CTX ctx h).wr COU_ROPEN_OP 0 h
    let r := s.rd COU_RSTAT_RING h
    if !(s.inPartition h r) then openRefused h 1 s
    else if (s.ring r).isSome then openRefused h 2 s
    else if s.rd COU_RQ_QUOTA h ≤ s.rd COU_RQ_USED h then openRefused h 3 s
    else if !(s.postOk h (64 * ctx) 64) then openRefused h 5 s
    else openRead h r ctx { s.wr COU_RSTAT_BUSY 1 h with cou := { s.cou with opens := s.cou.opens ++ [(h, r, ctx)] } }

/-- RING_OPEN (R288). -/
def execRingOpen (h : Head) (ctx : Nat) (s : State) : Host.Outcome State Fault Refusal := .next (settle (ringOpen h (ctx % 2 ^ 42) s))

/-- Opens that wait for their context line go on, at a tick of the idle block. -/
def resumeOpens (s : State) : State :=
  if s.stopped then s else forAll s.cou.opens (fun x s => openRead x.1 x.2.1 x.2.2 s) s

/-- A ring becomes Closed and its use is returned (R288 step 4). -/
def ringClosed (r : Nat) (g : Ring) (s : State) : State :=
  ringResult g.head 0 ((setRing r none (forgetSnoops r s)).wr COU_RQ_USED (s.rd COU_RQ_USED g.head - 1) g.head)

/-- RING_CLOSE (R288): GO with OP close by head h. -/
def ringClose (h : Nat) (s : State) : State :=
  if !(s.routeUp (.head (Fin.ofNat 16 h))) then s
  else if s.rdB COU_RSTAT_BUSY h then s.wr COU_RSTAT_REFUSED 1 h
  else
    let s := s.wr COU_ROPEN_OP 1 h
    let r := s.rd COU_RSTAT_RING h
    if !(s.inPartition h r) then ringResult h 1 s
    else match s.ring r with
      | none => ringResult h 2 s
      | some g =>
        if g.head ≠ h then ringResult h 2 s
        else if g.desc.isNone then ringClosed r g s
        else setRing r (some { g with closing := true }) (s.wr COU_RSTAT_BUSY 1 h)

/-- RING_CLOSE (R288). -/
def execRingClose (h : Head) (s : State) : Host.Outcome State Fault Refusal := .next (settle (ringClose h s))

/-- A ring enters Error (R291). -/
def ringError (r : Nat) (g : Ring) (code : Nat) (s : State) : State :=
  raise (912 + g.head) (setRing r (some { g with state := .error, err := code }) s)

/-- Indices from a to b, modulo 2^32. -/
def idxDist (a b : Nat) : Nat := (b + 4294967296 - a) % 4294967296

/-- DOORBELL_TAIL_WRITE (R290). -/
def doorbell (h r value : Nat) (s : State) : State :=
  if !(s.routeUp (.head (Fin.ofNat 16 h))) then s
  else match s.ring r with
    | none => raise 930 s
    | some g =>
      if g.head ≠ h then raise 930 s
      else if g.closing || g.state != .running || value = g.tl then s
      else if idxDist g.hd g.tl ≤ idxDist g.hd value ∧ idxDist g.hd value ≤ g.entries then setRing r (some { g with tl := value }) s
      else ringError r g 1 s

/-- DOORBELL_TAIL_WRITE (R290). -/
def execDoorbellTailWrite (h : Head) (ring value : Nat) (s : State) : Host.Outcome State Fault Refusal :=
  .next (settle (doorbell h ring (value % 4294967296) s))

/-! Descriptors (R294 to R298). -/

def Desc.opcode (d : Desc) : Nat := fieldAt d.bytes 0 1
def Desc.flags (d : Desc) : Nat := fieldAt d.bytes 1 1
def Desc.src (d : Desc) : Nat := fieldAt d.bytes 8 8
def Desc.dst (d : Desc) : Nat := fieldAt d.bytes 16 8
def Desc.len (d : Desc) : Nat := fieldAt d.bytes 24 8
def Desc.opnd (d : Desc) : Nat := fieldAt d.bytes 32 8

/-- Opcodes that act on pages. -/
def pageOp (op : Nat) : Bool := op == 3 || op == 7 || op == 8 || op == 9
/-- The ranges an opcode names, as start addresses. -/
def Desc.ranges (d : Desc) : List Nat :=
  match d.opcode with
  | 0 => []
  | 1 | 4 | 6 => [d.src, d.dst]
  | 5 => [d.src]
  | _ => [d.dst]

/-- Steps 1 and 2 of R298. -/
def Desc.formOk (d : Desc) : Bool :=
  let op := d.opcode
  op ≤ 9 && d.flags < 4 && fieldAt d.bytes 2 2 == 0 && (d.bytes.drop 40).all (· == 0) &&
    (if op = 0 then d.len == 0
     else if pageOp op then d.dst % 4096 == 0 && d.len % 4096 == 0 && decide (4096 ≤ d.len) && decide (d.len ≤ 137438953472)
     else decide (1 ≤ d.len) && decide (d.len ≤ 4294967296)) &&
    (!(op == 1 || op == 6) || decide (d.src + d.len ≤ d.dst) || decide (d.dst + d.len ≤ d.src))

/-- The checks of a descriptor before its work begins (R298): the status it fails with, or 0. -/
def descCheck (h : Nat) (d : Desc) (s : State) : Nat :=
  if !d.formOk then 0x10
  else match d.ranges.mapM (fun a => s.rangeRegions h a d.len) with
    | none => 0x11
    | some ls =>
      let doms := (ls.flatten.map (·.keydom)).dedup
      let need := if d.opcode = 7 ∨ d.opcode = 9 then 1 else 2
      let right := if d.opcode = 9 then MIL_KD_SCRUB else MIL_KD_COU
      if d.opcode = 1 ∧ 1 < doms.length then 0x10
      else if !(doms.all s.keyed) then 0x12
      else if d.opcode = 6 ∧ !(doms.all (fun x => s.rd MIL_KD_OWNER x == h)) then 0x13
      else if !(doms.all (fun x => decide (need ≤ s.rd right x))) then 0x112
      else 0

/-- The descriptor of a ring set. -/
def setDesc (r : Nat) (d : Option Desc) (s : State) : State :=
  match s.ring r with
  | some g => setRing r (some { g with desc := d }) s
  | none => s

/-- A descriptor ends with a status. -/
def Desc.finish (d : Desc) (status : Nat) : Desc := { d with status, finished := true }

/-- Descriptors in progress on an engine (COU_ENG_e.INPROG). -/
def State.inProgress (s : State) (e : Nat) : Nat :=
  (s.cou.rings.filter (fun x => match x.2.desc with | some d => d.engine == e | none => false)).length

/-- DESCRIPTOR_FETCH (R285, R298): the ring's engine fetches its next descriptor and checks it. -/
def descFetch (r : Nat) (s : State) : State :=
  match s.ring r with
  | none => s
  | some g =>
    if s.stopped || s.powerFlush || !s.serving || s.mode.stopStep ≠ 0 || g.closing || g.state != .running || g.desc.isSome || g.hd = g.tl then s
    else match s.ringEngine r with
      | none => ringError r g 3 s
      | some e =>
        if 64 ≤ s.inProgress e then s
        else match couRead ⟨r, g.head, s.ceil g.head g.cls⟩ (g.dbase / 64 + g.hd % g.entries) s with
          | .blocked s => s
          | .ended _ s => ringError r g 2 (forgetSnoops r s)
          | .ok (none, _) s => ringError r g 2 (forgetSnoops r s)
          | .ok (some l, _) s =>
            let d : Desc := ⟨g.hd, e, lineBytes l, 0, 0, 0, false, s.standbyNs, none, none, [], 0, [0, 0, 0, 0, 0]⟩
            let d := { d with result := if d.opcode = 5 then (d.opnd % 4294967296) ^^^ 0xFFFFFFFF else 0 }
            let st := descCheck g.head d s
            let s := forgetSnoops r s
            if st = 0 then setDesc r (some d) s
            else if st = 0x112 then raise 932 (setDesc r (some (d.finish 0x12)) s)
            else setDesc r (some (d.finish st)) s

/-- DESCRIPTOR_FETCH (R285). -/
def execDescriptorFetch (ring : Nat) (s : State) : Host.Outcome State Fault Refusal := .next (settle (descFetch ring s))

/-! The work of a descriptor. -/

/-- One piece of a descriptor's work: the descriptor after it. -/
abbrev Piece := CouWho → Desc → State → CouRes Desc

/-- Work goes on piece by piece until the range is done, a piece waits, or the descriptor ends: its status, if it has ended. -/
def runPieces (f : Piece) (w : CouWho) : Nat → Desc → State → Option Nat × Desc × State
  | 0, d, s => (some 0, d, s)
  | n + 1, d, s =>
    if d.len ≤ d.done then (some 0, d, s)
    else match f w d s with
      | .ok d' s' => if s'.stopped then (none, d', s') else runPieces f w n d' s'
      | .blocked s' => (none, d, s')
      | .ended st s' => (some st, d, s')

/-- The status of a descriptor done in full (R300): Poisoned, Mismatch, or Success. -/
def Desc.doneStatus (d : Desc) : Nat :=
  if !d.poisonRead.isEmpty || d.poisonWritten != 0 then 2 else if d.diff.isSome then 1 else 0

/-- The result of a compare or a CRC over poison is undefined: a free value (R300). -/
def freeResult (d : Desc) (s : State) : Desc × State :=
  if (d.opcode = 4 ∨ d.opcode = 5) ∧ !d.poisonRead.isEmpty then
    let (v, s) := s.fresh
    ({ d with result := v % 2 ^ 64 }, s)
  else (d, s)

/-- A descriptor of an opcode in progress on a ring works on; `apt` says that it is the command's. -/
def couWork (r : Nat) (apt : Desc → Bool) (f : Piece) (s : State) : State :=
  match s.ring r with
  | none => s
  | some g => match g.desc with
    | none => s
    | some d =>
      if s.stopped || s.powerFlush || !(s.serving || s.mode.stopStep != 0) || d.finished || !(apt d) then s
      else
        let (st, d, s) := runPieces f ⟨r, g.head, s.ceil g.head g.cls⟩ (d.len / 64 + 3) d s
        match st with
        | some 0 =>
          let (d, s) := freeResult d s
          setDesc r (some (d.finish d.doneStatus)) (forgetSnoops r s)
        | some n => setDesc r (some (d.finish n)) (forgetSnoops r s)
        | none => if (match s.ring r with | some g => (match g.desc with | some x => x.finished | none => true) | none => true) then s
            else setDesc r (some d) s

/-- Units of 64 B moved by an engine, with the token each piece of work uses (R285, R309). -/
def moved (w : CouWho) (e units : Nat) (s : State) : State := (charge 2 w.head w.cls (s.bump COU_ENG_B_BYTES units e)).2

/-- NOP completes at once (R295). -/
def execNop (ring : Nat) (s : State) : Host.Outcome State Fault Refusal :=
  .next (settle (couWork ring (fun d => d.opcode == 0) (fun _ d s => .ok d s) s))

/-- A piece of a COPY or an XCOPY: the bytes of one destination line (R295, R300). -/
def copyPiece : Piece := fun w d s =>
  let a := d.dst + d.done
  let n := min (64 - a % 64) (d.len - d.done)
  match couBytes w (d.src + d.done) n s with
  | .blocked s => .blocked s
  | .ended k s => .ended k s
  | .ok (b, bad) s => match couPut w a b (!bad.isEmpty) s with
    | .blocked s => .blocked s
    | .ended k s => .ended k s
    | .ok p s => .ok { d with done := d.done + n, result := d.result + n, poisonWritten := d.poisonWritten + p.toNat }
        (moved w d.engine 2 s)

/-- COPY (R295). -/
def execCopy (ring : Nat) (s : State) : Host.Outcome State Fault Refusal :=
  .next (settle (couWork ring (fun d => d.opcode == 1) copyPiece s))

/-- XCOPY (R295). -/
def execXcopy (ring : Nat) (s : State) : Host.Outcome State Fault Refusal :=
  .next (settle (couWork ring (fun d => d.opcode == 6) copyPiece s))

/-- A piece of a FILL: byte a takes byte a mod 8 of OPND (R295). -/
def fillPiece : Piece := fun w d s =>
  let a := d.dst + d.done
  let n := min (64 - a % 64) (d.len - d.done)
  match couPut w a ((List.range n).map (fun i => BitVec.ofNat 8 (bits d.opnd (8 * ((a + i) % 8)) 8))) false s with
  | .blocked s => .blocked s
  | .ended k s => .ended k s
  | .ok p s => .ok { d with done := d.done + n, result := d.result + n, poisonWritten := d.poisonWritten + p.toNat }
      (moved w d.engine 1 s)

/-- FILL (R295). -/
def execFill (ring : Nat) (s : State) : Host.Outcome State Fault Refusal :=
  .next (settle (couWork ring (fun d => d.opcode == 2) fillPiece s))

/-- A read piece's poison: the lines, and the offset of the first of them while no earlier one is known (R300). -/
def Desc.notePoison (d : Desc) (off : Nat) (bad : List Nat) : Desc :=
  { d with poisonRead := (d.poisonRead ++ bad).dedup, bad := if bad.isEmpty then d.bad else some (d.bad.getD off) }

/-- A piece of a COMPARE (R295): the first difference is kept. -/
def comparePiece : Piece := fun w d s =>
  let n := min (64 - d.src % 64) (d.len - d.done)
  let n := if d.done = 0 then n else min 64 (d.len - d.done)
  match couBytes w (d.src + d.done) n s with
  | .blocked s => .blocked s
  | .ended k s => .ended k s
  | .ok (a, x) s => match couBytes w (d.dst + d.done) n s with
    | .blocked s => .blocked s
    | .ended k s => .ended k s
    | .ok (b, y) s =>
      let i := ((a.zip b).takeWhile (fun p => p.1 == p.2)).length
      let diff := match d.diff with | some v => some v | none => if i < n then some (d.done + i) else none
      let d' := { d.notePoison d.done (x ++ y) with done := d.done + n, diff, result := diff.getD d.len }
      .ok d' (moved w d.engine 2 s)

/-- COMPARE (R295). -/
def execCompare (ring : Nat) (s : State) : Host.Outcome State Fault Refusal :=
  .next (settle (couWork ring (fun d => d.opcode == 4) comparePiece s))

/-- A piece of a CRC32C (R297): the running register is kept inverted, as the result it would end with. -/
def crcPiece : Piece := fun w d s =>
  let a := d.src + d.done
  let n := min (64 - a % 64) (d.len - d.done)
  match couBytes w a n s with
  | .blocked s => .blocked s
  | .ended k s => .ended k s
  | .ok (b, x) s =>
    let reg := crcRun (if d.done = 0 then d.result else d.result ^^^ 0xFFFFFFFF) b
    .ok { d.notePoison d.done x with done := d.done + n, result := reg ^^^ 0xFFFFFFFF } (moved w d.engine 1 s)

/-- CRC32C (R297). -/
def execCrc32c (ring : Nat) (s : State) : Host.Outcome State Fault Refusal :=
  .next (settle (couWork ring (fun d => d.opcode == 5) crcPiece s))

/-! Page operations. -/

/-- The region and page that a page operation acts on next. -/
def couPage (w : CouWho) (d : Desc) (s : State) : CouRes (Region × Nat) :=
  match couAt w ((d.dst + d.done) / 64) s with
  | .blocked s => .blocked s
  | .ended k s => .ended k s
  | .ok (r, line) s =>
    if s.entryKnown (linePage line) then .ok (r, linePage line) (useEntry (linePage line) s)
    else .blocked (fetchEntry (linePage line) s)

/-- Step 2 of R296: every host copy of a page's lines is back-invalidated. -/
def pageSnoops (w : CouWho) (page : Nat) (s : State) : State :=
  forAll (s.home.filt.filter (fun x => linePage x.1 == page && !x.2.held)) (fun x s => forHeads (x.2.holders &&& ~~~s.home.dead)
    (fun h s => if (s.snoopOf h x.1).isSome || s.cou.timed.contains (w.key, x.1) then s
      else sendSnoop h x.1 false [x.1] .inv (.courier w.key) s) s) s

/-- Nothing of a page is under way: its lock is free, no host copy, request, eviction, fill or buffered write of it is left. -/
def State.pageQuiet (s : State) (w : CouWho) (page : Nat) : Bool :=
  !(s.locked page) && !(s.home.filt.any (fun x => linePage x.1 == page && !(s.cou.timed.contains (w.key, x.1)))) &&
    !(s.home.reqs.any (fun q => linePage q.line == page)) && !(s.home.evt.any (fun t => linePage t.line == page)) &&
    !(s.fc.fills.any (fun f => sheetPage f.sheet == page))

/-- A page becomes Written with nothing stored; PINNED and GEN are kept (R296). -/
def zeroPage (page : Nat) (s : State) : State :=
  let e := s.entry page
  let s := heldChange page false e.run (disownRun e.parcel e.run s)
  deadClearPage page (setEntry page { PageEntry.none with gen := e.gen, pinned := e.pinned, written := true } s)

/-- A page of a ZERO or a RELEASE (R296). -/
def clearPiece (zero : Bool) : Piece := fun w d s =>
  match couPage w d s with
  | .blocked s => .blocked s
  | .ended k s => .ended k s
  | .ok (_, page) s =>
    if !(s.pageQuiet w page) then .blocked (pageSnoops w page s)
    else
      let next := { d with done := d.done + 4096 }
      let written := (s.entry page).written
      let s := forgetPages (fun p => p == page) s
      if !written then .ok next s
      else .ok { next with result := d.result + 1 } (if zero then zeroPage page s else clearPage page s)

/-- ZERO (R296). -/
def execZero (ring : Nat) (s : State) : Host.Outcome State Fault Refusal :=
  .next (settle (couWork ring (fun d => d.opcode == 3) (clearPiece true) s))

/-- RELEASE (R296). -/
def execRelease (ring : Nat) (s : State) : Host.Outcome State Fault Refusal :=
  .next (settle (couWork ring (fun d => d.opcode == 8) (clearPiece false) s))

/-- A page of a hint (R192): `act` answers the state after it and whether the page changed, or none where the hint is refused. -/
def hintPiece (act : Nat → State → Option (Bool × State)) : Piece := fun w d s =>
  match couPage w d s with
  | .blocked s => .blocked s
  | .ended k s => .ended k s
  | .ok (r, page) s =>
    let next := { d with done := d.done + 4096 }
    if !s.part.persist || r.tier ≠ 0 then .ok next s
    else if s.locked page then .blocked s
    else match act page s with
      | none => .ended 3 (raise 461 s)
      | some (ch, s) => .ok { next with result := d.result + ch.toNat } s

/-- A page is stored in media. -/
def State.inMedia (s : State) (page : Nat) : Bool := (s.entry page).run != 0 && (s.entry page).tier

/-- Pin (R192): refused above the cap; a page without a written entry stays as it is. -/
def pinPage (page : Nat) (s : State) : Option (Bool × State) :=
  let e := s.entry page
  if e.pinned || !e.written then some (false, s)
  else if s.rd TIE_PIN_LIMIT * 262144 < s.rd TIE_PIN_USED + 1 then none
  else
    let s := setEntry page { e with pinned := true } (s.wr TIE_PIN_USED (s.rd TIE_PIN_USED + 1))
    some (true, if s.inMedia page then addWork page 0 (.migrate true true) s else s)

/-- Unpin (R192). -/
def unpinPage (page : Nat) (s : State) : Option (Bool × State) :=
  let e := s.entry page
  if e.pinned then some (true, setEntry page { e with pinned := false } (s.wr TIE_PIN_USED (s.rd TIE_PIN_USED - 1)))
  else some (false, s)

/-- Promote (R192): the queue of R189, without its heat. -/
def promotePage (page : Nat) (s : State) : Option (Bool × State) :=
  if !(s.inMedia page) || s.cap.promoQ.contains page then some (false, s)
  else if s.cap.promoQ.length < 4096 then some (true, { s with cap := { s.cap with promoQ := s.cap.promoQ ++ [page] } })
  else some (false, s.bump TIE_STAT2_QDROP 1)

/-- Demote (R192): at once, unless PINNED is set. -/
def demotePage (page : Nat) (s : State) : Option (Bool × State) :=
  let e := s.entry page
  if e.pinned || e.run = 0 || e.tier || s.work.any (fun w => w.page == page && w.kind == .migrate false true) then some (false, s)
  else some (true, addWork page 0 (.migrate false true) s)

/-- A hint of a kind. -/
def Desc.hint (d : Desc) (k : Nat) : Bool := d.opcode == 7 && d.opnd % 4 == k

/-- HINT_PIN (R192). -/
def execHintPin (ring : Nat) (s : State) : Host.Outcome State Fault Refusal :=
  .next (settle (couWork ring (fun d => d.hint 0) (hintPiece pinPage) s))
/-- HINT_UNPIN (R192). -/
def execHintUnpin (ring : Nat) (s : State) : Host.Outcome State Fault Refusal :=
  .next (settle (couWork ring (fun d => d.hint 1) (hintPiece unpinPage) s))
/-- HINT_PROMOTE (R192). -/
def execHintPromote (ring : Nat) (s : State) : Host.Outcome State Fault Refusal :=
  .next (settle (couWork ring (fun d => d.hint 2) (hintPiece promotePage) s))
/-- HINT_DEMOTE (R192). -/
def execHintDemote (ring : Nat) (s : State) : Host.Outcome State Fault Refusal :=
  .next (settle (couWork ring (fun d => d.hint 3) (hintPiece demotePage) s))

/-! Scrub (R256). -/

/-- What the tiers show a scrub: the sheet that meets the sealing engine `eng`, the sheets that needed correction, those found
uncorrectable, and the pages a sector of which meets R249. -/
structure ScrubEnv where
  chk : Nat
  eng : EngEnv
  corrected : List Nat
  lost : List Nat
  late : List Nat
  deriving DecidableEq, Repr

/-- A stored sheet is found uncorrectable (R209, R247). -/
def scrubLost (r : Region) (page i : Nat) (s : State) : State :=
  let e := s.entry page
  let a := e.parcel * 512 + sheetOffset r.opq e i
  if e.tier then sectorLost (a / 512) s
  else
    let c := parcelUnit s (a / 512) / 2
    let b := a / 64
    let s := { s with mem := { s.mem with lost := b :: s.mem.lost.filter (· ≠ b) } }
    let s := recordSheet (16 * page + i) 1 (raise (512 + 8 * c) (s.bump DRM_CH_ECC_UE 1 c))
    fault 3 c 1 (512 + 8 * c) a 0x21 (markRow (dramLoc s a).rowId s)

/-- A stored sheet needed correction (R208, R248). -/
def scrubCorrected (r : Region) (page i : Nat) (s : State) : State :=
  let e := s.entry page
  let a := e.parcel * 512 + sheetOffset r.opq e i
  if e.tier then dieError (parcelStack e.parcel) (s.holdingDie (a / 512)) s
  else
    let l := dramLoc s a
    (bucketAdd (l.unit * 2 + l.rank) (s.bump DRM_CH_ECC_CE 1 (l.unit / 2))).2

/-- One sheet of a scrub: the counts corrected and uncorrectable it adds. -/
def scrubSheet (v : ScrubEnv) (r : Region) (k : KeySlot) (page i : Nat) (s : State) : (Nat × Nat) × State :=
  let e := s.entry page
  if !(storedCode (e.code i)) || s.stopped || s.bytesFenced (e.parcel * 512) 64 ||
      s.bytesFenced (e.parcel * 512 + sheetOffset r.opq e i) (sheetLen r.opq (e.code i)) then ((0, 0), s)
  else if !(s.sheetOk r.opq e i) then ((0, 0), s)
  else if v.lost.contains (16 * page + i) then ((0, 4), scrubLost r page i s)
  else
    let s := if v.corrected.contains (16 * page + i) then scrubCorrected r page i s else s
    let plain : EngEnv := { v.eng with sealBad := false, altered := none }
    let u := if 16 * page + i = v.chk then v.eng else plain
    let (c, tag) := u.altered.getD (s.sheetBytes r.opq e i, s.tagSlot e i)
    let c := fit (sheetLen r.opq (e.code i)) c
    let (_, s) := tagCheck page i r.keydom e (tag == sheetTag k page i r.keydom (e.code i) e.gen c) u 0x21 0x1F false s
    ((if v.corrected.contains (16 * page + i) then 4 else 0, 0), s)

/-- A line of a page reads as poison: in the front cache or the buffer, at its backing location, in a sheet of code 15, in a
sheet that cannot be read, or marked in the stored form. -/
def State.readsPoison (s : State) (r : Region) (k : KeySlot) (line : Nat) : Bool :=
  let e := s.entry (linePage line)
  let i := line / 4 % 16
  match s.fcLine line with
  | some l => l.poison
  | none => match s.wbLine line with
    | some x => x.poison
    | none =>
      s.mem.backPoison.contains line || e.code i == 15 ||
        (storedCode (e.code i) && (!(s.sheetOk r.opq e i) ||
          (e.code i != 8 && (fieldAt (xtsDec k (linePage line) i (s.sheetBytes r.opq e i)) 0 1).testBit (4 + line % 4))))

/-- A page of a SCRUB (R256). -/
def scrubPiece (v : ScrubEnv) : Piece := fun w d s =>
  match couPage w d s with
  | .blocked s => .blocked s
  | .ended k s => .ended k s
  | .ok (r, page) s =>
    let next := { d with done := d.done + 4096 }
    match s.keys.slots.find r.keydom with
    | none => .ended 0x12 s
    | some k =>
      if (s.entry page).run = 0 then .ok next s
      else
        let ((corr, lost), s) := (List.range 16).foldl (fun (x : (Nat × Nat) × State) i =>
          let (y, s) := scrubSheet v r k page i x.2
          ((x.1.1 + y.1, x.1.2 + y.2), s)) ((0, 0), s)
        let bad := ((List.range 64).filter (fun i => s.readsPoison r k (64 * page + i))).length
        let moves := v.late.contains page && s.inMedia page && s.mayReclaim
        let s := if moves then addWork page 0 (.relocate (parcelStack (s.entry page).parcel)) s else s
        let add := [64, corr, lost, bad, if moves then 64 else 0]
        .ok { next with counts := (d.counts.zip add).map (fun x => min (x.1 + x.2) 0xFFFFFFFF) } s

/-- SCRUB (R256). -/
def execScrub (ring chk : Nat) (v : EngEnv) (corrected lost late : List Nat) (s : State) : Host.Outcome State Fault Refusal :=
  .next (settle (couWork ring (fun d => d.opcode == 9) (scrubPiece ⟨chk, v, corrected, lost, late⟩) s))

/-! Completions (R293, R299 to R302). -/

/-- The DONE field: for a compare or CRC over poison the offset of the first poisoned line, for a refused pin the pages before it. -/
def Desc.doneField (d : Desc) : Nat :=
  if d.status = 3 then d.done / 4096 else match d.bad with | some o => if d.status = 2 then o else d.done | none => d.done

/-- The 32 bytes of a completion record of a ring of 2^logsz entries (R299). -/
def Desc.record (d : Desc) (logsz : Nat) : List Byte :=
  let top := [BitVec.ofNat 8 d.status, BitVec.ofNat 8 d.opcode, BitVec.ofNat 8 (1 - d.index / 2 ^ logsz % 2), 0] ++ slice d.bytes 4 4
  if d.opcode = 9 then top ++ d.counts.flatMap (leBytes 4) ++ zeros 4
  else top ++ leBytes 8 d.result ++ leBytes 8 d.doneField ++ leBytes 4 (d.poisonRead.length + d.poisonWritten) ++ zeros 4

/-- A descriptor leaves its ring: HEAD advances, or the ring enters Error; a closing ring becomes Closed (R288, R291). -/
def descGone (r : Nat) (g : Ring) (ok : Bool) (s : State) : State :=
  let g' := { g with desc := none, hd := if ok then (g.hd + 1) % 4294967296 else g.hd }
  let s := setRing r (some g') (forgetSnoops r s)
  if g.closing then ringClosed r g' s
  else if ok then s else ringError r g' 2 s

/-- DESCRIPTOR_COMPLETE (R293): the record of a finished descriptor is written, or left out under ERRONLY. -/
def descComplete (r : Nat) (s : State) : State :=
  match s.ring r with
  | none => s
  | some g => match g.desc with
    | none => s
    | some d =>
      if s.stopped || s.powerFlush || !d.finished then s
      else
        let tally := fun (s : State) =>
          let s := count 0x800 (some (g.head, clsBit g.cls false)) d.engine 1 (s.bump COU_ENG_DESC 1 d.engine)
          if 0x10 ≤ d.status then s.bump COU_ENG_B_ERRS 1 d.engine else s
        if d.flags.testBit 1 && decide (d.status ≤ 1) then descGone r g true (tally s)
        else match couPut ⟨r, g.head, s.ceil g.head g.cls⟩ (g.cbase + 32 * (d.index % g.entries)) (d.record g.logsz) false s with
          | .blocked s => s
          | .ended _ s => descGone r g false (tally s)
          | .ok true s => descGone r g false (tally s)
          | .ok false s =>
            let s := descGone r g true (tally s)
            if d.flags.testBit 0 then raiseVec (896 + g.head) 0xFFFF g.vec s else s

/-- DESCRIPTOR_COMPLETE (R293). -/
def execDescriptorComplete (ring : Nat) (s : State) : Host.Outcome State Fault Refusal := .next (settle (descComplete ring s))

/-- DESCRIPTOR_TIMEOUT (R301). -/
def descTimeout (r : Nat) (s : State) : State :=
  match s.ring r with
  | none => s
  | some g => match g.desc with
    | none => s
    | some d => if s.stopped || d.finished then s else raise 928 (setDesc r (some (d.finish 0x15)) (forgetSnoops r s))

/-- DESCRIPTOR_TIMEOUT (R301). -/
def execDescriptorTimeout (ring : Nat) (s : State) : Host.Outcome State Fault Refusal := .next (settle (descTimeout ring s))

/-- COURIER_STATE_ERROR (R284, R417): a Fatal fault of an engine. -/
def execCourierStateError (e : Nat) (s : State) : Host.Outcome State Fault Refusal :=
  .next (settle (if s.stopped || s.modeCode == 1 || s.modeCode == 6 || !(s.liveEngines.contains e) then s else fault 7 e 2 929 e 0 s))

end Sys2Proof.Machine
end

