-- ==== Sys2Proof/Machine/Qos.lean ====
section
/-! DEFINITION. Regulation (chapter 13): the refill of the token buckets, the ageing of Overdraft requests, and Set Class Budget
with its admission checks. -/
namespace Sys2Proof.Machine

/-- The rate in force of a head and class at a token resource. -/
def rateFld (r : Nat) : Fld := if r = 0 then QOS_BUD_A_DRAM else if r = 1 then QOS_BUD_A_MEDIA else QOS_BUD_A_COU

/-- Tokens still owed to a lowered capacity leave SPENT (R310). -/
def payOwed (t : TokRes) : TokRes :=
  let k := min t.spent t.owed
  { t with spent := t.spent - k, total := t.total - k, owed := t.owed - k }

/-- One bucket's refill from what is available in the pool (R311). -/
def refillBucket (rate : Nat → Nat) (t : TokRes) (key : Nat) : TokRes :=
  let b := t.buckets.get key 0
  let add := min (min (rate key) (8 * rate key - b)) t.pool
  { t with buckets := if b + add = 0 then t.buckets.del key else t.buckets.put key (b + add), pool := t.pool - add }

/-- The order of a refill: class by class from Express, heads ascending (R311). Keys are head × 4 + class. -/
def refillOrder : List Nat := (List.range 4).flatMap (fun c => (List.range 16).map (fun h => 4 * h + c))

/-- A refill of a token resource (R311). -/
def refill (rate : Nat → Nat) (t : TokRes) : TokRes :=
  let t := payOwed t
  refillOrder.foldl (refillBucket rate) { t with pool := t.pool + t.spent, spent := 0 }

/-- The budget fields, each with its capacity for all heads and classes (R308, R316): 0 DRAM, 1 media, 2 Courier, 3 trackers,
4 write queue, 5 front cache. -/
def budgetFld (i : Nat) : Fld :=
  match i with
  | 0 => QOS_BUD_A_CFG_DRAM
  | 1 => QOS_BUD_A_MEDIA
  | 2 => QOS_BUD_B_CFG_COU
  | 3 => QOS_BUD_B_TRK
  | 4 => QOS_BUD_B_WQ
  | _ => QOS_BUD_B_FC

/-- A budget comes into force (R315): a configured DRAM or Courier rate with the rate in force. -/
def applyBudget (i key v : Nat) (s : State) : State :=
  let s := s.wr (budgetFld i) v key
  if i = 0 then s.wr QOS_BUD_A_DRAM v key else if i = 2 then s.wr QOS_BUD_A_COU v key else s

/-- The budgets whose refill has come take effect; lowered admissions let scaled rates rise (R315, R320). -/
def applyBudgets (s : State) : State :=
  let due := s.qos.waits.filter (fun w => w.waits ≤ 1)
  let s := { s with qos := { s.qos with waits := (s.qos.waits.filter (fun w => 1 < w.waits)).map (fun (w : RateWait) => { w with waits := w.waits - 1 }) } }
  if due.isEmpty then s else restoreAdmission (forAll due (fun w s => applyBudget w.fld w.idx w.value s) s)

/-- Write a budget: it takes effect at the first refill that starts at least 1 µs later, which is the second from now (R315). -/
def writeBudget (i key v : Nat) (s : State) : State :=
  { s with qos := { s.qos with waits := s.qos.waits.filter (fun w => !(w.fld == i && w.idx == key)) ++ [⟨i, key, v, 2⟩] } }

/-- The units of the controller are running. -/
def State.running (s : State) : Bool := s.modeCode != 1 && s.modeCode != 2 && s.modeCode != 6 && !s.stopped

/-- TOKEN_REFILL (R311): every token resource. -/
def tokenRefill (s : State) : State :=
  if !s.running then s
  else
    let s := applyBudgets s
    forAll [0, 1, 2] (fun r s => setTok r (refill (fun key => s.rd (rateFld r) key) (s.tok r)) s) s

/-- TOKEN_REFILL (R311). -/
def execTokenRefill (s : State) : Host.Outcome State Fault Refusal := .next (settle (tokenRefill s))

/-- OVERDRAFT_AGE (R314): an Overdraft access in a channel's queue (resource 0), or a request beyond its share of trackers (resource
3), is served at Bulk from now on. -/
def overdraftAge (resource id : Nat) (s : State) : State :=
  let age := fun (a : DAcc) => if a.id = id ∧ a.ovd then { a with aged := true } else a
  if resource = 0 then
    { s with dram := { s.dram with rdq := s.dram.rdq.map (fun x => (x.1, x.2.map age)), wrq := s.dram.wrq.map (fun x => (x.1, x.2.map age)) } }
  else
    { s with qos := { s.qos with ovd := s.qos.ovd.map (fun (w : OverWait) =>
        if w.req = id ∧ w.resource = resource then { w with aged := true } else w) } }

/-- OVERDRAFT_AGE (R314). -/
def execOverdraftAge (resource id : Nat) (s : State) : Host.Outcome State Fault Refusal := .next (settle (overdraftAge resource id s))

/-! Set Class Budget. -/

/-- A budget with the writes that wait taken as made. -/
def State.budget (s : State) (i key : Nat) : Nat :=
  match s.qos.waits.find? (fun w => w.fld == i && w.idx == key) with
  | some w => w.value
  | none => s.rd (if i < 3 then rateFld i else budgetFld i) key

/-- The capacity the budgets of a resource sum to at most (R316). -/
def State.budgetCap (s : State) (i : Nat) : Nat :=
  match i with
  | 0 => s.qos.dram.cap
  | 1 => s.qos.media.cap
  | 2 => s.qos.cou.cap
  | 3 => 960
  | 4 => 128
  | _ => 65536

/-- The rules of R316 hold for new budgets of one head and class. -/
def State.admits (s : State) (key : Nat) (v : List Nat) : Bool :=
  let val := fun (i k : Nat) => if k = key then (v[i]?).getD 0 else s.budget i k
  let sum := fun (i : Nat) => (List.range 64).foldl (fun a k => a + val i k) 0
  (List.range 6).all (fun i => decide (sum i ≤ s.budgetCap i) && decide ((v[i]?).getD 0 < 2 ^ (budgetFld i).w)) &&
    decide ((List.range 16).foldl (fun a h => a + val 0 (4 * h)) 0 ≤ s.dramLimit)

/-- SET_CLASS_BUDGET (R315, R316): the six budgets of a head and class, in the order of R308. -/
def setClassBudget (rt : Route) (h cls : Nat) (v : List Nat) (s : State) : State :=
  mboxHostw rt (fun s =>
    if 4 ≤ cls || v.length ≠ 6 || !(s.admits (4 * h + cls) v) then reply rt .invalidInput [] s
    else reply rt .success [] (forAll (List.range 6) (fun i s => writeBudget i (4 * h + cls) ((v[i]?).getD 0) s) s)) s

/-- SET_CLASS_BUDGET (R315). -/
def execSetClassBudget (rt : Route) (h : Head) (cls : Nat) (budgets : List Nat) (s : State) : Host.Outcome State Fault Refusal :=
  .next (settle (setClassBudget rt h cls budgets s))

end Sys2Proof.Machine
end

