-- ==== Sys2Proof/Machine/HostPort.lean ====
section
/-! DEFINITION. The host ports (chapter 14): heads and quads, link training, the head reset, IDE, viral and link errors, and the
test sessions of Factory Test. -/
namespace Sys2Proof.Machine

/-! Heads and quads (R323). -/

/-- A head begins at quad h: its width code is 1 x4, 2 x8 or 3 x16. -/
def State.headExists (s : State) (h : Nat) : Bool := 1 ≤ s.quad h && s.quad h ≤ 3

/-- The head that a quad belongs to. -/
def State.quadHead (s : State) (q : Nat) : Option Nat :=
  (List.range 16).find? (fun h => s.headExists h && decide (h ≤ q) && decide (q < h + 2 ^ (s.quad h - 1)))

/-- A head's link is up, with CXL or as PCI Express only; a fenced head's is. -/
def State.linkUp (s : State) (h : Nat) : Bool :=
  s.rd HPT_LNK_STATE h == 3 || s.rd HPT_LNK_STATE h == 4 || s.rd HPT_LNK_STATE h == 6

/-- An event of a head (R333). -/
def headEvent (h k : Nat) : Nat := 128 + 8 * h + k

/-! The head reset (R338). -/

/-- A head's link leaves its present state; hosts see it go down. -/
def linkTo (h st : Nat) (s : State) : State :=
  let was := s.linkUp h
  let s := (((s.wr HPT_LNK_STATE st h).wr HPT_LNK_RATE 0 h).wr HPT_LNK_WIDTH 0 h).wr HPT_LNK_LOFLIT 0 h
  let s := { s with ports := { s.ports with l2 := s.ports.l2 &&& ~~~(headBit h) } }
  if was then raise (headEvent h 0) s else s

/-- Step 1: ingress stops; requests that slices accepted complete without responses, and accepted writes stand. -/
def muteHead (h : Nat) (s : State) : State :=
  let s := { s with home := { s.home with
    held := s.home.held.filter (fun q => q.head ≠ h)
    reqs := s.home.reqs.map (fun (q : Req) => if q.head = h then { q with mute := true, mv := .invalid } else q) } }
  forAll (s.home.reqs.filter (fun q => q.head == h && !(q.kind == .wr || q.kind == .wrPtl))) completePoisoned s

/-- Step 2: the mask, and the head leaves every filter; its timeout count is 0. -/
def clearHead (h : Nat) (s : State) : State :=
  let s := expelHead h { s with home := { s.home with dead := s.home.dead ||| headBit h } }
  s.wr HOM_HEAD_TO_RUN 0 h

/-- Step 3: the head's rings abort and close, its opens end, and its maintenance operation stops. A ring whose record waits for
its line closes with that record. -/
def closeRings (h : Nat) (s : State) : State :=
  let s := forgetSnoops (262144 + h) { s with cou := { s.cou with opens := s.cou.opens.filter (fun x => x.1 ≠ h) } }
  let s := forAll (s.ringsOf h) (fun x s =>
    let s := setRing x.1 (some { x.2.endDesc 0x14 with closing := true }) s
    match x.2.desc with
    | some _ => descComplete x.1 s
    | none => ringClosed x.1 x.2 s) s
  stopMop h (s.wr COU_RQ_USED (s.ringsOf h).length h)

/-- The registers banked for a head, beside the standard CXL blocks (R331). -/
def bankedFlds : List Fld := [FCA_MOP_ADDR_LINE, FCA_MOP_CTL_LINES, FCA_MOP_CTL_OP, FCA_MOP_STAT_BUSY, FCA_MOP_STAT_RESULT,
  FCA_MOP_STAT_REFUSED, FCA_MOP_STAT_DONE, FCA_MOP_STAT_SKIP, COU_ROPEN_CTX, COU_ROPEN_OP, COU_RSTAT_RING, COU_RSTAT_BUSY,
  COU_RSTAT_RESULT, COU_RSTAT_REFUSED]

/-- A head's IDE keys of some streams are discarded. -/
def dropIde (h : Nat) (p : Nat → Bool) (s : State) : State :=
  { s with ports := { s.ports with ide := s.ports.ide.filter (fun x => !(x.head == h && p x.stream)) } }

/-- The secured sessions with a side end, with event 993 (R438, R475, R483). -/
def endSessions (rt : Route) (s : State) : State :=
  if s.inSession rt then raise 993 { s with mgt := { s.mgt with sessions := s.mgt.sessions.filter (fun x => x.side != rt) } } else s

/-- Step 4: banked registers and MSI-X state at reset, IDE keys gone, the mask removed; a lifted fence ends here (R425). -/
def resetBanked (h : Nat) (s : State) : State :=
  let s := forAll bankedFlds (fun f s => s.unset f h) s
  let s := endSessions (.head (Fin.ofNat 16 h)) (dropIde h (fun _ => true) (s.wr HPT_LNK_IDE 0 h))
  let s := { s with ports := { s.ports with
    msix := s.ports.msix.filter (fun x => x.1 / 512 ≠ h)
    msixPend := s.ports.msixPend.filter (fun x => x / 128 ≠ h)
    fnMask := s.ports.fnMask &&& ~~~(headBit h) } }
  let s := if s.ports.liftPending.getLsbD h then
      { ((s.wr HPT_LNK_FCAUSE 0 h).wr HOM_HEAD_DEAD 0 h).wr FLT_U_FENCED 0 (unitIdx 1 h) with ports := { s.ports with
          liftPending := s.ports.liftPending &&& ~~~(headBit h), moreCause := s.ports.moreCause &&& ~~~(headBit h) } }
    else s
  if s.headFenced h then s else { s with home := { s.home with dead := s.home.dead &&& ~~~(headBit h) } }

/-- A head reset; the link then stands in a state: 1 in reset, 2 training, 7 test. -/
def headReset (h st : Nat) (s : State) : State :=
  if s.stopped then linkTo h st s
  else releaseHeld (resetBanked h (closeRings h (clearHead h (muteHead h (linkTo h st s)))))

/-- A reset may reach a head: its training was enabled, and the device is not in Stop (R379). -/
def State.headLive (s : State) (h : Nat) : Bool := s.headExists h && s.rd HPT_LNK_STATE h != 0 && s.modeCode != 6

/-- PERST_ASSERT of quad q (R324, R338): ignored where the quad begins no head. -/
def perstAssert (q : Nat) (s : State) : State :=
  let s := { s with pins := { s.pins with perstN := s.pins.perstN &&& ~~~(headBit q) } }
  if s.headLive q then headReset q 1 s else s

/-- PERST_ASSERT (R338). -/
def execPerstAssert (q : Head) (s : State) : Host.Outcome State Fault Refusal := .next (settle (perstAssert q s))

/-- PERST_DEASSERT (R338 step 5): training begins. -/
def perstDeassert (q : Nat) (s : State) : State :=
  let s := { s with pins := { s.pins with perstN := s.pins.perstN ||| headBit q } }
  if s.headLive q && s.rd HPT_LNK_STATE q == 1 then s.wr HPT_LNK_STATE 2 q else s

/-- PERST_DEASSERT (R338). -/
def execPerstDeassert (q : Head) (s : State) : Host.Outcome State Fault Refusal := .next (settle (perstDeassert q s))

/-- HOT_RESET (R338): received on a link that is up. -/
def execHotReset (h : Head) (s : State) : Host.Outcome State Fault Refusal :=
  .next (settle (if s.headLive h && s.linkUp h then headReset h 2 s else s))

/-- The data link layer of a head leaves DL_Active (R338): a head reset, which is not a conventional reset that ends a lifted
fence (R425). -/
def dlLost (h : Nat) (s : State) : State :=
  if s.headLive h && s.linkUp h then
    let keep := s.ports.liftPending
    let s := headReset h 2 { s with ports := { s.ports with liftPending := keep &&& ~~~(headBit h) } }
    { s with ports := { s.ports with liftPending := keep } }
  else s

/-- DL_ACTIVE_LOST (R338). -/
def execDlActiveLost (h : Head) (s : State) : Host.Outcome State Fault Refusal := .next (settle (dlLost h s))

/-! Link training (R325). -/

/-- A head's link trains: rate and width as trained, coded as MAXRATE and as WIDTH, with CXL or as PCI Express only. A head
that cannot train at x4 stays down; a fenced head shows as fenced. -/
def trained (h : Nat) (cxl : Bool) (rate width : Nat) (loflit : Bool) (s : State) : State :=
  let st := s.rd HPT_LNK_STATE h
  if !(s.headExists h) || !(st == 2 || st == 5) || s.modeCode == 6 || width = 0 then s
  else
    let s := s.wr HPT_LNK_STATE (if s.headFenced h then 6 else if cxl then 4 else 3) h
    let s := (s.wr HPT_LNK_RATE (max (rate % 4) (s.rd HPT_HCFG_MAXRATE h)) h).wr HPT_LNK_WIDTH (min width (s.quad h)) h
    let s := s.wrB HPT_LNK_LOFLIT (loflit && s.rdB HPT_HCFG_LOFLIT h) h
    raise (headEvent h 0) { s with ports := { s.ports with l2 := s.ports.l2 &&& ~~~(headBit h) }
                                   pins := { s.pins with wakeN := true } }

/-- LINK_UP (R325). -/
def execLinkUp (h : Head) (cxl : Bool) (rate width : Nat) (loflit : Bool) (s : State) : Host.Outcome State Fault Refusal :=
  .next (settle (trained h cxl rate width loflit s))

/-! IDE (R334, R335). -/

/-- An IDE stream of a head. -/
def State.ideStream (s : State) (h stream : Nat) : Option IdeStream :=
  s.ports.ide.find? (fun x => x.head == h && x.stream == stream)

/-- IDE_KM programs the key set of a stream (0 CXL.cachemem, 1 link, 2 and 3 selective), and with `go` switches the stream to it,
within an SPDM session with the head. -/
def ideProgram (h stream key : Nat) (go : Bool) (s : State) : State :=
  if !(s.linkUp h) || 4 ≤ stream || !(s.inSession (.head (Fin.ofNat 16 h))) then s
  else
    let old := match s.ideStream h stream with | some x => x.secure | none => false
    let s := dropIde h (· == stream) s
    let s := { s with ports := { s.ports with ide := s.ports.ide ++ [⟨h, stream, key, go || old⟩] } }
    if go && stream == 0 then s.wr HPT_LNK_IDE 1 h else s

/-- IDE_KM_KEY_PROGRAM (R334). -/
def execIdeKmKeyProgram (h : Head) (stream key : Nat) (go : Bool) (s : State) : Host.Outcome State Fault Refusal :=
  .next (settle (ideProgram h stream key go s))

/-- The DPA lines of a head's lines. -/
def State.linesOf (s : State) (h : Nat) (l : List Nat) : List Nat :=
  l.filterMap (fun a => (layoutFind (s.headRegions h) a).map (·.2))

/-- A check of a CXL.cachemem stream fails (R335). In skid mode the lines that requests of the epoch wrote are poisoned, and its
reads get no response; in containment mode nothing of the epoch was accepted. -/
def ideFailure (h : Nat) (written read : List Nat) (s : State) : State :=
  if !(s.linkUp h) || s.rd HPT_LNK_IDE h ≠ 1 || s.stopped then s
  else
    let skid := s.rd HPT_HCFG_IDEMODE h = 0
    let s := if skid then
        let rl := s.linesOf h read
        let s := { s with home := { s.home with reqs := s.home.reqs.map (fun (q : Req) =>
          if q.head = h ∧ q.kind.isRead ∧ rl.contains q.line then { q with mute := true } else q) } }
        forAll (s.linesOf h written) (fun l s => poisonLine l 11 h s) s
      else s
    let s := (dropIde h (fun _ => true) (s.wr HPT_LNK_IDE 2 h)).bump HPT_ERR2_IDEFAIL 1 h
    if s.headFenced h then fenceCause h 2 s else fault 1 h 2 (headEvent h 4) 0 0 (fenceCause h 2 s)

/-- IDE_CHECK_FAILURE (R335). -/
def execIdeCheckFailure (h : Head) (written read : List Nat) (s : State) : Host.Outcome State Fault Refusal :=
  .next (settle (releaseHeld (ideFailure h written read s)))

/-- CXL_IO_IDE_FAILURE (R335): the keys of a CXL.io stream are discarded, and nothing is fenced. -/
def execCxlIoIdeFailure (h : Head) (stream : Nat) (s : State) : Host.Outcome State Fault Refusal :=
  .next (settle (if s.linkUp h && 1 ≤ stream && stream < 4 then dropIde h (· == stream) s else s))

/-! Viral and link errors (R336, R337). -/

/-- A cause fences a head whose link is up with CXL. -/
def fenceHead (h cause : Nat) (s : State) : State :=
  if s.stopped || !(s.rd HPT_LNK_STATE h == 4 || s.headFenced h) then s
  else if s.headFenced h then fenceCause h cause s
  else releaseHeld (fault 1 h 2 (headEvent h 4) 0 0 (fenceCause h cause s))

/-- VIRAL_RECEIVED (R336). -/
def execViralReceived (h : Head) (s : State) : Host.Outcome State Fault Refusal := .next (settle (fenceHead h 3 s))

/-- UNCORRECTABLE_LINK_ERROR (R337). -/
def execUncorrectableLinkError (h : Head) (s : State) : Host.Outcome State Fault Refusal := .next (settle (fenceHead h 4 s))

/-! Test sessions (R340). -/

/-- HOST_TEST_ENTER: EN set with the fields of HPT_PG_q. The quad's head, if one uses it, is reset. -/
def hostTestEnter (q dir pat lanes : Nat) (s : State) : State :=
  if s.modeCode ≠ 0 ∨ s.ports.testQuads.contains q then s
  else
    let s := (((s.wr HPT_PG_EN 1 q).wr HPT_PG_DIR dir q).wr HPT_PG_PAT pat q).wr HPT_PG_LANES lanes q
    let s := { s with ports := { s.ports with testQuads := q :: s.ports.testQuads } }
    match s.quadHead q with
    | some h => headReset h 7 s
    | none => s

/-- HOST_TEST_ENTER (R340). -/
def execHostTestEnter (q : Head) (dir pat lanes : Nat) (s : State) : Host.Outcome State Fault Refusal :=
  .next (settle (hostTestEnter q dir pat lanes s))

/-- HOST_TEST_EXIT: EN cleared, with what the checker found; the head returns to Detect once none of its quads is under test. -/
def hostTestExit (q : Nat) (res : List Nat) (s : State) : State :=
  if !(s.ports.testQuads.contains q) then s
  else
    let s := checkerResults HPT_PCNT_ERR HPT_PCNT_BITS HPT_PCNT_LOCK (4 * q) 4 res (s.wr HPT_PG_EN 0 q)
    let s := { s with ports := { s.ports with testQuads := s.ports.testQuads.filter (· ≠ q) } }
    match s.quadHead q with
    | some h => if s.ports.testQuads.any (fun j => s.quadHead j == some h) then s
        else s.wr HPT_LNK_STATE (if s.pins.perstN.getLsbD h then 2 else 1) h
    | none => s

/-- HOST_TEST_EXIT (R340). -/
def execHostTestExit (q : Head) (res : List Nat) (s : State) : Host.Outcome State Fault Refusal :=
  .next (settle (hostTestExit q res s))

/-- HOST_COUNTER_CLEAR (R340): HPT_PG_q.CLR. -/
def execHostCounterClear (q : Head) (s : State) : Host.Outcome State Fault Refusal :=
  .next (settle (forAll (List.range 4) (fun l s =>
    ((s.wr HPT_PCNT_ERR 0 (4 * q + l)).wr HPT_PCNT_BITS 0 (4 * q + l)).wr HPT_PCNT_LOCK 0 (4 * q + l)) s))

/-- HOST_ERROR_INJECT: GO written with the fields of HPT_INJ_q (R279, R340). -/
def hostInject (q lane mode blen : Nat) (s : State) : State :=
  if s.modeCode ≠ 0 ∨ 4 ≤ lane then s
  else
    let s := ((s.wr HPT_INJ_LANE lane q).wr HPT_INJ_MODE mode q).wr HPT_INJ_BLEN blen q
    (s.bump HPT_INJ_COUNT 1 q).emit (.xfer 6 [q, lane, mode, blen])

/-- HOST_ERROR_INJECT (R340). -/
def execHostErrorInject (q : Head) (lane mode blen : Nat) (s : State) : Host.Outcome State Fault Refusal :=
  .next (settle (hostInject q lane mode blen s))

end Sys2Proof.Machine
end

