-- ==== Sys2Proof/Machine/Tailrace.lean ====
section
/-! DEFINITION. Persistence and the Tailrace (chapter 15): stripes verified, the triggers, GPF, and the bank's voltage. -/
namespace Sys2Proof.Machine

/-- STRIPE_PROGRAMME_COMPLETE (R229, R230, R233): all 33 sectors verified, or the sector of a die failed. -/
def execStripeProgrammeComplete (k g stripe : Nat) (bad : Option Nat) (s : State) : Host.Outcome State Fault Refusal :=
  .next (settle (if s.stopped then s else stripeEnd k g stripe bad s))

/-- At a trigger the pair in use is switched off and the charger stops (R368, R369). -/
def gatesOff (s : State) : State := (s.wr PWR_STAT_SEL 0).wr PWR_BANK_STATE 0

/-- The module draws on its feeds or on its bank: power-good stands, or the converters still run after a trip. -/
def State.powered (s : State) : Bool := s.rdB PWR_STAT_PG || s.pwr.converters || s.modeCode == 6

/-- FEED_LOSS_TRIGGER (R345, R346, R359). -/
def execFeedLossTrigger (s : State) : Host.Outcome State Fault Refusal :=
  .next (settle (if s.powered then flushStart 1 (gatesOff s) else s))

/-- The level of a seat pin, and its bit of PWR_STAT (R360, R493). -/
def setSeat (i : Nat) (high : Bool) (s : State) : State :=
  { s.wrBit PWR_STAT_SEAT i (!high) with pins := { s.pins with seatN := s.pins.seatN.set i high } }

/-- SEAT_LOSS_TRIGGER (R345, R368): a seat pin de-asserted for 1 µs after power-good. -/
def execSeatLossTrigger (i : Nat) (s : State) : Host.Outcome State Fault Refusal :=
  .next (settle (if s.rdB PWR_STAT_PG then flushStart 2 (gatesOff (setSeat i true s)) else s))

/-- Heads whose GPF messages reach the device (R348): their link is up with CXL. -/
def State.gpfHeard (s : State) (hs : Heads) : Heads :=
  if !s.part.persist || s.stopped || s.powerFlush then 0
  else (List.range 16).foldl (fun (m : Heads) h => if hs.getLsbD h && s.rd HPT_LNK_STATE h == 4 then m ||| headBit h else m) 0

/-- GPF_PHASE1 (R348): answered; the device caches no host data. -/
def execGpfPhase1 (h : Nat) (s : State) : Host.Outcome State Fault Refusal :=
  .next (settle (if (s.gpfHeard (headBit h)).getLsbD h then s.emit (.gpfRsp h 1) else s))

/-- GPF Phase 2 of one or more heads (R348, R354): one flush serves the heads that ask in one cycle; during another it is queued. -/
def gpfPhase2 (hs : Heads) (s : State) : State :=
  let on := s.gpfHeard hs
  if on = 0 then s
  else if s.rdB TLR_STAT_ACTIVE then
    { s.wr TLR_STAT_GPFQ 1 with flush := { s.flush with gpfNext := s.flush.gpfNext ||| on } }
  else gpfBegin on s

/-- GPF_PHASE2 (R348). -/
def execGpfPhase2 (heads : Heads) (s : State) : Host.Outcome State Fault Refusal := .next (settle (gpfPhase2 heads s))

/-- The bank falls to VABORT before step 5 is over (R347): a page write in progress finishes, nothing more starts, and the rails go
off. -/
def bankAbort (v : Nat) (s : State) : State :=
  let s := s.wr TLR_STAT_BANKV v
  if s.powerFlush && !s.flush.restart && decide (s.rd TLR_STAT_STEP < 6) && decide (v ≤ s.rd TLR_PLAN_VABORT) then
    let s := match s.book.run with
      | some r => setBook { s.book with run := none } (commitPage r s)
      | none => s
    powerOff (noteFlush s)
  else s

/-- BANK_VABORT (R347). -/
def execBankVabort (v : Nat) (s : State) : Host.Outcome State Fault Refusal := .next (settle (bankAbort v s))

/-- The bank reaches 68.0 V: the Tailrace is armed, and a charge fault clears (R352, R369). `v` in units of 0.1 V, `ms` the time of
the charge. -/
def tailraceArmed (v ms : Nat) (s : State) : State :=
  if v < 680 then s
  else
    let s := (s.wr TLR_STAT_BANKV v).wr PWR_BANK_CTIME (min ms 0xFFFF)
    let s := { s.wr PWR_BANK_STATE (if v < 700 then 1 else 2) with pwr := { s.pwr with bankTimer := false } }
    if s.rdB TLR_STAT_ARMED then s else raise 51 (s.wr TLR_STAT_ARMED 1)

/-- TAILRACE_ARMED (R352). -/
def execTailraceArmed (v ms : Nat) (s : State) : Host.Outcome State Fault Refusal := .next (settle (tailraceArmed v ms s))

/-- The bank falls below 66.0 V: the Tailrace is unarmed (R352). -/
def tailraceUnarmed (v : Nat) (s : State) : State :=
  if 660 ≤ v then s
  else
    let s := s.wr TLR_STAT_BANKV v
    if s.rdB TLR_STAT_ARMED then raise 50 (s.wr TLR_STAT_ARMED 0) else s

/-- TAILRACE_UNARMED (R352). -/
def execTailraceUnarmed (v : Nat) (s : State) : Host.Outcome State Fault Refusal := .next (settle (tailraceUnarmed v s))

end Sys2Proof.Machine
end

