-- ==== Sys2Proof/Machine/Configure.lean ====
section
/-! DEFINITION. Configure (R379): what an accepted image changes, the limits of R177 and R178, and the mode that follows; and the
steps of an image's application that come before it (R410, R411). -/
namespace Sys2Proof.Machine

/-- Parcels for data of a tier. -/
def Tier.data (t : Tier) : Nat := t.total - t.reserved - t.quar

/-- Whole GiB of parcels, rounded up, in parcels. -/
def upGib (n : Nat) : Nat := gib ((n + gib 1 - 1) / gib 1)

/-- The limits of R177 and R178, in MiB: committed, and pinned-DRAM. -/
def State.limits (s : State) : Nat × Nat :=
  let dram := s.cap.dram.data
  let margin := if s.part.persist then gib 7168 else gib 256
  let share := upGib (dram / s.part.channels)
  ((dram + s.cap.media.data - margin - gib 1024) / 2048, (dram - share) / 2048)

/-- The table of the live data: the registers', or after a Cold Start that of the image whose data the device holds. -/
def State.liveTable (s : State) : State := if s.regions.isEmpty && !s.post.live.isEmpty then loadRestart s.post.live s else s

/-- The image that Configure applies: one being applied, else the live one. -/
def State.nextImage (s : State) : Option Nat := match s.post.applying with | some n => some n | none => s.post.image

/-- The carve-up and the limits of an image under the plan in force. -/
def carve (b : List Byte) (s : State) : State :=
  let s := setReserve (bits (fieldAt (sect b 0x05) 0 8) 0 8) s
  let (c, p) := s.limits
  (s.wr CAP_CLIM_CLIMIT c).wr CAP_CLIM_PLIMIT p

/-- Step 3 of an application (R405, R410): the slot becomes current, and the device floor follows. True when the record is written. -/
def makeCurrent (n : Nat) (s : State) : Bool × State :=
  let seq := (match s.currentSlot with | some c => (s.slotRec c).2.1 | none => 0) + 1
  let (_, _, len) := s.slotRec n
  let (res, s) := logWriteNow (1 + n) 0 (slotRecord seq 2 len) s
  if res ≠ 0 then (false, s)
  else
    let f := imgFloor (s.slotImage n)
    let s := showSlots s
    if s.rd PST_STAT_FLOOR < f then
      (true, raise 89 (logSend 2 6 (.counter 1 f true) true (s.wr PST_STAT_FLOOR f)))
    else (true, s)

/-- An open ring closes, its use returned (R410 step 4). -/
def dropRing (r : Nat) (s : State) : State :=
  match s.cou.rings.find r with
  | some g => (setRing r none (forgetSnoops r s)).wr COU_RQ_USED (s.rd COU_RQ_USED g.head - 1) g.head
  | none => s

/-- The post region of a ring still stands. -/
def ringPost (rs : List Region) (g : Ring) (s : State) : Bool :=
  match layoutFind (s.headRegions g.head) g.cbase with
  | some (_, line) => rs.any (fun r => r.holds (linePage line))
  | none => false

/-- Step 4 of an application (R410, R411): pages of dropped regions are cleared, domains that change their nature erased, rings closed,
heads reset whose quads change. `c`: the registers as the image sets them. -/
def dropOld (c : State) (s : State) : State :=
  let t := s.liveTable
  let new := c.regions
  let gone := t.regions.filter (fun r => !(new.any r.keptBy))
  let lost := fun (page : Nat) => gone.any (fun r => r.holds page)
  let doms := (List.range 4096).filter (fun d => t.rdB MIL_KD_PERSIST d != c.rdB MIL_KD_PERSIST d || t.rdB MIL_KD_OPAQUE d != c.rdB MIL_KD_OPAQUE d)
  let erased := fun (page : Nat) => t.regions.any (fun r => doms.contains r.keydom && r.holds page)
  let s := clearPages (fun p => lost p || erased p) (forgetPages (fun p => lost p || erased p) s)
  let s := forAll (doms.filter (fun d => s.rd MIL_KD_STATE d != 0 || (s.blobOf d).isSome)) (fun d s =>
    let s := match s.blobOf d with | some i => (logWriteNow 3 (128 * i) (zeros 128) s).2 | none => s
    raise 392 { s.wr MIL_KD_STATE 0 d with keys := { s.keys with slots := s.keys.slots.del d } }) s
  let bad := fun (x : Nat × Ring) => !(c.rd COU_PART_BASE x.2.head ≤ x.1 && x.1 < c.rd COU_PART_BASE x.2.head + c.rd COU_PART_COUNT x.2.head) ||
    !(ringPost new x.2 s)
  let s := forAll (s.cou.rings.filter bad) (fun x s => dropRing x.1 s) s
  forAll ((List.range 16).filter (fun h => s.rd HPT_LNK_STATE h != 0 && s.quad h != c.quad h)) (fun h s =>
    headReset h (if c.headExists h then (if s.pins.perstN.getLsbD h then 2 else 1) else 0) s) s

/-- Every extent of a persistent region has history (R64). -/
def markHistory (s : State) : State :=
  let exts := (s.regions.filter (fun r => r.typ == 1)).flatMap (fun r => (List.range r.size).map (r.base + ·))
  { s with mem := { s.mem with history := s.mem.history ++ exts.filter (fun e => !(s.mem.history.contains e)) } }

/-- Head link training is enabled for the heads of the quad map that have no link yet (R379). -/
def trainHeads (s : State) : State :=
  forAll ((List.range 16).filter (fun h => s.headExists h && s.rd HPT_LNK_STATE h == 0)) (fun h s =>
    s.wr HPT_LNK_STATE (if s.pins.perstN.getLsbD h then 2 else 1) h) s

/-- The function codes of the sixteen SBIO pins that an image gives (R402, R495). -/
def imgPins (b : List Byte) : List Nat := (List.range 16).map (fun i => fieldAt (sect b 0x08) i 1)

/-- The mode in which Configure ends (R379), and what entering it brings. -/
def enterService (s : State) : State :=
  let s := (s.wrB MOD_STATE_DEG_FENCE s.anyFence).wrB MOD_STATE_DEG_SUB (s.rdB HOM_SLMAP_REBUILD)
  let s := { s with mode := { s.mode with memActive := true, stopStep := 0 } }
  let s := s.wr MOD_STATE_MCMD 0
  let s := if s.modeCode = 0 then s
    else if s.rdB MED_PLAN_NOGRADE || s.rdB TLR_PLAN_SHORT || s.rdB MOD_STATE_STFAIL then raise 67 (setMode 5 s)
    else if s.degraded then raise 65 (setMode 4 (s.bump MOD_CNT_DEGR 1))
    else setMode 3 s
  if s.mode.dirtyStart then raise 53 { s with mode := { s.mode with dirtyStart := false } } else s

/-- Step 5: the image is in force. -/
def applyImage (n : Nat) (b : List Byte) (s : State) : State :=
  let s := markHistory (carve b (loadImage b s))
  let s := trainHeads (scaleAdmission false (setCaps s))
  let s := { s with post := { s.post with live := b, image := some n, applying := none, rollback := false }, pins := { s.pins with sbio := imgPins b } }
  enterService (s.wr PST_STAT_APPLYING 0)

/-- CONFIGURE_COMPLETE (R379, R410 steps 3 to 5, R411): an image that its checks refuse leaves the device in Configure; the Tailrace
must be armed. -/
def configure (s : State) : State :=
  let here := (s.modeCode == 2 && (s.mode.stopStep == 0 || s.mode.stopStep == 8)) || (s.modeCode == 0 && !s.mode.memActive && !s.mode.starting)
  if !here || s.mode.planWait.isSome || s.rdB TLR_STAT_ACTIVE || !(s.rdB TLR_STAT_ARMED) then s
  else match s.nextImage with
    | none => s
    | some n =>
      let app := s.post.applying.isSome
      let b := s.slotImage n
      let res := match imgCheck6 b (carve b s) with
        | 0 => if compatible b s.post.rollback s.liveTable then 0 else 7
        | m => m
      if res ≠ 0 then
        let s := if app then endRequest 3 s else s
        noteCheck res { (s.wr PST_STAT_APPLYING 0) with
          post := { s.post with applying := none, image := if app then s.post.image else none } }
      else
        let back := s.post.rollback
        let (ok, s) := if app || back then makeCurrent n s else (true, s)
        if !ok then s
        else
          let s := dropOld (loadImage b s) s
          let s := applyImage n b s
          let s := if app then raise 82 (endRequest 0 s) else s
          if back then raise 84 s else s

/-- CONFIGURE_COMPLETE (R379). -/
def execConfigureComplete (s : State) : Host.Outcome State Fault Refusal := .next (settle (configure s))

end Sys2Proof.Machine
end

