-- ==== Sys2Proof/Machine/Headrace.lean ====
section
/-! DEFINITION. The Headrace (chapter 16): insertion and start, protection, changeover, stuck transistors, the bank charger. Feed 0 is
FEED_A, feed 1 FEED_B. Voltages are in units of 0.1 V, currents of 0.1 A. -/
namespace Sys2Proof.Machine

/-- A Headrace event: raised, or kept by the standby logic while the event fabric is down (R371). -/
def pwrEvent (src : Nat) (s : State) : State :=
  if s.pwr.converters && s.modeCode != 6 then raise src s
  else { s with pwr := { s.pwr with latched := s.pwr.latched ++ [src] } }

def setPhase (p : HeadPhase) (s : State) : State := { s with pwr := { s.pwr with phase := p } }

/-- A feed is in window (R358). -/
def State.inWindow (s : State) (f : Nat) : Bool := s.rdB (if f = 0 then PWR_STAT_A_WIN else PWR_STAT_B_WIN)
def setWindow (f : Nat) (b : Bool) (s : State) : State := s.wrB (if f = 0 then PWR_STAT_A_WIN else PWR_STAT_B_WIN) b
/-- A feed is marked stuck-on (R367). -/
def State.stuckOn (s : State) (f : Nat) : Bool := s.rdB (if f = 0 then PWR_STAT_A_STUCK else PWR_STAT_B_STUCK)
def setVolts (f v : Nat) (s : State) : State := s.wr (if f = 0 then PWR_MON_VA else PWR_MON_VB) v

/-- Both seat pins are asserted. -/
def State.seated (s : State) : Bool := s.pins.seatN == [false, false]

/-! Insertion. -/

/-- FEED_CONTACT_MATE (R360 step 1): the standby converter runs. -/
def contactMate (f v : Nat) (s : State) : State :=
  if f < 2 ∧ 200 < v then
    let s := setVolts f v { s with pwr := { s.pwr with contacts := s.pwr.contacts.set f true } }
    if s.pwr.phase = .off then setPhase s.restPhase s else s
  else s

/-- FEED_CONTACT_MATE (R360). -/
def execFeedContactMate (f v : Nat) (s : State) : Host.Outcome State Fault Refusal := .next (settle (contactMate f v s))

/-- The latch clears: a restart at step 2 (R364). -/
def clearLatch (s : State) : State :=
  let s := { (s.wr PWR_STAT_LATCH 0).wr PWR_STAT_TRIES 0 with
    pwr := { s.pwr with backoff := false, reseat := false }, pins := { s.pins with faultN := true, alertN := true } }
  setPhase s.restPhase s

/-- Both seat pins assert (R360 step 2); after both had de-asserted this clears the latch (R364). -/
def seatAssert (s : State) : State :=
  let s := setSeat 1 false (setSeat 0 false s)
  match s.pwr.phase with
  | .standby => setPhase .insertion s
  | .latched => if s.pwr.reseat then clearLatch s else s
  | _ => s

/-- SEAT_ASSERT (R360). -/
def execSeatAssert (s : State) : Host.Outcome State Fault Refusal := .next (settle (seatAssert s))

/-- A seat pin de-asserts before power-good: both gates go down, and nothing is latched (R360). -/
def seatDeassert (i : Nat) (s : State) : State :=
  if s.rdB PWR_STAT_PG || 2 ≤ i then s
  else
    let s := setSeat i true s
    match s.pwr.phase with
    | .insertion | .ramp | .ready => setPhase .standby { s.wr PWR_STAT_SEL 0 with pwr := { s.pwr with faultTimer := false } }
    | .latched => if s.pins.seatN = [true, true] then { s with pwr := { s.pwr with reseat := true } } else s
    | _ => s

/-- SEAT_DEASSERT (R360). -/
def execSeatDeassert (i : Nat) (s : State) : Host.Outcome State Fault Refusal := .next (settle (seatDeassert i s))

/-- SINGLE_SEAT_TIMEOUT (R371): pin `i` alone has been asserted for 1 s. -/
def execSingleSeatTimeout (i : Nat) (s : State) : Host.Outcome State Fault Refusal :=
  .next (settle (if s.pwr.phase = .off ∨ 2 ≤ i ∨ s.rdB PWR_STAT_PG then s else pwrEvent 12 (setSeat (1 - i) true (setSeat i false s))))

/-- A feed has stayed in window for 100 ms: it is chosen and its ramp begins (R360 steps 3 and 4). -/
def insertionDone (f : Nat) (s : State) : State :=
  if s.pwr.phase = .insertion ∧ f < 2 ∧ s.inWindow f ∧ !(s.stuckOn f) ∧ !s.powerFlush then
    setPhase .ramp { s.wr PWR_STAT_SEL (f + 1) with pwr := { s.pwr with target := f } }
  else s

/-- INSERTION_DELAY_EXPIRY (R360). -/
def execInsertionDelayExpiry (f : Nat) (s : State) : Host.Outcome State Fault Refusal := .next (settle (insertionDone f s))

/-- RAMP_COMPLETE (R360): the bus stands within 1.0 V of the feed. -/
def execRampComplete (vbus : Nat) (s : State) : Host.Outcome State Fault Refusal :=
  .next (settle (if s.pwr.phase = .ramp then setPhase .ready (s.wr PWR_MON_VBUS vbus) else s))

/-! Trips. -/

/-- A trip (R364): both pairs off, power-good falls, the cause recorded, latched off; with RETRY a try follows 1 s later, at most
three. -/
def trip (cause vout ipk : Nat) (s : State) : State :=
  let feed := s.rd PWR_STAT_SEL
  let s := (((s.wr PWR_LAST_CAUSE cause).wr PWR_LAST_FEED (if feed = 3 then 0 else feed)).wr PWR_LAST_VOUT vout).wr PWR_LAST_IPK ipk
  let s := (((s.wr PWR_STAT_SEL 0).wr PWR_STAT_PG 0).wr PWR_STAT_LATCH 1).wr PWR_STAT_ILIM 0
  let s := (s.wr PWR_BANK_STATE 0).bump PWR_CNT_TRIPS 1
  let again := s.rdB PWR_CFG_RETRY && decide (s.rd PWR_STAT_TRIES < 3)
  let s := { s with
    pwr := { s.pwr with faultTimer := false, bankTimer := false, backoff := again, reseat := false, phase := .latched }
    pins := { s.pins with faultN := false, alertN := false } }
  pwrEvent 7 s

/-- A pair of transistors conducts: the ramp or the feed in use. -/
def State.conducting (s : State) : Bool := s.rd PWR_STAT_SEL == 1 || s.rd PWR_STAT_SEL == 2

/-- RAMP_CHECK_TIMEOUT (R361): the bus below 10 % at 5 ms, or the ramp not complete at 50 ms. -/
def execRampCheckTimeout (late : Bool) (vout ipk : Nat) (s : State) : Host.Outcome State Fault Refusal :=
  .next (settle (if s.pwr.phase = .ramp then trip (if late then 4 else 3) vout ipk s else s))

/-- FAST_TRIP (R363). -/
def execFastTrip (vout ipk : Nat) (s : State) : Host.Outcome State Fault Refusal :=
  .next (settle (if s.conducting then trip 1 vout ipk s else s))

/-- FAULT_TIMER_EXPIRY (R363): 2.0 ms of current limit. -/
def execFaultTimerExpiry (vout ipk : Nat) (s : State) : Host.Outcome State Fault Refusal :=
  .next (settle (if s.conducting && s.pwr.faultTimer && s.rdB PWR_STAT_ILIM then trip 2 vout ipk s else s))

/-- The current reaches the limit: the fault timer runs (R363). -/
def limitEnter (iin : Nat) (s : State) : State :=
  if s.conducting && !(s.rdB PWR_STAT_ILIM) then
    let s := { ((s.wr PWR_STAT_ILIM 1).wr PWR_MON_IIN iin).bump PWR_CNT_ILIMS 1 with pwr := { s.pwr with faultTimer := true } }
    if s.pwr.converters && s.modeCode != 6 then raiseLimited 6 0 s else pwrEvent 6 s
  else s

/-- CURRENT_LIMIT_ENTER (R363). -/
def execCurrentLimitEnter (iin : Nat) (s : State) : Host.Outcome State Fault Refusal := .next (settle (limitEnter iin s))

/-- CURRENT_LIMIT_EXIT (R363): the timer keeps its count. -/
def execCurrentLimitExit (iin : Nat) (s : State) : Host.Outcome State Fault Refusal :=
  .next (settle ((s.wr PWR_STAT_ILIM 0).wr PWR_MON_IIN iin))

/-- FAULT_TIMER_CLEAR (R363): 100 µs with the limit inactive. -/
def execFaultTimerClear (s : State) : Host.Outcome State Fault Refusal :=
  .next (settle (if s.rdB PWR_STAT_ILIM then s else { s with pwr := { s.pwr with faultTimer := false } }))

/-- RETRY_BACKOFF_EXPIRY (R364): a try begins at step 3. -/
def retryExpiry (s : State) : State :=
  if s.pwr.phase = .latched ∧ s.pwr.backoff then
    let s := { (s.wr PWR_STAT_LATCH 0).wr PWR_STAT_TRIES (s.rd PWR_STAT_TRIES + 1) with pwr := { s.pwr with backoff := false } }
    pwrEvent 8 (setPhase (if s.seated then .insertion else .standby) s)
  else s

/-- RETRY_BACKOFF_EXPIRY (R364). -/
def execRetryBackoffExpiry (s : State) : Host.Outcome State Fault Refusal := .next (settle (retryExpiry s))

/-- TRIES_RESET_TIMER (R364): power-good has held for 10 s. -/
def execTriesResetTimer (s : State) : Host.Outcome State Fault Refusal :=
  .next (settle (if s.rdB PWR_STAT_PG then s.wr PWR_STAT_TRIES 0 else s))

/-- HEADRACE_REARM (R364, R470): ignored and counted while nothing is latched. -/
def execHeadraceRearm (s : State) : Host.Outcome State Fault Refusal :=
  .next (settle (if s.pwr.phase = .off then s else if s.rdB PWR_STAT_LATCH then clearLatch s else s.bump MGT_ERR_SMBREJ 1))

/-! Power-good. -/

/-- POWER_GOOD (R360 step 5, R362): the converters and the charger start, and Cold Start begins. -/
def powerGood (e : ColdEnv) (s : State) : State :=
  if s.pwr.phase = .ready ∧ !(s.rdB PWR_STAT_ILIM) ∧ s.seated then
    let s := (s.wr PWR_STAT_PG 1).wr PWR_BANK_STATE 1
    coldStart e { s with pwr := { s.pwr with phase := .on, faultTimer := false, bankTimer := true } }
  else s

/-- POWER_GOOD (R362, R376). -/
def execPowerGood (e : ColdEnv) (s : State) : Host.Outcome State Fault Refusal := .next (settle (powerGood e s))

/-! Feeds. -/

/-- A changeover begins: break before make (R366 step 1). -/
def changeTo (f : Nat) (s : State) : State :=
  setPhase .changeover { s.wr PWR_STAT_SEL 3 with pwr := { s.pwr with target := f } }

/-- A feed enters its window (R358); one held open for overvoltage is switched on again. -/
def windowEnter (f v : Nat) (s : State) : State :=
  if f < 2 ∧ s.pwr.contacts[f]? = some true then
    let s := setVolts f v s
    if s.stuckOn f || s.inWindow f then s
    else
      let s := pwrEvent (2 + f) (setWindow f true s)
      if s.rdB PWR_STAT_OVHOLD && s.pwr.target = f && !s.powerFlush && s.rdB PWR_STAT_PG then
        (s.wr PWR_STAT_OVHOLD 0).wr PWR_STAT_SEL (f + 1)
      else s
  else s

/-- FEED_WINDOW_ENTER (R358). -/
def execFeedWindowEnter (f v : Nat) (s : State) : Host.Outcome State Fault Refusal := .next (settle (windowEnter f v s))

/-- A feed leaves its window, downwards or upwards (R358, R365). -/
def windowExit (f : Nat) (up : Bool) (v : Nat) (s : State) : State :=
  if f < 2 ∧ s.inWindow f then
    let s := pwrEvent f (setWindow f false (setVolts f v s))
    if s.pwr.phase = .on ∧ s.rd PWR_STAT_SEL = f + 1 then
      if s.inWindow (1 - f) then changeTo (1 - f) s
      else if up then
        pwrEvent 13 { (s.wr PWR_STAT_OVHOLD 1).wr PWR_STAT_SEL 0 with pwr := { s.pwr with target := f } }
      else s
    else s
  else s

/-- FEED_WINDOW_EXIT (R358, R365). -/
def execFeedWindowExit (f : Nat) (up : Bool) (v : Nat) (s : State) : Host.Outcome State Fault Refusal :=
  .next (settle (windowExit f up v s))

/-- Reverse current opens the pair in use; the feed leaves use without a trip (R363, R365). -/
def reverseCurrent (s : State) : State :=
  if s.pwr.phase = .on ∧ s.conducting then
    let f := s.rd PWR_STAT_SEL - 1
    if s.inWindow (1 - f) then changeTo (1 - f) s else s.wr PWR_STAT_SEL 0
  else s

/-- REVERSE_CURRENT (R363). -/
def execReverseCurrent (s : State) : Host.Outcome State Fault Refusal := .next (settle (reverseCurrent s))

/-- The dead time ends: the other pair is switched on if its feed is still in window (R366 step 3). -/
def deadTimeEnd (s : State) : State :=
  if s.pwr.phase = .changeover then
    let f := s.pwr.target
    let s := setPhase .on s
    if s.inWindow f && !s.powerFlush then
      pwrEvent (if f = 0 then 5 else 4) ((s.wr PWR_STAT_SEL (f + 1)).bump (if f = 0 then PWR_CNT_CHGA else PWR_CNT_CHGB) 1)
    else s.wr PWR_STAT_SEL 0
  else s

/-- CHANGEOVER_DEAD_TIME_END (R366). -/
def execChangeoverDeadTimeEnd (s : State) : Host.Outcome State Fault Refusal := .next (settle (deadTimeEnd s))

/-- FEED_A_RETURN_TIMER (R365). -/
def execFeedAReturnTimer (s : State) : Host.Outcome State Fault Refusal :=
  .next (settle (if s.pwr.phase = .on ∧ s.rd PWR_STAT_SEL = 2 ∧ s.inWindow 0 then changeTo 0 s else s))

/-- A pair commanded off shows a stuck transistor: its feed is stuck-on and leaves its window (R367). -/
def stuckOn (f : Nat) (s : State) : State :=
  if f < 2 ∧ s.pwr.phase ≠ .off ∧ s.rd PWR_STAT_SEL ≠ f + 1 ∧ !(s.stuckOn f) then
    let s := if s.inWindow f then pwrEvent f (setWindow f false s) else s
    let s := s.wr (if f = 0 then PWR_STAT_A_STUCK else PWR_STAT_B_STUCK) 1
    pwrEvent (9 + f) { s with pins := { s.pins with alertN := false } }
  else s

/-- STUCK_ON_DETECT (R367). -/
def execStuckOnDetect (f : Nat) (s : State) : Host.Outcome State Fault Refusal := .next (settle (stuckOn f s))

/-- Standby power is lost: latches and stuck-on marks clear (R364, R367), the standby logic forgets what it held, and without a flush
under way from the bank every rail goes off. -/
def standbyLoss (s : State) : State :=
  let keep := fun (f : Fld) => f.id == TLR_STAT_ARMED.id || f.id == TLR_STAT_BANKV.id || f.id == PWR_CFG_RETRY.id
  let s := (standbyFlds.filter (fun f => !(keep f))).foldl (fun s f => s.unset f) s
  let s := { s with
    pwr := { Headrace.init with converters := s.pwr.converters }
    pins := { s.pins with faultN := true, alertN := true, wakeN := true }
    post := { s.post with heldHalt := none }
    time := { s.time with standby := 0 } }
  if s.powerFlush then s else powerOff s

/-- STANDBY_POWER_LOSS (R364). -/
def execStandbyPowerLoss (s : State) : Host.Outcome State Fault Refusal := .next (settle (standbyLoss s))

/-- BANK_CHARGE_TIMEOUT (R369): the bank is not at 68.0 V within 2 s of the start of charging. -/
def execBankChargeTimeout (v : Nat) (s : State) : Host.Outcome State Fault Refusal :=
  .next (settle (if s.pwr.bankTimer && decide (v < 680) then
    pwrEvent 11 { (s.wr TLR_STAT_BANKV v).wr PWR_BANK_STATE 3 with pwr := { s.pwr with bankTimer := false } } else s))

/-- DOWNSTREAM_CONVERTER_FAULT (R435). -/
def execDownstreamConverterFault (s : State) : Host.Outcome State Fault Refusal :=
  .next (settle (if s.pwr.converters then raise 21 s else s))

/-- CONTROLLER_RAIL_OUT_OF_REGULATION (R435). -/
def execControllerRailOutOfRegulation (s : State) : Host.Outcome State Fault Refusal :=
  .next (settle (if s.pwr.converters then raise 22 s else s))

end Sys2Proof.Machine
end

