-- ==== Sys2Proof/Machine/Modes.lean ====
section
/-! DEFINITION. Modes (chapter 17): mode requests, Stop and wake, Cold Restart, Factory Test. -/
namespace Sys2Proof.Machine

/-! Requests (R374, R375). -/

/-- Where a mode request comes from: a mailbox, or the Clerks through a call of their own. -/
inductive Asker where
  | box (rt : Route)
  | clerk
  deriving DecidableEq, Repr

/-- The request may come from there (R375). -/
def State.mayAsk (s : State) : Asker → Bool
  | .box (.head h) => s.rdBit MOD_CFG_HOSTREQ h
  | _ => true

/-- A code that MOD_CTL.REQ shows (R375). -/
def tell (a : Asker) (code : Ret) (s : State) : State := match a with | .box rt => reply rt code [] s | .clerk => s

/-- A request is turned away with a result of MOD_CTL (R374, R375). -/
def turnAway (a : Asker) (res : Nat) (s : State) : State :=
  tell a (if res = 2 then .busy else if res = 3 then .busy else .invalidInput) (s.wr MOD_CTL_RESULT res)

/-- The conditions of R382 but for the mode. -/
def State.stopAllowed (s : State) : Bool :=
  !(s.rdB TLR_STAT_ACTIVE) && !(s.rdB TLR_STAT_GPFQ) && !(s.rdB HOM_SLMAP_REBUILD) && s.fc.mops.isEmpty

/-- A request is taken: no other may run. -/
def askMode (a : Asker) (modes : List Nat) (f : State → State) (s : State) : State :=
  if !(s.mayAsk a) then tell a .unsupported s
  else if s.rdB MOD_CTL_BUSY then tell a .busy (s.wr MOD_CTL_RESULT 2)
  else if !(modes.contains s.modeCode) || s.mode.halting then turnAway a 1 s
  else f s

/-- A request runs from here on. -/
def beginRequest (a : Asker) (code : Nat) (s : State) : State :=
  tell a .success ((s.wr MOD_CTL_REQ code).wr MOD_CTL_BUSY 1)

/-- Enter Stop (R382, R383): a wake source left from before is forgotten. -/
def enterStop (a : Asker) (s : State) : State :=
  askMode a [3, 4, 5] (fun s =>
    if !s.stopAllowed then turnAway a 3 s
    else drainStart 0 (beginRequest a 1 { s with mode := { s.mode with wakeSrc := 0 } })) s

/-- Enter Maintenance (R374). -/
def enterMaintenance (a : Asker) (s : State) : State :=
  askMode a [3, 4] (fun s => endRequest 0 (raise 67 (setMode 5 ((beginRequest a 2 s).wr MOD_STATE_MCMD 1)))) s

/-- Leave Maintenance (R374, R380): refused while NOGRADE, SHORT or STFAIL is set. -/
def leaveMaintenance (a : Asker) (s : State) : State :=
  askMode a [5] (fun s =>
    if s.rdB MED_PLAN_NOGRADE || s.rdB TLR_PLAN_SHORT || s.rdB MOD_STATE_STFAIL then turnAway a 3 s
    else
      let s := (beginRequest a 3 s).wr MOD_STATE_MCMD 0
      endRequest 0 (if s.degraded then raise 65 (setMode 4 (s.bump MOD_CNT_DEGR 1)) else setMode 3 s)) s

/-- Recover (R381): the re-plan's measurements come with it. -/
def recover (a : Asker) (e : PlanEnv) (s : State) : State :=
  askMode a [5] (fun s =>
    if s.rdB TLR_STAT_ACTIVE || s.rdB HOM_SLMAP_REBUILD then turnAway a 3 s
    else
      let s := setMode 1 ((beginRequest a 4 s).wr MOD_STATE_PATH 2)
      drainStart 1 { s with mode := { s.mode with planEnv := some e } }) s

/-- A Cold Restart that is accepted (R374): in Stop it wakes first, in the modes that serve it flushes first, while a flush runs it
waits. -/
def coldRestart (e : ColdEnv) (s : State) : State :=
  let m := s.modeCode
  let s := { s with mode := { s.mode with coldEnv := some e } }
  if m = 6 then
    if s.mode.wakeAttempt ≠ 0 then { s with mode := { s.mode with coldWake := true } }
    else wakeAttempt 1 { s with mode := { s.mode with coldWake := true, wakeFailed := false } }
  else if s.rdB TLR_STAT_ACTIVE then { s with flush := { s.flush with restartWaits := true } }
  else if m = 7 ∨ s.mode.halting ∨ ((m = 1 ∨ m = 2) ∧ s.mode.stopStep = 0) ∨ (m = 0 ∧ !s.mode.memActive) then coldStart e s
  else flushBegin 0 s

/-- The request itself: accepted in every mode (R374), but a start that its lockstep check stopped only ends with a power cycle
(R376). -/
def askRestart (a : Asker) (e : ColdEnv) (s : State) : State :=
  if !(s.mayAsk a) then tell a .unsupported s
  else if s.rdB MOD_CTL_BUSY then tell a .busy (s.wr MOD_CTL_RESULT 2)
  else if !s.rdB PWR_STAT_PG || s.dead then s
  else coldRestart e (tell a .success (s.wr MOD_CTL_REQ 5))

/-- A request by the mailboxes (R375, R473); the Clerks run where they serve one. -/
def byBox (rt : Route) (f : Asker → State → State) (s : State) : State := mailbox rt (f (.box rt)) s

/-- ENTER_STOP (R383). -/
def execEnterStop (rt : Route) (s : State) : Host.Outcome State Fault Refusal := .next (settle (byBox rt enterStop s))
/-- ENTER_MAINTENANCE (R374). -/
def execEnterMaintenance (rt : Route) (s : State) : Host.Outcome State Fault Refusal := .next (settle (byBox rt enterMaintenance s))
/-- LEAVE_MAINTENANCE (R380). -/
def execLeaveMaintenance (rt : Route) (s : State) : Host.Outcome State Fault Refusal := .next (settle (byBox rt leaveMaintenance s))
/-- RECOVER (R381). -/
def execRecover (rt : Route) (e : PlanEnv) (s : State) : Host.Outcome State Fault Refusal :=
  .next (settle (byBox rt (fun a s => recover a e s) s))

/-- A Cold Restart reaches a device whose Clerks are off: in Stop and in the Halt over the management plane's standby logic (R374). -/
def restartBy (rt : Route) (e : ColdEnv) (s : State) : State :=
  if s.modeCode = 6 ∨ s.post.coresUp.isEmpty then (if rt = .mgmt then askRestart (.box rt) e s else s)
  else byBox rt (fun a s => askRestart a e s) s

/-- COLD_RESTART (R374). -/
def execColdRestart (rt : Route) (e : ColdEnv) (s : State) : Host.Outcome State Fault Refusal := .next (settle (restartBy rt e s))

/-! L2 (R383). -/

/-- A host takes its link to L2. -/
def linkL2 (h : Nat) (s : State) : State :=
  let st := s.rd HPT_LNK_STATE h
  if s.mode.stopStep = 7 ∧ (st = 3 ∨ st = 4 ∨ st = 6) then
    { s.wr HPT_LNK_STATE (if st = 6 then 6 else 5) h with
      ports := { s.ports with l2 := s.ports.l2 ||| headBit h }, mode := { s.mode with l2Left := s.mode.l2Left &&& ~~~(headBit h) } }
  else s

/-- LINK_L2_ENTER (R383). -/
def execLinkL2Enter (h : Nat) (s : State) : Host.Outcome State Fault Refusal := .next (settle (linkL2 h s))

/-- After L2WAIT the device disables the links still up (R383). -/
def l2Timeout (s : State) : State :=
  if s.mode.stopStep = 7 then
    let s := forHeads s.mode.l2Left (fun h s => linkTo h 1 s) s
    { s with mode := { s.mode with l2Left := 0 } }
  else s

/-- L2_WAIT_TIMEOUT (R383). -/
def execL2WaitTimeout (s : State) : Host.Outcome State Fault Refusal := .next (settle (l2Timeout s))

/-! Wake (R386 to R389). -/

/-- Standby time in ms. -/
def State.standbyMs (s : State) : Nat := s.standbyNs / 1000000

/-- A wake source is seen (R386, R391): in Stop it starts a wake, at step 7 of Stop entry it is kept for the end of the entry; after a
failed wake only PERST_N starts a series (R388). -/
def wakeSource (src h : Nat) (perst : Bool) (s : State) : State :=
  if !(s.rdBit MOD_CFG_WAKEEN (src - 1)) then s
  else
    let note := fun (s : State) => { s with mode := { s.mode with wakeSrc := src, wakeHead := h, wakeAt := s.standbyMs, wakeFence := [], coldWake := false } }
    if s.modeCode = 6 then
      if s.mode.wakeAttempt ≠ 0 then s
      else if s.mode.wakeFailed then
        (if perst then wakeBegin { note s with pins := { s.pins with faultN := true } } else s)
      else wakeBegin (note s)
    else if s.mode.stopStep = 7 ∧ s.mode.drainFor = 0 ∧ s.mode.wakeSrc = 0 then note s
    else s

/-- HEAD_WAKE (R386): a PERST_N cycle, or electrical-idle exit, on a head. -/
def headWake (h : Nat) (perst : Bool) (s : State) : State :=
  if !(s.headExists h) then s
  else wakeSource 1 h perst (if perst then { s with pins := { s.pins with perstN := s.pins.perstN ||| headBit h } } else s)

/-- HEAD_WAKE (R386, R388). -/
def execHeadWake (h : Nat) (perst : Bool) (s : State) : Host.Outcome State Fault Refusal := .next (settle (headWake h perst s))
/-- MGMT_ADDRESS_MATCH (R386). -/
def execMgmtAddressMatch (s : State) : Host.Outcome State Fault Refusal := .next (settle (wakeSource 2 0 false s))
/-- WAKE_TIMER (R386): a DELAY of 0 disables the timer. -/
def execWakeTimer (s : State) : Host.Outcome State Fault Refusal :=
  .next (settle (if s.rd MOD_WTIMER_DELAY = 0 then s else wakeSource 3 0 false s))
/-- FEED_EVENT_WAKE (R386): a Headrace event whose bit FEEDMASK sets. -/
def execFeedEventWake (src : Nat) (s : State) : Host.Outcome State Fault Refusal :=
  .next (settle (if src < 14 && s.rdBit MOD_CFG_FEEDMASK src then wakeSource 4 0 false s else s))
/-- THERMAL_WAKE (R386): the module temperature in °C. -/
def execThermalWake (temp : Nat) (s : State) : Host.Outcome State Fault Refusal :=
  .next (settle (if s.rd MOD_CFG_TWAKE < temp then wakeSource 5 0 false s else s))

/-- The last-wake record (R389). -/
def wakeRecord (outcome step code ms : Nat) (s : State) : State :=
  let s := ((s.wr MOD_WAKE_SRC s.mode.wakeSrc).wr MOD_WAKE_HEAD s.mode.wakeHead).wr MOD_WAKE_OUTCOME outcome
  let s := (s.wr MOD_WAKE_ATTEMPTS s.mode.wakeAttempt).wr MOD_WAKE_WAKEMS (min ms 0xFFFF)
  let s := if code ≠ 0 then (s.wr MOD_WAKE_FSTEP step).wr MOD_WAKE_CODE code else s
  s.wr MOD_WAKE_T_TIME s.mode.wakeAt

def wakeFlds : List Fld := [ MOD_WAKE_SRC, MOD_WAKE_HEAD, MOD_WAKE_OUTCOME, MOD_WAKE_ATTEMPTS, MOD_WAKE_FSTEP, MOD_WAKE_CODE, MOD_WAKE_WAKEMS]

/-- Step 6: the Clerks start and release the sideband pads, the mode held before Stop returns, or 4 when a unit was fenced. The record
goes to the fault log ring (R387, R389). -/
def wakeEnd (ms : Nat) (s : State) : State :=
  let prev := s.rd MOD_STATE_PREV
  let fenced := !s.mode.wakeFence.isEmpty
  let s := forAll (s.mode.wakeFence.filter (· < 16)) (fun c s => fault 3 c 2 (512 + 8 * c + 5) 0 0 s) s
  let s := forAll (s.mode.wakeFence.filter (16 ≤ ·)) (fun k s => fault 4 (k - 16) 2 (640 + 8 * (k - 16) + 5) 0 0 s) s
  let s := wakeRecord 1 0 0 ms (s.bump MOD_CNT_WAKES 1)
  let s := { (s.wr MOD_PADREL_SHELD 0).wr MOD_STATE_STATE (if fenced && prev != 5 then 4 else prev) with
    post := { s.post with coresUp := (List.range 4).filter (fun c => !(s.post.coreFence.contains c)) }
    mode := { s.mode with wakeAttempt := 0, wakeStep := 0, wakeSrc := 0, wakeFence := [], memActive := true } }
  let late := s.pwr.latched
  let s := raise 64 ((s.wr MOD_STATE_PREV 6))
  let s := noteRec 69 (s.word wakeFlds) (s.rd MOD_WAKE_T_TIME) (raise 69 s)
  forAll late raise { s with pwr := { s.pwr with latched := [] } }

/-- A wake step's condition is met (R387). `bad`: the links that fail bring-up at step 5; `ms`: the time since the source. -/
def wakeDone (bad : List Nat) (ms : Nat) (s : State) : State :=
  if s.modeCode ≠ 6 then s
  else
    let next := fun (n : Nat) (s : State) => { s with mode := { s.mode with wakeStep := n } }
    match s.mode.wakeStep with
    | 1 => next 2 s
    | 2 => next 3 s
    | 3 => if s.mode.coldWake then
        (match s.mode.coldEnv with | some e => coldStart e s | none => s)
      else next 4 (s.wr MOD_PADREL_MHELD 0)
    | 4 => next 5 { s with dram := { s.dram with selfRefresh := false, neigh := [], tally := [] } }
    | 5 =>
      let s := forAll (List.range 16) (fun k s => if bad.contains k then s else startBringup k s) s
      next 6 { s with mode := { s.mode with wakeFence := s.mode.wakeFence ++ (bad.filter (· < s.part.stacks)).map (· + 16) } }
    | 6 => wakeEnd ms s
    | _ => s

/-- WAKE_STEP_DONE (R387). -/
def execWakeStepDone (bad : List Nat) (ms : Nat) (s : State) : Host.Outcome State Fault Refusal := .next (settle (wakeDone bad ms s))

/-- A timer of steps 1 to 4 expires (R388). `c`: the channel that did not come back, for step 4; `stuck`: channels that do not return
to self-refresh. After the third attempt the wake has failed. -/
def wakeTimeout (c : Nat) (stuck : List Nat) (s : State) : State :=
  let step := s.mode.wakeStep
  if s.modeCode ≠ 6 ∨ step = 0 ∨ 4 < step then s
  else
    let code := if step = 4 then (if s.rdB MOD_PADREL_MHELD then 0x30 else 0x10 + c % 16) else step
    let s := raiseLatched 70 (s.bump MOD_CNT_WFAIL 1)
    let s := (s.wr MOD_WAKE_FSTEP step).wr MOD_WAKE_CODE (match stuck with | x :: _ => 0x10 + x % 16 | [] => code)
    let s := { s with
      mode := { s.mode with wakeStep := 0, wakeFence := s.mode.wakeFence ++ stuck.filter (fun x => x < s.part.channels && !(s.mode.wakeFence.contains x)) }
      dram := { s.dram with selfRefresh := true }, pwr := { s.pwr with converters := false } }
    if s.mode.wakeAttempt < 3 then { s with mode := { s.mode with retryDue := true } }
    else
      let s := raiseLatched 71 (wakeRecord 2 step (s.rd MOD_WAKE_CODE) 0 s)
      { s with mode := { s.mode with wakeAttempt := 0, wakeFailed := true }, pins := { s.pins with faultN := false } }
where
  /-- An event of the standby logic, raised when the event fabric starts. -/
  raiseLatched (src : Nat) (s : State) : State := { s with pwr := { s.pwr with latched := s.pwr.latched ++ [src] } }

/-- WAKE_STEP_TIMEOUT (R388). -/
def execWakeStepTimeout (c : Nat) (stuck : List Nat) (s : State) : Host.Outcome State Fault Refusal :=
  .next (settle (wakeTimeout c stuck s))

/-- WAKE_RETRY (R388): 10 ms after a failed attempt the next begins. -/
def execWakeRetry (s : State) : Host.Outcome State Fault Refusal :=
  .next (settle (if s.modeCode = 6 ∧ s.mode.retryDue then wakeAttempt (s.mode.wakeAttempt + 1) s else s))

/-! Factory Test (R378). -/

/-- The factory-test flag set or cleared, in the identity partition; true when the write is committed. -/
def writeFactory (v : Nat) (s : State) : Nat × State := logWriteNow 0 (256 * 11) [BitVec.ofNat 8 v] s

/-- REQUEST_FACTORY_TEST (R378): signed, and refused while LOGWP_N is asserted. -/
def requestFactory (rt : Route) (signed : Bool) (s : State) : State :=
  mboxMgmt rt (fun s =>
    if !signed then refuse rt 4 s
    else if !s.pins.logwpN then refuse rt 1 s
    else match writeFactory 1 s with
      | (0, s) => reply rt .success [] s
      | (1, s) => reply rt .busy [] s
      | (_, s) => reply rt .internal [] s) s

/-- REQUEST_FACTORY_TEST (R378). -/
def execRequestFactoryTest (rt : Route) (signed : Bool) (s : State) : Host.Outcome State Fault Refusal :=
  .next (settle (requestFactory rt signed s))

/-- END_FACTORY_TEST (R378, R374): the flag is cleared, then Cold Start runs. -/
def endFactory (rt : Route) (e : ColdEnv) (s : State) : State :=
  mboxMgmt rt (fun s =>
    if s.modeCode ≠ 0 then refuse rt 5 s
    else if s.rdB MOD_CTL_BUSY then reply rt .busy [] s
    else match writeFactory 0 s with
      | (0, s) => coldRestart e (reply rt .success [] s)
      | (2, s) => refuse rt 1 s
      | (1, s) => reply rt .busy [] s
      | (_, s) => reply rt .internal [] s) s

/-- END_FACTORY_TEST (R378). -/
def execEndFactoryTest (rt : Route) (e : ColdEnv) (s : State) : Host.Outcome State Fault Refusal := .next (settle (endFactory rt e s))

/-- Every lane-swap record leaves the repair map. -/
def clearSwaps (s : State) : State :=
  forAll ((List.range 3840).filter (fun i => fieldAt (s.logRead 4 (16 * i) 16) 0 8 == 6)) (fun i s =>
    logSend 2 4 (.bytes (16 * i) (zeros 16)) true s) s

/-- INITIALISE_MEDIA (R378): the extent history table and every lane-swap record are cleared. -/
def initialiseMedia (rt : Route) (s : State) : State :=
  mboxMgmt rt (fun s =>
    if s.modeCode ≠ 0 then refuse rt 5 s
    else if s.bgBusy rt then reply rt .busy [] s
    else
      let s := bgStart 0xC015 rt s
      let s := { s with mem := { s.mem with history := [] } }
      bgEnd 0xC015 rt .success [] (clearSwaps s)) s

/-- INITIALISE_MEDIA (R378). -/
def execInitialiseMedia (rt : Route) (s : State) : Host.Outcome State Fault Refusal := .next (settle (initialiseMedia rt s))

end Sys2Proof.Machine
end

