-- ==== Sys2Proof/Machine/FaultEvent.lean ====
section
/-! DEFINITION. Faults and events (chapter 19): acknowledgement, lifting a head's fence, leaky buckets, the Dead-Letter Store and its
export over the management DMA channel (R480), poison commands, and the event logs of the heads. -/
namespace Sys2Proof.Machine

/-! Acknowledgement. -/

/-- The fence steps or the substitution of a unit still run (R422): those of a home slice, until its filter is rebuilt. -/
def State.fencing (s : State) (u : Nat) : Bool :=
  match s.home.rebuilding with | some sl => u == unitIdx 2 sl | none => false

/-- Classes of a unit are acknowledged, bit c for class c: the result of a call (R396, R422). -/
def faultAck (u m : Nat) (s : State) : Nat × State :=
  if m.testBit 2 && s.fencing u then (1, s)
  else (0, forAll [0, 1, 2] (fun c s => if m.testBit c then s.wr (ackField c) 0 u else s) s)

/-- The answer to a command for a result of R396. -/
def callReply (rt : Route) (res : Nat) (s : State) : State :=
  if res = 0 then reply rt .success [] s
  else if res = 3 then reply rt .busy [] s
  else if res = 4 then refuse rt 1 s
  else reply rt .invalidInput [] s

/-- A call of the Clerks is answered and counted (R396). -/
def callDone (res : Nat) (s : State) : State :=
  if res = 0 then s.bump PST_CALLS_DONE 1 else s.bump PST_CALLS_REFUSED 1

/-- A write of a PST field through the call interface, by the Clerks on their own (`rt` none) or by host software with Write Protected
Field (R396, R397): the outcome is a result code with the state. -/
def pstCall (rt : Option Route) (f : State → Nat × State) (s : State) : State :=
  match rt with
  | none => if s.post.coresUp.isEmpty || s.stopped then s else callDone (f s).1 (f s).2
  | some rt => mboxHostw rt (fun s => callReply rt (f s).1 (callDone (f s).1 (f s).2)) s

/-- FAULT_ACKNOWLEDGE (R422): by the Clerks (`rt` none), or by host software with Write Protected Field. -/
def ackUnit (rt : Option Route) (u m : Nat) (s : State) : State := pstCall rt (faultAck u m) s

/-- FAULT_ACKNOWLEDGE (R422). -/
def execFaultAcknowledge (rt : Option Route) (kind i m : Nat) (s : State) : Host.Outcome State Fault Refusal :=
  .next (settle (ackUnit rt (unitIdx kind i) m s))

/-- LIFT_HEAD_FENCE (R425). -/
def liftFence (rt : Route) (h : Nat) (s : State) : State :=
  mboxHostw rt (fun s =>
    if !(s.headFenced h) || s.rdB FLT_U_FATAL (unitIdx 1 h) || s.ports.moreCause.getLsbD h then reply rt .invalidInput [] s
    else
      let s := { (s.wr HOM_HEAD_DEAD 0 h).wr HOM_HEAD_TO_RUN 0 h with
        home := { s.home with dead := s.home.dead &&& ~~~(headBit h) }, ports := { s.ports with liftPending := s.ports.liftPending ||| headBit h } }
      raise 28 (reply rt .success [] s)) s

/-- LIFT_HEAD_FENCE (R425). -/
def execLiftHeadFence (rt : Route) (h : Head) (s : State) : Host.Outcome State Fault Refusal := .next (settle (liftFence rt h s))

/-- A bucket drains (R427); those of a fenced unit stop. -/
def bucketDrain (b : Nat) (s : State) : State :=
  let (_, kind, i, _) := bucketOf s b
  if 609 ≤ b || s.rdB FLT_U_FENCED (unitIdx kind i) then s else s.wr FLT_BKT_LVL_LEVEL (s.rd FLT_BKT_LVL_LEVEL b - 1) b

/-- BUCKET_DRAIN (R427). -/
def execBucketDrain (b : Nat) (s : State) : Host.Outcome State Fault Refusal := .next (settle (bucketDrain b s))

/-! The management DMA channel (R480). -/

/-- How a run of the channel ends: every line written, held up at a line, or a target it may not write. -/
inductive DmaEnd where
  | done | blocked | ended
  deriving DecidableEq, Repr

/-- A target line reads as poison. -/
def State.dmaPoison (s : State) (h hline : Nat) : Bool :=
  match s.view h hline with
  | some (_, line) => (match s.look line with | .hit _ p => p | _ => false)
  | none => true

/-- Write the lines of a transfer in order, at Bulk, as far as they can be written. -/
def dmaRun (key : Nat) : Nat → Dma → State → DmaEnd × Dma × State
  | 0, d, s => (.blocked, d, s)
  | n + 1, d, s =>
    if d.data.isEmpty then (.done, d, s)
    else if s.headFenced d.head || !(s.postOk d.head d.addr 64) || s.dmaPoison d.head (d.addr / 64) then (.ended, d, s)
    else match couPut ⟨key, d.head, .bulk⟩ d.addr (d.data.take 64) false s with
      | .ok true s => (.ended, d, s)
      | .ok false s => dmaRun key n { d with addr := d.addr + 64, data := d.data.drop 64 } s
      | .blocked s => (.blocked, d, s)
      | .ended _ s => (.ended, d, s)

/-! The Dead-Letter Store. -/

/-- The 16 bytes of a record (R428). -/
def DeadRec.bytes (d : DeadRec) : List Byte :=
  leBytes 8 (d.line + d.page.toNat * 2 ^ 42 + d.cause * 2 ^ 43 + d.head * 2 ^ 47) ++ leBytes 8 d.time

/-- The export's bytes: the header, then 4,096 slots (R480). -/
def State.exportBytes (s : State) : List Byte :=
  fit 64 (leBytes 8 (s.word [FLT_DLS_COUNT, FLT_DLS_OVF, FLT_DLS_LOST] - s.rd FLT_DLS_COUNT + s.flt.dead.length) ++
    leBytes 8 (s.rd FLT_DLS_OVT_TIME) ++ leBytes 8 s.flt.dead.length) ++ fit 65536 (s.flt.dead.flatMap DeadRec.bytes)

/-- The export goes on, and ends (R480). -/
def exportRun (s : State) : State :=
  match s.mgt.exporting with
  | none => s
  | some (rt, d) =>
    if s.stopped || s.cnt.dump.isSome then s
    else match dmaRun exportKey 1100 d s with
      | (.done, _, s) =>
        raise 998 (bgEnd 0xC021 rt .success [] (dmaShow (forgetSnoops exportKey { s with mgt := { s.mgt with exporting := none } })))
      | (.ended, _, s) => bgEnd 0xC021 rt .invalidInput [] (dmaShow (forgetSnoops exportKey { s with mgt := { s.mgt with exporting := none } }))
      | (.blocked, d, s) => { s with mgt := { s.mgt with exporting := some (rt, d) } }

/-- EXPORT_DEAD_LETTERS (R432, R480): to a head and a 64-byte-aligned head address. -/
def exportDead (rt : Route) (h addr : Nat) (s : State) : State :=
  mboxHostw rt (fun s =>
    if s.bgBusy rt || s.mgt.exporting.isSome then reply rt .busy [] s
    else if !s.serving then refuse rt 5 s
    else if addr % 64 ≠ 0 || !(s.headExists h) || s.headFenced h || !(s.postOk h addr 65600) then reply rt .invalidInput [] s
    else
      let d : Dma := ⟨h, addr, s.exportBytes⟩
      let s := bgStart 0xC021 rt s
      dmaShow { s with mgt := { s.mgt with exporting := some (rt, d) } }) s

/-- EXPORT_DEAD_LETTERS (R432). -/
def execExportDeadLetters (rt : Route) (h : Head) (addr : Nat) (s : State) : Host.Outcome State Fault Refusal :=
  .next (settle (exportDead rt h addr s))

/-- EXPORT_COMPLETE (R480): the lines are written, as far as hosts give up their copies, and the last one ends the export. -/
def execExportComplete (s : State) : Host.Outcome State Fault Refusal := .next (settle (exportRun s))

/-- The record's line or page lies in a head's view. -/
def State.inHeadView (s : State) (h line : Nat) : Bool :=
  match s.view h (s.headLine h line) with | some (_, l) => l == line | none => false

/-- The error source of a cause (R429): 1 external, 2 internal, 3 injected. -/
def poisonSource (cause : Nat) : Nat := if cause = 6 ∨ cause = 11 then 1 else if cause = 13 then 3 else 2

/-- Records that one answer holds. -/
def poisonPage : Nat := 254

/-- GET_POISON_LIST (R431): the records in the head's view after the first `skip`; the More flag tells that others follow. -/
def getPoisonList (rt : Route) (skip : Nat) (s : State) : State :=
  mboxHead rt (fun h s =>
    let l := (s.flt.dead.filter (fun d => s.inHeadView h d.line)).drop skip
    let one := fun (d : DeadRec) => [s.headLine h d.line, if d.page then 64 else 1, poisonSource d.cause]
    reply rt .success ([(decide (poisonPage < l.length)).toNat, s.rd FLT_DLS_OVF, s.rd FLT_DLS_OVT_TIME, min l.length poisonPage] ++
      (l.take poisonPage).flatMap one) s) s

/-- GET_POISON_LIST (R431). -/
def execGetPoisonList (rt : Route) (skip : Nat) (s : State) : Host.Outcome State Fault Refusal := .next (settle (getPoisonList rt skip s))

/-- INJECT_POISON (R433, R390): refused outside Factory Test. -/
def injectPoison (rt : Route) (haddr : Nat) (s : State) : State :=
  mboxHead rt (fun h s =>
    if s.modeCode ≠ 0 then reply rt .unsupported [] s
    else match s.view h haddr with
      | none => reply rt .invalidPhysical [] s
      | some (_, line) => reply rt .success [] (poisonLine line 13 0 s)) s

/-- INJECT_POISON (R433). -/
def execInjectPoison (rt : Route) (haddr : Nat) (s : State) : Host.Outcome State Fault Refusal := .next (settle (injectPoison rt haddr s))

/-- CLEAR_POISON (R433): a full-line write; with no way to be had it is to be tried again. -/
def clearPoison (rt : Route) (haddr : Nat) (data : Line) (s : State) : State :=
  mboxHead rt (fun h s =>
    if s.modeCode ≠ 0 then reply rt .unsupported [] s
    else match s.view h haddr with
      | none => reply rt .invalidPhysical [] s
      | some (r, line) => match writeLine r line data fullMask false h (clsOf r.cls) s with
        | some s => reply rt .success [] s
        | none => reply rt .retry [] s) s

/-- CLEAR_POISON (R433). -/
def execClearPoison (rt : Route) (haddr : Nat) (data : Line) (s : State) : Host.Outcome State Fault Refusal :=
  .next (settle (clearPoison rt haddr data s))

/-! Event logs (R441). Logs 0 to 3 are the four logs, log 4 the Dynamic Capacity log. -/

/-- Records that one answer holds. -/
def recordPage : Nat := 31

/-- GET_EVENT_RECORDS (R441): the oldest records, whether more follow, and how many were lost. -/
def getRecords (rt : Route) (l : Nat) (s : State) : State :=
  mboxHead rt (fun h s =>
    if l < 4 then
      let log := s.evt.logs.get (h * 4 + l) []
      reply rt .success ([(decide (recordPage < log.length)).toNat, s.evt.overflow.get (h * 4 + l) 0, min log.length recordPage] ++
        (log.take recordPage).flatMap (fun r => [r.src, r.unit, r.count])) s
    else if l = 4 then
      let log := s.evt.dcLog.get h []
      reply rt .success ([(decide (recordPage < log.length)).toNat, 0, min log.length recordPage] ++
        (log.take recordPage).flatMap (fun r => [r.1, r.2])) s
    else reply rt .invalidInput [] s) s

/-- GET_EVENT_RECORDS (R441). -/
def execGetEventRecords (rt : Route) (l : Nat) (s : State) : Host.Outcome State Fault Refusal := .next (settle (getRecords rt l s))

/-- CLEAR_EVENT_RECORDS (R441): the oldest `n` records, or all. -/
def clearRecords (rt : Route) (l n : Nat) (all : Bool) (s : State) : State :=
  mboxHead rt (fun h s =>
    if l < 4 then
      let log := s.evt.logs.get (h * 4 + l) []
      if !all && log.length < n then reply rt .invalidHandle [] s
      else reply rt .success [] { s with evt := { s.evt with
        logs := s.evt.logs.put (h * 4 + l) (if all then [] else log.drop n), overflow := s.evt.overflow.put (h * 4 + l) 0 } }
    else if l = 4 then
      let log := s.evt.dcLog.get h []
      if !all && log.length < n then reply rt .invalidHandle [] s
      else reply rt .success [] { s with evt := { s.evt with dcLog := s.evt.dcLog.put h (if all then [] else log.drop n) } }
    else reply rt .invalidInput [] s) s

/-- CLEAR_EVENT_RECORDS (R441). -/
def execClearEventRecords (rt : Route) (l n : Nat) (all : Bool) (s : State) : Host.Outcome State Fault Refusal :=
  .next (settle (clearRecords rt l n all s))

/-- GET_EVENT_INTERRUPT_POLICY (R441): mode and vector of each of the four logs, as mode + 16 × vector. -/
def execGetEventInterruptPolicy (rt : Route) (s : State) : Host.Outcome State Fault Refusal :=
  .next (settle (mboxHead rt (fun h s => reply rt .success ((List.range 4).map (fun l => s.evt.policy.get (h * 4 + l) 0)) s) s))

/-- SET_EVENT_INTERRUPT_POLICY (R441): a mode above 2 is reserved. -/
def setPolicy (rt : Route) (pols : List Nat) (s : State) : State :=
  mboxHead rt (fun h s =>
    if pols.length ≠ 4 ∨ pols.any (fun p => p % 16 > 2 || 128 ≤ p / 16) then reply rt .invalidInput [] s
    else reply rt .success [] (forAll pols.zipIdx (fun x s =>
      { s with evt := { s.evt with policy := s.evt.policy.put (h * 4 + x.2) x.1 } }) s)) s

/-- SET_EVENT_INTERRUPT_POLICY (R441). -/
def execSetEventInterruptPolicy (rt : Route) (pols : List Nat) (s : State) : Host.Outcome State Fault Refusal :=
  .next (settle (setPolicy rt pols s))

/-- TIER_ENGINE_STATE_ERROR (R417): Fatal in a unit that no fence covers leads to the Integrity Halt at once. -/
def execTierEngineStateError (s : State) : Host.Outcome State Fault Refusal :=
  .next (settle (if s.stopped || s.modeCode == 6 || !s.pwr.converters then s else fault 9 0 2 0 0 0 s))

end Sys2Proof.Machine
end

