-- ==== Sys2Proof/Machine/Counters.lean ====
section
/-! DEFINITION. Performance counters (chapter 21): selection, freezing, snapshots and clearing, the periodic dump into the counter
ring, the catalogue, and what a cycle of the fabric clock counts. -/
namespace Sys2Proof.Machine

/-! Events (R460). -/

/-- The event numbers that the rules name. -/
def namedEvents : List Nat :=
  [0x000, 0x001, 0x010, 0x104, 0x120, 0x140, 0x201, 0x210, 0x410, 0x411, 0x500, 0x520, 0x600, 0x610, 0x700, 0x800, 0x900, 0x901,
   0xA10, 0xB00] ++ (List.range 16).map (0x300 + ·)

/-- An event number is defined: named by a rule, or by the catalogue of the part, whose groups end at 0xB. -/
def eventDefined (ev : Nat) : Bool :=
  namedEvents.contains ev || (decide (ev < 0xC00) && (Config.counterEvent ev).isSome)

/-- The kind of an event: 0 count, 1 occupancy, 2 cycles. -/
def eventKind (ev : Nat) : Nat :=
  if ev = 0x000 then 2 else if ev = 0x140 then 1 else if namedEvents.contains ev then 0 else ((Config.counterEvent ev).getD (0, 0)).1

/-- The greatest increment of an event in a cycle, at most 1,024 (R458). -/
def eventMost (ev : Nat) : Nat := min ((Config.counterEvent ev).getD (0, 0)).2 1024

/-- An event whose occurrences no rule describes at the level of the commands: one that the catalogue alone defines, and the flits
received. -/
def eventFree (ev : Nat) : Bool := eventDefined ev && (ev == 0x010 || !(namedEvents.contains ev))

/-! Selecting, freezing, snapshots, clearing. -/

/-- Counter i counts, or does not; the list is kept in ascending order. -/
def setLive (i : Nat) (en : Bool) (s : State) : State :=
  { s with cnt := { s.cnt with live := (List.range 256).filter (fun k => if k = i then en else s.cnt.live.contains k) } }

/-- A write of CNT_SEL_i: its six fields (R459, R460). An undefined event is refused with result 2; the counter keeps its value. -/
def selectWrite (i ev heads classes unit : Nat) (pub en : Bool) (s : State) : Nat × State :=
  if 256 ≤ i then (1, s)
  else if !(eventDefined (ev % 4096)) then (2, s)
  else
    let s := ((s.wr CNT_SEL_EVENT ev i).wr CNT_SEL_HFILT heads i).wr CNT_SEL_CFILT classes i
    (0, setLive i en ((s.wr CNT_SEL_UNIT unit i).wrB CNT_SEL_PUBLIC pub i))

/-- COUNTER_SELECT_WRITE (R459, R460). -/
def execCounterSelectWrite (rt : Option Route) (i ev heads classes unit : Nat) (pub en : Bool) (s : State) :
    Host.Outcome State Fault Refusal :=
  .next (settle (pstCall rt (selectWrite i ev heads classes unit pub en) s))

/-- FREEZE stops or restarts every counter (R462). -/
def freezeWrite (v : Bool) (s : State) : Nat × State := (0, s.wrB CNT_CTL_FREEZE v)

/-- COUNTER_FREEZE (R462). -/
def execCounterFreeze (rt : Option Route) (v : Bool) (s : State) : Host.Outcome State Fault Refusal :=
  .next (settle (pstCall rt (freezeWrite v) s))

/-- A snapshot: all 256 values, SNAPSEQ, the time (R462). -/
def takeSnapshot (s : State) : State :=
  let s := forAll (List.range 256) (fun i s => s.wr CNT_SNAP_VALUE (s.rd CNT_VAL_VALUE i) i) s
  (s.wr CNT_CTL_SNAPSEQ (s.rd CNT_CTL_SNAPSEQ + 1)).wr CNT_SNAPTS_TIME s.stamp

/-- COUNTER_SNAPSHOT (R462). -/
def execCounterSnapshot (rt : Option Route) (s : State) : Host.Outcome State Fault Refusal :=
  .next (settle (pstCall rt (fun s => (0, takeSnapshot s)) s))

/-- Every counter and every saturation bit becomes zero (R462). -/
def clearCounters (s : State) : State :=
  let s := forAll (List.range 256) (fun i s => s.wr CNT_VAL_VALUE 0 i) s
  forAll (List.range 4) (fun j s => s.wr CNT_SAT_SAT 0 j) s

/-- COUNTER_CLEAR (R462). -/
def execCounterClear (rt : Option Route) (s : State) : Host.Outcome State Fault Refusal :=
  .next (settle (pstCall rt (fun s => (0, clearCounters s)) s))

/-! The counter ring (R464 to R466). -/

/-- Records that the ring holds. -/
def State.ringRecords (s : State) : Nat := 2 ^ s.rd CNT_RING_A_LOGSZ

/-- The head address of record n: 2,112 bytes each. -/
def State.recordAddr (s : State) (n : Nat) : Nat := s.rd CNT_RING_A_BASE * 64 + 2112 * (n % s.ringRecords)

/-- EN written: with 1 the ring is checked, and PROD becomes 0 when dumps start (R466). -/
def ringEnable (en : Bool) (s : State) : Nat × State :=
  if !en then (0, s.wr CNT_RING_B_EN 0)
  else if !(CNT_RING_A_LOGSZ.inRange (s.rd CNT_RING_A_LOGSZ)) || !(CNT_RING_B_PERIOD.inRange (s.rd CNT_RING_B_PERIOD)) then
    (0, (s.wr CNT_RING_B_EN 0).wr CNT_RING_B_ERR 1)
  else if !(s.postOk (s.rd CNT_RING_A_HEAD) (s.recordAddr 0) (2112 * s.ringRecords)) then
    (0, (s.wr CNT_RING_B_EN 0).wr CNT_RING_B_ERR 2)
  else (0, ((s.wr CNT_RING_B_EN 1).wr CNT_RING_B_ERR 0).wr CNT_RING_C_PROD 0)

/-- COUNTER_RING_ENABLE (R466). -/
def execCounterRingEnable (rt : Option Route) (en : Bool) (s : State) : Host.Outcome State Fault Refusal :=
  .next (settle (pstCall rt (ringEnable en) s))

/-- The 2,112 bytes of a dump record, of the snapshot just taken (R464). -/
def State.dumpBytes (s : State) : List Byte :=
  let flags := (s.rdB CNT_CTL_FREEZE).toNat + 2 * s.cnt.dropped.toNat
  fit 64 (leBytes 8 (s.rd CNT_CTL_SNAPSEQ) ++ leBytes 8 (s.rd CNT_SNAPTS_TIME) ++ leBytes 4 (s.rd CNT_RING_B_PERIOD) ++ [BitVec.ofNat 8 flags]) ++
    (List.range 256).flatMap (fun i => leBytes 8 (s.rd CNT_SNAP_VALUE i + (s.rdBit CNT_SAT_SAT (i % 64) (i / 64)).toNat * 2 ^ 63))

/-- The ring is full (R465). -/
def State.ringFull (s : State) : Bool :=
  (s.rd CNT_RING_C_PROD + 2 ^ 32 - s.rd CNT_RING_C_CONS) % 2 ^ 32 == s.ringRecords

/-- A period of the dump ends: a snapshot, and its record unless the ring is full or the one before is still being written (R464,
R465). -/
def dumpPeriod (s : State) : State :=
  if !(s.rdB CNT_RING_B_EN) || s.modeCode = 6 || s.stopped || !s.pwr.converters then s
  else
    let s := takeSnapshot s
    if s.ringFull || s.cnt.dump.isSome || s.cnt.due.isSome then
      raise 961 { s.bump CNT_RING_B_DROPS 1 with cnt := { s.cnt with dropped := true } }
    else
      let d : Dma := ⟨s.rd CNT_RING_A_HEAD, s.recordAddr (s.rd CNT_RING_C_PROD), s.dumpBytes⟩
      dmaShow { s with cnt := { s.cnt with due := some d, dropped := false } }

/-- COUNTER_DUMP_PERIOD (R464). -/
def execCounterDumpPeriod (s : State) : Host.Outcome State Fault Refusal := .next (settle (dumpPeriod s))

/-- The lines of the record are written, as far as hosts give up their copies; the last one advances PROD (R465, R466). -/
def dumpRun (s : State) : State :=
  match s.cnt.dump with
  | none => s
  | some d =>
    if s.stopped || s.modeCode = 6 then s
    else match dmaRun dumpKey 40 d s with
      | (.done, _, s) =>
        let s := dmaShow (forgetSnoops dumpKey { s with cnt := { s.cnt with dump := none } })
        raise 960 (s.wr CNT_RING_C_PROD (s.rd CNT_RING_C_PROD + 1))
      | (.ended, _, s) => dumpFail (if s.headFenced d.head then 4 else 3) s
      | (.blocked, d, s) => { s with cnt := { s.cnt with dump := some d } }

/-- DUMP_RECORD_WRITTEN (R465). -/
def execDumpRecordWritten (s : State) : Host.Outcome State Fault Refusal := .next (settle (dumpRun s))

/-! The catalogue. -/

/-- Each defined event, its kind and greatest increment. -/
def catalogue : List Nat := ((List.range 4096).filter eventDefined).flatMap (fun ev => [ev, eventKind ev, eventMost ev])

/-- GET_COUNTER_CATALOGUE (R460, R473): on every route. -/
def execGetCounterCatalogue (rt : Route) (s : State) : Host.Outcome State Fault Refusal :=
  .next (settle (mailbox rt (reply rt .success catalogue) s))

/-! What a cycle counts. -/

/-- A counter of an event that no rule describes rises by a free amount, at most the greatest of its event (R458, R460). -/
def freeCount (i : Nat) (s : State) : State :=
  let ev := s.rd CNT_SEL_EVENT i
  if eventFree ev && !s.cntHeld then
    addCount (count 0xB00 none 0x1F 1) i (s.fresh.1 % (eventMost ev + 1)) s.fresh.2
  else s

/-- One cycle of the fabric clock, with some ticks of the housekeeping oscillator in it (R458, R460). -/
def cycleCounts (ticks : Nat) (s : State) : State :=
  let s := count 0x001 none 0x1F ticks (count 0x000 none 0x1F 1 s)
  let s := forAll s.home.reqs (fun q s => count 0x140 (some (q.head, clsBit q.cls q.ovd)) (s.logicalSliceOf q.line) 1 s) s
  forAll s.cnt.live freeCount s

end Sys2Proof.Machine
end

