-- ==== Sys2Proof/Machine/Home.lean ====
section
/-! DEFINITION. The commands of the coherence home (chapter 03): the M2S messages of hosts, and the events of a slice. -/
namespace Sys2Proof.Machine




/-- MEM_RD (R80): a MemRd of head h with a MetaValue. -/
def execMemRd (h : Head) (haddr : Nat) (mv : Meta) (ups : List Upset) (s : State) : Host.Outcome State Fault Refusal :=
  .next (settle (releaseHeld (arrive h .rd haddr mv 0 0 false (addUpsets ups s))))

/-- MEM_RD_DATA (R80). -/
def execMemRdData (h : Head) (haddr : Nat) (ups : List Upset) (s : State) : Host.Outcome State Fault Refusal :=
  .next (settle (releaseHeld (arrive h .rdData haddr .shared 0 0 false (addUpsets ups s))))

/-- MEM_INV (R80). -/
def execMemInv (h : Head) (haddr : Nat) (mv : Meta) (ups : List Upset) (s : State) : Host.Outcome State Fault Refusal :=
  .next (settle (releaseHeld (arrive h .inv haddr mv 0 0 false (addUpsets ups s))))

/-- MEM_INV_NT (R80): handled as MemInv. -/
def execMemInvNt (h : Head) (haddr : Nat) (mv : Meta) (ups : List Upset) (s : State) : Host.Outcome State Fault Refusal :=
  .next (settle (releaseHeld (arrive h .inv haddr mv 0 0 false (addUpsets ups s))))

/-- MEM_CLN_EVCT (R80, R82). -/
def execMemClnEvct (h : Head) (haddr : Nat) (ups : List Upset) (s : State) : Host.Outcome State Fault Refusal :=
  .next (settle (releaseHeld (arrive h .clnEvct haddr .invalid 0 0 false (addUpsets ups s))))

/-- MEM_WR (R80, R27, R329): a full line; `poison` when its data carries poison. -/
def execMemWr (h : Head) (haddr : Nat) (mv : Meta) (data : Line) (poison : Bool) (ups : List Upset) (s : State) :
    Host.Outcome State Fault Refusal :=
  .next (settle (releaseHeld (arrive h .wr haddr mv data fullMask poison (addUpsets ups s))))

/-- MEM_WR_PTL (R80, R28, R329): the bytes under the byte-valid mask. -/
def execMemWrPtl (h : Head) (haddr : Nat) (mv : Meta) (data : Line) (mask : Mask) (poison : Bool) (ups : List Upset)
    (s : State) : Host.Outcome State Fault Refusal :=
  .next (settle (releaseHeld (arrive h .wrPtl haddr mv data mask poison (addUpsets ups s))))

/-- A MemSpecRd starts the lookup of the page entry and is never answered (R80). -/
def specRd (h haddr : Nat) (s : State) : State :=
  match s.gate h .rd haddr with
  | .none => s
  | .plain => noteActivity s
  | .outside => outOfView h (noteActivity s)
  | .unsupported => protoError h (noteActivity s)
  | .hold => noteActivity s
  | .serve _ line => fetchEntry (linePage line) (noteActivity s)

/-- MEM_SPEC_RD (R80). -/
def execMemSpecRd (h : Head) (haddr : Nat) (s : State) : Host.Outcome State Fault Refusal := .next (settle (specRd h haddr s))

/-- A head's snoop traffic is taken: its link is up, it is not fenced, the device does not halt (R98, R337). -/
def State.takesRsp (s : State) (h : Nat) : Bool :=
  s.rd HPT_LNK_STATE h == 4 && !(s.headFenced h) && s.modeCode != 7 && !s.mode.halting

/-- BICONFLICT (R84): counted and acknowledged. Every request of the head that its slice ordered before the snoop has
completed by then, and one not yet ordered is handled after the snoop. -/
def execBiconflict (h : Head) (haddr : Nat) (s : State) : Host.Outcome State Fault Refusal :=
  .next (settle (if s.takesRsp h then (s.bump HOM_HEAD_CONFLICT 1 h).emit (.ndr h haddr .conflictAck 0) else s))

/-- A response for one line (R82, R86): it satisfies the head's snoop of the line, or comes late from a silent holder, whose
state it reports, or is discarded. -/
def rspLine (h line : Nat) (r : Rsp) (s : State) : State :=
  match s.snoopOf h line with
  | some n => satisfy n line (permitted n.kind r) true s
  | none =>
    match s.home.filt.find line with
    | some e => if e.silent.getLsbD h then unsilence line h (holderAfter line h r s) else s
    | none => s

/-- A BIRsp at the home (R82, R83): for the four lines of its sheet in block form. A response not permitted for its snoop is a
protocol error. -/
def birsp (h haddr : Nat) (blk : Bool) (r : Rsp) (s : State) : State :=
  if s.takesRsp h then
    match layoutFind (s.headRegions h) haddr with
    | none => s
    | some (_, line) =>
      let lines := if blk then sheetLines (lineSheet line) else [line]
      let bad := lines.any (fun l => match s.snoopOf h l with | some n => !(isPermitted n.kind r) | none => false)
      let s := if bad then protoError h s else s
      releaseHeld (forAll lines (fun l s => rspLine h l r s) s)
  else s

/-- BIRSP_I (R82). -/
def execBirspI (h : Head) (haddr : Nat) (blk : Bool) (s : State) : Host.Outcome State Fault Refusal :=
  .next (settle (birsp h haddr blk .i s))
/-- BIRSP_S (R82). -/
def execBirspS (h : Head) (haddr : Nat) (blk : Bool) (s : State) : Host.Outcome State Fault Refusal :=
  .next (settle (birsp h haddr blk .s s))
/-- BIRSP_E (R82). -/
def execBirspE (h : Head) (haddr : Nat) (blk : Bool) (s : State) : Host.Outcome State Fault Refusal :=
  .next (settle (birsp h haddr blk .e s))

/-- A message the head does not support (R329). A fenced head's message is answered as the fence says (R337). -/
def unsupportedMessage (h haddr : Nat) (read : Bool) (s : State) : State :=
  match s.gate h (if read then .rd else .wr) haddr with
  | .none => s
  | .plain => answerPlain h haddr read (noteActivity s)
  | _ => answerPlain h haddr read (protoError h (noteActivity s))

/-- UNSUPPORTED_M2S_MESSAGE (R329). -/
def execUnsupportedM2sMessage (h : Head) (haddr : Nat) (read : Bool) (s : State) : Host.Outcome State Fault Refusal :=
  .next (settle (unsupportedMessage h haddr read s))

/-- QUEUED_REQUEST_RESUME (R75): the first request waiting in the queue of a line is taken up. -/
def execQueuedRequestResume (line : Nat) (s : State) : Host.Outcome State Fault Refusal :=
  .next (settle (retryStage line .queued s))

/-- FILTER_ALLOC_RETRY (R79): a request of the line that waited for a way or an eviction tracker. -/
def execFilterAllocRetry (line : Nat) (s : State) : Host.Outcome State Fault Refusal :=
  .next (settle (retryStage line .way s))

/-- The hold time of a line ends (R87): a waiting request may send its snoop, a rebuild its block snoop (R94). -/
def holdEnd (line : Nat) (s : State) : State :=
  match s.home.filt.find line with
  | none => s
  | some e =>
    let s := retryStage line .hold (setFilt line (some { e with held := false }) s)
    if s.rdB HOM_SLMAP_REBUILD then rebuildSnoops s else s

/-- HOLD_TIME_END (R87). -/
def execHoldTimeEnd (line : Nat) (s : State) : Host.Outcome State Fault Refusal := .next (settle (holdEnd line s))

/-- Step 2 of R91 for a line: the silent head stays a holder, marked. -/
def markSilent (n : Snoop) (line : Nat) (s : State) : State :=
  let s := { s with home := { s.home with evt := s.home.evt.map (fun (t : EvtTracker) =>
    if t.line = line ∧ t.holders.getLsbD n.head then { t with silent := t.silent ||| headBit n.head } else t) } }
  match s.home.filt.find line with
  | some e => if e.holders.getLsbD n.head then
      setFilt line (some { e with timedOut := true, silent := e.silent ||| headBit n.head, pending := s.snooped line }) s
    else s
  | none => s

/-- The head holds the line, by the filter or an eviction tracker. -/
def State.holds (s : State) (h line : Nat) : Bool :=
  (match s.home.filt.find line with | some e => e.holders.getLsbD h | none => false) ||
    s.home.evt.any (fun t => t.line == line && t.holders.getLsbD h)

/-- Step 3 of R91, and the fresh snoop of work that goes on: a request is completed; an eviction, a release, a rebuild, a
drain or an erase snoops the head again (R79, R83). -/
def expireFor (n : Snoop) (s : State) : State :=
  match n.why with
  | .request id => match s.req id with
    | some q => completePoisoned q s
    | none => s
  | .courier key => { s with cou := { s.cou with timed := n.left.map (fun l => (key, l)) ++ s.cou.timed } }
  | _ => sendSnoop n.head n.line n.blk n.left n.kind n.why s

/-- Step 4 of R91 and R92: the count of the silent head, its event, and its fence when the count reaches DEAD_N. -/
def countTimeout (h : Nat) (s : State) : State :=
  let s := (s.bump HOM_HEAD_TO_TOTAL 1 h).wr HOM_HEAD_TO_RUN (min (s.rd HOM_HEAD_TO_RUN h + 1) 8) h
  let s := raiseLimited (128 + 8 * h + 2) 0 s
  if s.rd HOM_CFG_DEAD_N ≤ s.rd HOM_HEAD_TO_RUN h && !(s.headFenced h) then
    fault 1 h 2 (128 + 8 * h + 4) 0 0 (fenceCause h 1 s)
  else s

/-- A snoop of a head expires unsatisfied (R91). -/
def bisnpTimeout (h line : Nat) (s : State) : State :=
  match s.snoopOf h line with
  | none => s
  | some n =>
    let s := { s with home := { s.home with snoops := s.home.snoops.filter (· ≠ n) } }
    let s := forAll (n.left.filter (s.holds h)) (fun l s => markSilent n l (poisonLine l 4 0 s)) s
    let s := forAll n.left (fun l s => match s.home.filt.find l with
      | some e => setFilt l (some { e with pending := s.snooped l }) s
      | none => s) s
    releaseHeld (countTimeout h (expireFor n s))

/-- BISNP_TIMEOUT (R91, R92, R93). -/
def execBisnpTimeout (h : Head) (line : Nat) (s : State) : Host.Outcome State Fault Refusal :=
  .next (settle (bisnpTimeout h line s))

/-- The rebuild of the spare ends once its filter holds no entry and the drained lines of the fenced slice are written back
(R94, step 6); otherwise its block snoops go on. -/
def rebuildDone (s : State) : State :=
  if !(s.rdB HOM_SLMAP_REBUILD) then s
  else
    let old := s.home.rebuilding.getD 16
    if s.home.filt.any (fun x => x.2.slice == 16) || s.home.evt.any (fun t => t.slice == 16) ||
        s.fc.wbuf.any (fun w => w.slice == old) then rebuildSnoops s
    else
      let n := s.rd HOM_SLMAP_SUB
      let s := { s.wr HOM_SLMAP_REBUILD 0 with
        home := { s.home with rebuilding := none, headPtr := s.home.headPtr.put 16 0 } }
      releaseHeld (raise (256 + 8 * n + 4) s)

/-- SLICE_REBUILD_DONE (R94, step 6). -/
def execSliceRebuildDone (s : State) : Host.Outcome State Fault Refusal := .next (settle (rebuildDone s))

end Sys2Proof.Machine
end

