-- ==== Sys2Proof/Machine/Logbook.lean ====
section
/-! DEFINITION. The Logbook store's commands (chapter 20): page writes requested, ended and retried, the write-protect pin, reads. -/
namespace Sys2Proof.Machine

/-- A page write is requested (R446, R448, R450): by the Postmaster or hardware, or by a Clerk, whom the firewall keeps out of the
partitions it may not write (R394). -/
def pageWrite (clerk : Bool) (part off : Nat) (data : List Byte) (s : State) : State :=
  if 8 ≤ part || !s.pwr.converters || s.modeCode == 6 then s
  else if clerk && s.post.coresUp.isEmpty then s
  else if clerk && part < 4 then raise 88 s
  else logSend 2 part (.bytes off data) true s

/-- LOGBOOK_PAGE_WRITE (R446). -/
def execLogbookPageWrite (clerk : Bool) (part off : Nat) (data : List Byte) (s : State) : Host.Outcome State Fault Refusal :=
  .next (settle (pageWrite clerk part off data s))

/-- The page write in progress ends: committed; or its verify fails, the page retires, and the write begins again on another page, or
ends with Verify Failed the second time (R446, R451). -/
def pageDone (ok : Bool) (s : State) : State :=
  match s.book.run with
  | none => s
  | some r =>
    if ok then finishPage r s
    else
      let s := retirePage r.req.part r.shadow s
      let giveUp := fun (res : Nat) (s : State) =>
        let s := setBook { s.book with run := none } { s with flt := { s.flt with queue := r.recs ++ s.flt.queue } }
        logPump (s.book.queue.length + 2) (refuseWrite r.req res s)
      if 1 ≤ r.fails then giveUp 5 s
      else match chooseShadow r.req.part 4096 s with
        | (none, s) => giveUp 4 (raise 978 s)
        | (some (k, wear), s) =>
          setBook { s.book with pages := s.book.pages.put k ⟨0xFFFF, 0, wear + 1, false, 0, false, []⟩, run := some { r with shadow := k, fails := 1 } } s

/-- LOGBOOK_PAGE_WRITE_DONE (R446, R451). -/
def execLogbookPageWriteDone (ok : Bool) (s : State) : Host.Outcome State Fault Refusal := .next (settle (pageDone ok s))

/-- The Halt record that was refused Busy is tried again (R165 step 4), and so are the writes that were refused (R450). -/
def logRetry (s : State) : State :=
  if s.mode.halting then haltWrite s
  else
    let again := s.book.refused
    let s := setBook { s.book with queue := s.book.queue ++ again, refused := [] } s
    logPump (s.book.queue.length + 2) s

/-- LOGBOOK_WRITE_RETRY (R450). -/
def execLogbookWriteRetry (s : State) : Host.Outcome State Fault Refusal := .next (settle (logRetry s))

/-- A transfer in progress fails; its slot stays erased (R413, R414). -/
def failTransfer (s : State) : State := { s.wr PST_STAT_STAGING 0 with post := { s.post with transfer := none } }

/-- LOGWP_N changes (R444, R413). -/
def logwp (level : Bool) (s : State) : State :=
  if s.pins.logwpN = level then s
  else
    let s := { s with pins := { s.pins with logwpN := level } }
    let s := if !level && s.post.transfer.isSome then failTransfer (s.wr PST_STAT_RESULT 8) else s
    if s.pwr.converters && s.modeCode != 6 then raise 980 s else s

/-- LOGWP_CHANGE (R444). -/
def execLogwpChange (level : Bool) (s : State) : Host.Outcome State Fault Refusal := .next (settle (logwp level s))

/-- READ_LOGBOOK (R473): up to 4 KiB of a partition that may be read. -/
def readLogbook (rt : Route) (part off n : Nat) (s : State) : State :=
  mboxHostw rt (fun s =>
    if !([0, 4, 5, 6, 7].contains part) || 4096 < n || 256 * (s.part3 part).2.2 < off + n then reply rt .invalidInput [] s
    else reply rt .success ((s.logRead part off n).map (·.toNat)) s) s

/-- READ_LOGBOOK (R473). -/
def execReadLogbook (rt : Route) (part off n : Nat) (s : State) : Host.Outcome State Fault Refusal :=
  .next (settle (readLogbook rt part off n s))

end Sys2Proof.Machine
end

