-- ==== Sys2Proof/Machine/RegAccess.lean ====
section
/-! DEFINITION. Accesses to the windows of the BARs (chapter 23, R12, R13): the values that read-only fields show of the rest of
the state, the reading and writing of registers under their access codes, doorbells, user counter pages and MSI-X tables; and the
writing of protected fields through the call interface (R396). -/
namespace Sys2Proof.Machine

/-! What read-only fields show. -/

/-- The lowest WEAR of the data segments of a stack that are not retired; an unlisted segment has WEAR 0. -/
def State.wearMin (s : State) (k : Nat) : Nat :=
  let l := (s.segsOf k).filter (fun x => decide (x.1 < dataSegs))
  if l.length < dataSegs then 0
  else match (l.filter (fun x => x.2.state != .retired)).map (fun x => x.2.wear) with
    | [] => 0
    | a :: r => r.foldl min a

/-- The highest WEAR of the data segments of a stack that are not retired. -/
def State.wearMax (s : State) (k : Nat) : Nat :=
  ((s.segsOf k).filter (fun x => decide (x.1 < dataSegs) && x.2.state != .retired)).foldl (fun a x => max a x.2.wear) 0

/-- The lowest WEAR of the pages of a partition that are not retired; an erased page has the highest (R449). -/
def State.lowWear (s : State) (p : Nat) : Nat :=
  ((s.partPages p).filter (fun x => !x.2.retired)).foldl (fun a x => min a x.2.wear) (s.topWear p)

/-- Parcels of a tier by item (CAP_PAR): total, free, owned, stale, in flight, reserved, quarantined. -/
def Tier.item (t : Tier) (k : Nat) : Nat :=
  match k with
  | 0 => t.total
  | 1 => t.free
  | 2 => t.owned
  | 3 => t.stale
  | 4 => t.growth + t.reloc
  | 5 => t.reserved
  | _ => t.quar

/-- Read-only fields of chapters 02 to 07 that show other state, by index. -/
def shownCap : List (Fld × (State → Nat → Nat)) := [
  (CAP_RGN_C_HIST_ANY, fun s n => (match s.region n with
    | some r => s.mem.history.any (fun e => decide (r.base ≤ e ∧ e < r.base + r.size))
    | none => false).toNat),
  (HOM_SL_SF_OCC, fun s i => (s.home.filt.filter (fun x => x.2.slice == i)).length),
  (HOM_SL_TRK, fun s i => (s.trackers i).length),
  (HOM_SL_EVT_TRK, fun s i => (s.home.evt.filter (fun t => t.slice == i)).length),
  (FCA_SL_VALID, fun s i => (s.fcOfSlice i).length),
  (FCA_SL_DIRTY, fun s i => ((s.fcOfSlice i).filter (fun x => x.2.dirty)).length),
  (FCA_SL_LOCKED, fun s i => ((s.fcOfSlice i).filter (fun x => x.2.locked)).length),
  (FCA_SL_BYPASS, fun s i => s.rd HOM_SL_FENCED i),
  (FCA_SLP_PDIRTY, fun s i => s.pdirty i),
  (FCA_SLP_STREAMS, fun s i => (s.fc.streams.filter (fun x => x.slice == i && decide (2 ≤ x.conf))).length),
  (CAP_CHG_HEADROOM, fun s _ => s.headroom),
  (CAP_GPOOL_NPOOL, fun s _ => (s.pool % 2 ^ 41).toNat),
  (CAP_RES_REMAIN, fun s _ => s.reserveLeft),
  (CAP_PAR_COUNT, fun s i => (if i < 7 then s.cap.dram else s.cap.media).item (i % 7)),
  (CAP_EU_USE, fun s h => s.elasticUse h),
  (CAP_EU_OVER, fun s h => (s.aboveQuota h).toNat),
  (CAP_EU_RESUSED, fun s h => s.cap.debt.get h 0 / 2048),
  (TIE_STAT2_INFLIGHT, fun s _ => min s.migrating 255)]

/-- Read-only fields of chapters 08 to 13 that show other state. -/
def shownTiers : List (Fld × (State → Nat → Nat)) := [
  (DRM_CH_RDQ, fun s c => (s.readQ c).length), (DRM_CH_WRQ, fun s c => (s.writeQ c).length),
  (MED_STG_USED, fun s _ => (s.media.slots.filter (fun x => x.stream == 0)).length / 2048),
  (MED_STK_EMPTY, fun s k => s.emptyCount k), (MED_STK_SPARE, fun s k => s.spareCount k),
  (MED_STK_SEG_CLOSED, fun s k => s.listedIn k .closed), (MED_STK_SEG_RETIRED, fun s k => s.listedIn k .retired),
  (MED_STK_SEG_RCL, fun s k => min (s.media.reclaims.filter (fun x => x.stack == k)).length 7),
  (MED_STK_WEAR_WMIN, fun s k => s.wearMin k), (MED_STK_WEAR_WMAX, fun s k => s.wearMax k),
  (MED_HSTK_ERQ, fun s k => (s.media.erq.get k []).length),
  (FLM_LNK_CR_AVCMD, fun s k => (s.link k).d0.avCmd), (FLM_LNK_CR_AVDAT, fun s k => (s.link k).d0.avDat),
  (FLM_LNK_CR_OUTCMD, fun s k => (s.link k).d0.outCmd), (FLM_LNK_CR_OUTDAT, fun s k => (s.link k).d0.outDat),
  (COU_ENG_INPROG, fun s e => (s.cou.rings.filter (fun x => match x.2.desc with | some d => d.engine == e | none => false)).length),
  (QOS_RES_A_CAP, fun s r => (s.tok r).cap), (QOS_RES_A_TOTAL, fun s r => (s.tok r).total),
  (QOS_RES_A_SPENT, fun s r => (s.tok r).spent),
  (QOS_RES_B_HELD, fun s r => (s.tok r).held), (QOS_RES_B_POOL, fun s r => (s.tok r).pool)]

/-- Read-only fields of chapters 18 to 22 that show other state, and CNT_SEL.EN. -/
def shownRest : List (Fld × (State → Nat → Nat)) := [
  (PST_STAT_CLERKS, fun s _ => s.post.coresUp.foldl (fun a c => a ||| 2 ^ c) 0),
  (PST_STAT_CLKRST, fun s _ => s.post.restarting.toNat),
  (FLT_DLS_COUNT, fun s _ => s.flt.dead.length),
  (LOG_STAT_BUSY, fun s _ => s.book.run.isSome.toNat), (LOG_STAT_WP, fun s _ => (!s.pins.logwpN).toNat),
  (LOG_STAT_ENERGY, fun s _ => s.logEnergy.toNat),
  (LOG_PART_FREE, fun s p => min (s.freePages p) 127), (LOG_PART_RETIRED, fun s p => min (s.retiredPages p) 127),
  (LOG_PART_W_WMAX, fun s p => s.topWear p), (LOG_PART_W_WMIN, fun s p => s.lowWear p),
  (CNT_SEL_EN, fun s i => (s.cnt.live.contains i).toNat),
  (MGT_MCTP_SESS, fun s _ => s.mgt.sessions.length)]

/-- The value a field shows: the state it is about, or what is stored in it. -/
def State.shown (s : State) (f : Fld) (i : Nat) : Nat :=
  match (shownCap ++ shownTiers ++ shownRest).find? (fun x => x.1.id == f.id) with
  | some x => x.2 s i % 2 ^ f.w
  | none => s.rd f i

/-! Where a register lies (R488). -/

/-- The index within some dimensions that an offset falls at, and what is left of the offset. -/
def dimIndex : List (Nat × Nat) → Nat → Option (Nat × Nat)
  | [], rel => some (0, rel)
  | (stride, n) :: l, rel =>
    let i := min (rel / stride) (n - 1)
    match dimIndex l (rel - i * stride) with
    | some (j, r) => some (i * (l.foldl (fun a x => a * x.2) 1) + j, r)
    | none => none

/-- The register that holds a BAR0 offset, its index, and the byte within it. -/
def regAt (off : Nat) : Option (RegDef × Nat × Nat) :=
  regDefs.findSome? (fun d =>
    if off < d.base then none
    else match dimIndex d.dims (off - d.base) with
      | some (i, r) => if r < d.width / 8 then some (d, i, r) else none
      | none => none)

/-- How many units of each kind of R419 the part has. -/
def Part.unitCount (p : Part) (kind : Nat) : Nat :=
  match kind with
  | 1 => p.heads
  | 2 => 17
  | 3 => p.channels
  | 4 => p.stacks
  | 5 => 17
  | 6 => 17
  | 7 => p.couriers
  | 8 => 4
  | _ => 1

/-- The register belongs wholly to a unit absent from the part (R6), or to a reserved source (EVT_ROUTE). -/
def State.regAbsent (s : State) (d : RegDef) (i : Nat) : Bool :=
  let n := d.name
  if ["DRM_CH", "DRM_CH_NR", "DRM_CH_RT", "DRM_CH_ECC", "DRM_UE"].contains n then decide (s.part.channels ≤ i)
  else if ["MED_STK", "MED_STK_SEG", "MED_STK_PRG", "MED_STK_PAD", "MED_STK_WEAR", "MED_HSTK", "MED_HSTK2", "FLM_LNK", "FLM_LNK_ERR",
      "FLM_LNK_CR", "FLM_PG", "FLM_UPAT", "FLM_INJ"].contains n then decide (s.part.stacks ≤ i)
  else if n = "FLM_TAP" then decide (s.part.stacks ≤ i / 10)
  else if n = "FLM_PCNT" then decide (s.part.stacks ≤ i / 5)
  else if n = "MED_DIE" then decide (s.part.stacks ≤ i / 33)
  else if ["MED_CFG", "MED_STG", "MED_RCL", "MED_RCL2", "MED_AGE", "MED_WEAR", "MED_DRIFT", "MED_HLTH", "MED_RBD", "FLM_CFG"].contains n then
    s.part.stacks == 0
  else if ["COU_ENG", "COU_ENG_B"].contains n then decide (s.part.couriers ≤ i)
  else if ["HOM_HEAD", "FCA_LOCKQ", "CAP_EQ", "CAP_EU", "CAP_ED", "COU_PART", "COU_RQ", "QOS_HEAD", "QOS_DEM", "HPT_HCFG", "HPT_LNK", "HPT_ERR",
      "HPT_ERR2", "HPT_PG", "HPT_UPAT", "HPT_INJ"].contains n then decide (s.part.heads ≤ i)
  else if ["QOS_BUD_A", "QOS_BUD_B", "HPT_PCNT"].contains n then decide (s.part.heads ≤ i / 4)
  else if n = "FLT_U" then decide (s.part.unitCount (i / 32 + 1) ≤ i % 32)
  else if n = "EVT_ROUTE" then sourceReserved i
  else false

/-- The bits of a field that a mask over its register covers, brought down to the field. -/
def Fld.part (f : Fld) (mask : Nat) : Nat := bits mask f.lo f.w

/-- The word a register shows; write-only fields read as zero (R13). -/
def State.regWord (s : State) (d : RegDef) (i : Nat) : Nat :=
  if s.regAbsent d i then 0
  else d.fields.foldl (fun a f => if f.acc = .wo then a else a + s.shown f i * 2 ^ f.lo) 0

/-- A read clears the RC fields it covers (R13). -/
def readClear (d : RegDef) (i mask : Nat) (s : State) : State :=
  d.fields.foldl (fun s f => if f.acc = .rc && f.part mask != 0 then s.wr f 0 i else s) s

/-- A direct write of a protected field is dropped, and event 87 raised (R13, PST_PROT). -/
def protectedDrop (who : Requester) (off : Nat) (s : State) : State :=
  let s := (s.bump PST_PROT_DROPS 1).wr PST_PROT_LAST off
  raise 87 (match who with
    | .head h => (s.wr PST_PROT_HEAD h.val).wr PST_PROT_CLERK 0
    | .clerk => s.wr PST_PROT_CLERK 1)

/-- The action of a write-only field written with 1. -/
def trigger (f : Fld) (i h : Nat) (s : State) : State :=
  if f.id = FCA_MOP_CTL_GO.id then mopGo h (s.rd FCA_MOP_CTL_OP h) (s.rd FCA_MOP_CTL_LINES h) s
  else if f.id = COU_ROPEN_GO.id then
    (match s.rd COU_ROPEN_OP h with
     | 0 => ringOpen h (s.rd COU_ROPEN_CTX h) s
     | 1 => ringClose h s
     | _ => if s.rdB COU_RSTAT_BUSY h then s.wr COU_RSTAT_REFUSED 1 h else s.wr COU_RSTAT_RESULT 6 h)
  else if f.id = FLM_PG_CLR.id then
    forAll (List.range 5) (fun l s =>
      ((s.wr FLM_PCNT_ERR 0 (5 * i + l)).wr FLM_PCNT_BITS 0 (5 * i + l)).wr FLM_PCNT_LOCK 0 (5 * i + l)) s
  else if f.id = HPT_PG_CLR.id then
    forAll (List.range 4) (fun l s =>
      ((s.wr HPT_PCNT_ERR 0 (4 * i + l)).wr HPT_PCNT_BITS 0 (4 * i + l)).wr HPT_PCNT_LOCK 0 (4 * i + l)) s
  else s

/-- A direct write of a field (R13): `m` the bits of the field written, `v` their values. -/
def writeFld (f : Fld) (i m v : Nat) (s : State) : State :=
  match f.acc with
  | .rw => s.wr f ((s.rd f i &&& (2 ^ f.w - 1 - m)) ||| (v &&& m)) i
  | .w1c => s.wr f (s.rd f i &&& (2 ^ f.w - 1 - (v &&& m))) i
  | .w1s => s.wr f (s.rd f i ||| (v &&& m)) i
  | _ => s

/-- A direct write of the bits of a register that a mask covers: each field under its code, then the actions of write-only fields. -/
def writeReg (who : Requester) (off : Nat) (d : RegDef) (i mask v : Nat) (s : State) : State :=
  let h := match who with | .head h => h.val | .clerk => 0
  let s := d.fields.foldl (fun s f => writeFld f i (f.part mask) (f.part v) s) s
  let s := if d.fields.any (fun f => f.acc = .pst && f.part mask != 0) then protectedDrop who off s else s
  d.fields.foldl (fun s f => if f.acc = .wo && (f.part mask &&& f.part v) == 1 then trigger f i h s else s) s

/-! Answers. -/

/-- The data of a read. -/
def answer (who : Requester) (v : Nat) (s : State) : State :=
  match who with
  | .head h => s.emit (.io h v)
  | .clerk => s.emit (.mgmt 1 [v])

/-- An access of the wrong width or alignment: zeros, no effect, a management fault of the mailbox transport (R12, R423). -/
def misaligned (who : Requester) (read : Bool) (s : State) : State :=
  mgmtFault 2 31 (if read then answer who 0 s else s)

/-- The requester can reach the window: a head's link is up, a Clerk core runs. -/
def State.reaches (s : State) : Requester → Bool
  | .head h => s.routeUp (.head h)
  | .clerk => !s.post.coresUp.isEmpty && s.modeCode != 6

/-! MSI-X (R332). -/

/-- Messages that were pending on vectors no longer masked are sent. -/
def msixRelease (h : Nat) (s : State) : State :=
  let due := s.ports.msixPend.reverse.filter (fun x => x / 128 == h && !(s.msixMasked h (x % 128)))
  let s := { s with ports := { s.ports with msixPend := s.ports.msixPend.filter (fun x => !(due.contains x)) } }
  forAll due (fun x s => s.emit (.msix h (x % 128))) s

/-- A word of the table written. -/
def msixWrite (h w v : Nat) (s : State) : State :=
  msixRelease h { s with ports := { s.ports with msix := s.ports.msix.put (h * 512 + w) (v % 2 ^ 32) } }

/-- A word of the pending bit array. -/
def State.pbaWord (s : State) (h w : Nat) : Nat :=
  (List.range 32).foldl (fun a b => if s.ports.msixPend.contains (h * 128 + w * 32 + b) then a + 2 ^ b else a) 0

/-- A 32-bit word of the table or the array. -/
def State.msixRead (s : State) (h w : Nat) : Nat := if w < 512 then s.msixWord h w else if w < 516 then s.pbaWord h (w - 512) else 0

/-- An access to the MSI-X structures of a head. -/
def msixAccess (h : Head) (off : Nat) (wide : Bool) (value : Option Nat) (s : State) : State :=
  let w := (off - 0x20000) / 4
  if off % (if wide then 8 else 4) ≠ 0 then misaligned (.head h) value.isNone s
  else match value with
    | none => answer (.head h) (s.msixRead h w + (if wide then s.msixRead h (w + 1) * 2 ^ 32 else 0)) s
    | some v =>
      if 512 ≤ w then s
      else
        let s := msixWrite h w (v % 2 ^ 32) s
        if wide then msixWrite h (w + 1) (v / 2 ^ 32) s else s

/-- A read of the standard CXL blocks of a head: what they hold is the standards' (DESIGN CHOICE: a free value). -/
def standardRead (who : Requester) (wide : Bool) (s : State) : State :=
  answer who (s.fresh.1 % 2 ^ (if wide then 64 else 32)) s.fresh.2

/-! BAR0, BAR2, BAR4. -/

/-- An access to a register of the device window. -/
def windowAccess (who : Requester) (off : Nat) (wide : Bool) (value : Option Nat) (s : State) : State :=
  match regAt off with
  | none => match value with | none => answer who 0 s | some _ => s
  | some (d, i, r) =>
    if off % (if wide then 8 else 4) ≠ 0 ∨ (wide ∧ d.width = 32) then misaligned who value.isNone s
    else if d.banked && who == .clerk then (match value with | none => answer who 0 s | some _ => s)
    else
      let i := match who with | .head h => if d.banked then h.val else i | .clerk => i
      let mask := if wide then 2 ^ 64 - 1 else (2 ^ 32 - 1) * 2 ^ (8 * r)
      match value with
      | none => readClear d i mask (answer who (s.regWord d i / 2 ^ (8 * r) % 2 ^ (if wide then 64 else 32)) s)
      | some v => if s.regAbsent d i then s else writeReg who off d i mask (v * 2 ^ (8 * r)) s

/-- An access through BAR0 (R484, R485). -/
def barZero (who : Requester) (off : Nat) (wide : Bool) (value : Option Nat) (s : State) : State :=
  if 0x800000 ≤ off then windowAccess who off wide value s
  else match who, value with
    | .head h, value =>
      if off < 0x20000 then (match value with | none => standardRead who wide s | some _ => s)
      else if off < 0x20810 then msixAccess h off wide value s
      else (match value with | none => answer who 0 s | some _ => s)
    | .clerk, none => answer who 0 s
    | .clerk, some _ => s

/-- STATE and ERR of a ring's doorbell (R289). -/
def Ring.stateWord (g : Ring) : Nat :=
  if g.closing then 3 else match g.state with | .closed => 0 | .running => 1 | .error => 2 + 4 * g.err

/-- An access to a doorbell (R486, R290). -/
def bellAccess (h : Head) (off : Nat) (wide : Bool) (value : Option Nat) (s : State) : State :=
  let o := off % 64
  let r := off / 64
  let g := match s.ring r with | some g => if g.head = h then some g else none | none => none
  let word := fun (a : Nat) => match g with
    | some g => if a = 0 then g.tl else if a = 8 then g.hd else if a = 12 then g.stateWord else 0
    | none => 0
  if 16 ≤ o then (match value with | none => s.emit (.io h 0) | some _ => s)
  else if !(o == 0 || o == 8 || (o == 12 && !wide)) then misaligned (.head h) value.isNone s
  else match value with
    | none => s.emit (.io h (word o + (if wide && o == 8 then word 12 * 2 ^ 32 else 0)))
    | some v => if o = 0 then doorbell h r (v % 2 ^ 32) s else s

/-- A counter shows in a head's user page (R467). -/
def State.userSees (s : State) (h i : Nat) : Bool :=
  s.rdBit CNT_UREN_UREN h && (s.rd CNT_SEL_HFILT i == 2 ^ h || s.rdB CNT_SEL_PUBLIC i)

/-- An 8-byte slot of a head's user counter pages (R467). -/
def State.userSlot (s : State) (h a : Nat) : Nat :=
  if a < 0x1000 then
    let i := a / 8 % 256
    if s.userSees h i then s.rd (if a < 0x800 then CNT_VAL_VALUE else CNT_SNAP_VALUE) i else 0
  else if a = 0x1000 then s.rd CNT_CTL_SNAPSEQ
  else if a = 0x1008 then s.rd CNT_SNAPTS_TIME
  else if a = 0x1010 then s.rd CNT_CTL_FREEZE
  else 0

/-- An access to the user counter pages (R487): writes, and reads that are not aligned, are ignored. -/
def userAccess (h : Head) (off : Nat) (wide : Bool) (value : Option Nat) (s : State) : State :=
  match value with
  | some _ => s
  | none =>
    if off % (if wide then 8 else 4) ≠ 0 then s
    else
      let v := s.userSlot h (off / 8 * 8)
      s.emit (.io h (if wide then v else v / 2 ^ (8 * (off % 8)) % 2 ^ 32))

/-- REGISTER_WRITE (R13): an access, in each of its forms. -/
def access (a : Access) (s : State) : State :=
  match a with
  | .reg who off wide value => if s.reaches who then barZero who off wide value s else s
  | .bell h off wide value => if s.routeUp (.head h) then bellAccess h off wide value s else s
  | .user h off wide value => if s.routeUp (.head h) then userAccess h off wide value s else s
  | .fnMask h masked =>
    if s.routeUp (.head h) then
      msixRelease h { s with ports := { s.ports with
        fnMask := if masked then s.ports.fnMask ||| headBit h else s.ports.fnMask &&& ~~~(headBit h) } }
    else s
  | .outside value =>
    if s.reaches .clerk then raise 88 (match value with | none => s.emit (.mgmt 1 [0]) | some _ => s) else s

/-- REGISTER_WRITE (R13). -/
def execRegisterWrite (a : Access) (s : State) : Host.Outcome State Fault Refusal := .next (settle (access a s))

/-- MISALIGNED_ACCESS (R12). -/
def execMisalignedAccess (who : Requester) (read : Bool) (s : State) : Host.Outcome State Fault Refusal :=
  .next (settle (if s.reaches who then misaligned who read s else s))

/-! Protected fields (R396, function 1). -/

/-- Fields that only Factory Test lets change (R271, R278, R279, R340). -/
def testFlds : List Fld := [FLM_TAP_PRE, FLM_TAP_MAIN, FLM_TAP_POST, FLM_PG_EN, FLM_INJ_GO, HPT_PG_EN, HPT_INJ_GO]

/-- Fields that function 1 never writes: rights, which the owning head alone changes (R159). -/
def barredFlds : List Fld := [MIL_KD_COU, MIL_KD_SCRUB, MIL_KD_CLKDBG, MIL_KD_JTAG]

/-- What a mode request through the call interface comes to: 0 accepted, 1 not permitted, 2 no such request, 3 another runs (R374,
R375, R382, R396). -/
def State.askResult (s : State) (who : Asker) (code : Nat) : Nat :=
  if !(s.mayAsk who) then 1
  else if code = 0 ∨ 5 < code then 2
  else if s.rdB MOD_CTL_BUSY then 3
  else if code = 5 then (if s.rdB PWR_STAT_PG && !s.dead then 0 else 1)
  else
    let m := s.modeCode
    let here := !s.mode.halting && (if code = 1 then m == 3 || m == 4 || m == 5 else if code = 2 then m == 3 || m == 4 else m == 5)
    let free := if code = 1 then s.stopAllowed
      else if code = 2 then true
      else if code = 3 then !(s.rdB MED_PLAN_NOGRADE || s.rdB TLR_PLAN_SHORT || s.rdB MOD_STATE_STFAIL)
      else !(s.rdB TLR_STAT_ACTIVE || s.rdB HOM_SLMAP_REBUILD)
    if here && free then 0 else 1

/-- A mode request through the call interface (R375): by the Clerks, or on behalf of a host. -/
def modeRequest (who : Asker) (code : Nat) (e : ColdEnv) (s : State) : Nat × State :=
  let res := s.askResult who code
  if !(s.mayAsk who) then (res, s)
  else (res, match code with
    | 1 => enterStop .clerk s
    | 2 => enterMaintenance .clerk s
    | 3 => leaveMaintenance .clerk s
    | 4 => recover .clerk e.plan s
    | 5 => askRestart .clerk e s
    | _ => s)

/-- Fields whose writes start an action, in the order in which one write starts them. -/
def actionFlds : List Fld := [CNT_CTL_FREEZE, CNT_CTL_SNAP, CNT_CTL_CLR, CNT_SEL_EN, CNT_RING_B_EN, FLM_PG_EN, FLM_INJ_GO, HPT_PG_EN,
  HPT_INJ_GO, MOD_PADREL_MEDIA, MOD_PADREL_SIDE, FLT_U_CORR, FLT_U_CONT, FLT_U_FATAL, MOD_CTL_REQ]

def Fld.among (f : Fld) (l : List Fld) : Bool := l.any (fun g => g.id == f.id)

/-- The budget number of a field (R308). -/
def Fld.budget (f : Fld) : Option Nat := (List.range 6).find? (fun i => (budgetFld i).id == f.id)

/-- The value a write gives a field: the bits of the mask replaced; HOLD and PFD stop at their maximum (R88, R403). -/
def State.newValue (s : State) (f : Fld) (i mask v : Nat) : Nat :=
  let m := f.part mask
  let old := match f.budget with | some b => s.budget b i | none => s.shown f i
  let x := (old &&& (2 ^ f.w - 1 - m)) ||| (f.part v &&& m)
  if f.id = HOM_CFG_HOLD.id then min x 1000 else if f.id = FCA_CFG_PFD.id then min x 4 else x

/-- A tap setting is valid (R270). -/
def tapOk (pre main post : Nat) : Bool :=
  decide (pre + main + post = 63) && decide (pre ≤ 15) && decide (post ≤ 31) && decide (21 + pre + post ≤ main)

/-- A free list of measurements. -/
def freeList : Nat → State → List Nat × State
  | 0, s => ([], s)
  | n + 1, s => ((s.fresh.1 :: (freeList n s.fresh.2).1), (freeList n s.fresh.2).2)

/-- The action of a protected field, with its result. -/
def pstAction (who : Asker) (e : ColdEnv) (f : Fld) (i v : Nat) (s : State) : Nat × State :=
  if f.id = CNT_CTL_FREEZE.id then freezeWrite (v == 1) s
  else if f.id = CNT_CTL_SNAP.id then (0, if v = 1 then takeSnapshot s else s)
  else if f.id = CNT_CTL_CLR.id then (0, if v = 1 then clearCounters s else s)
  else if f.id = CNT_SEL_EN.id then (0, setLive i (v == 1) s)
  else if f.id = CNT_RING_B_EN.id then ringEnable (v == 1) s
  else if f.id = FLM_PG_EN.id then
    (0, if v = 1 then testEnter i (s.rd FLM_PG_DIR i) (s.rd FLM_PG_PAT i) (s.rd FLM_PG_LANES i) s
        else testExit i (freeList 15 s).1 (freeList 15 s).2)
  else if f.id = FLM_INJ_GO.id then
    (0, if v = 1 then errorInject i (s.rd FLM_INJ_LANE i) (s.rd FLM_INJ_MODE i) (s.rd FLM_INJ_BLEN i) s else s)
  else if f.id = HPT_PG_EN.id then
    (0, if v = 1 then hostTestEnter i (s.rd HPT_PG_DIR i) (s.rd HPT_PG_PAT i) (s.rd HPT_PG_LANES i) s
        else hostTestExit i (freeList 12 s).1 (freeList 12 s).2)
  else if f.id = HPT_INJ_GO.id then
    (0, if v = 1 then hostInject i (s.rd HPT_INJ_LANE i) (s.rd HPT_INJ_MODE i) (s.rd HPT_INJ_BLEN i) s else s)
  else if f.id = MOD_PADREL_MEDIA.id then (0, if v = 1 then s.wr MOD_PADREL_MHELD 0 else s)
  else if f.id = MOD_PADREL_SIDE.id then (0, if v = 1 then s.wr MOD_PADREL_SHELD 0 else s)
  else if f.id = FLT_U_CORR.id then (if v = 1 then faultAck i 1 s else (0, s))
  else if f.id = FLT_U_CONT.id then (if v = 1 then faultAck i 2 s else (0, s))
  else if f.id = FLT_U_FATAL.id then (if v = 1 then faultAck i 4 s else (0, s))
  else if f.id = MOD_CTL_REQ.id then modeRequest who v e s
  else (0, s)

/-- A plain protected field takes its value under the rule of its block; a budget waits for its refill (R315), a tap replaces
adaptation (R271). -/
def pstStore (f : Fld) (i v : Nat) (s : State) : State :=
  match f.budget with
  | some b => writeBudget b i v s
  | none =>
    if f.among [FLM_TAP_PRE, FLM_TAP_MAIN, FLM_TAP_POST] then
      let l := s.link (i / 10)
      setLink (i / 10) { l with fixed := if l.fixed.contains (i % 10) then l.fixed else (i % 10) :: l.fixed } (s.wr f v i)
    else s.wr f v i

/-- The checks of function 1 on a register's fields: none, or the result that refuses the call. -/
def State.pstRefusal (s : State) (d : RegDef) (i mask v : Nat) : Option Nat :=
  let hit := d.fields.filter (fun f => f.part mask != 0)
  let plain := hit.filter (fun f => !(f.among actionFlds))
  let val := fun (f : Fld) => s.newValue f i mask v
  let t := plain.foldl (fun t f => t.wr f (val f) i) s
  if !(d.fields.any (fun f => f.acc = .pst)) || hit.any (fun f => f.acc ≠ .pst || f.among barredFlds) then some 1
  else if mask &&& (2 ^ 64 - 1 - fieldMask d.fields) ≠ 0 then some 1
  else if s.modeCode ≠ 0 ∧ hit.any (fun f => f.among testFlds) then some 1
  else if plain.any (fun f => !(f.inRange (val f))) then some 2
  else if hit.any (fun f => f.id == CNT_SEL_EVENT.id) ∧ !(eventDefined (val CNT_SEL_EVENT)) then some 2
  else if d.name = "FLM_TAP" ∧ !(tapOk (t.rd FLM_TAP_PRE i) (t.rd FLM_TAP_MAIN i) (t.rd FLM_TAP_POST i)) then some 2
  else if orderList.any (fun x => x.1.any (fun f => f.among plain) && !(x.2 t)) then some 2
  else if plain.any (fun f => f.budget.isSome) ∧ !(s.admits i ((List.range 6).map (fun b => if (budgetFld b).among plain then val (budgetFld b) else s.budget b i))) then some 2
  else none

/-- Function 1: the bits of a mask of the register at an offset, with the result (R396). `e`: what a Recover or a Cold Restart that
the write starts meets. -/
def pstWrite (who : Asker) (e : ColdEnv) (off mask v : Nat) (s : State) : Nat × State :=
  match regAt off with
  | some (d, i, 0) =>
    if d.banked || s.regAbsent d i then (if sourceReserved i && d.name == "EVT_ROUTE" then (0, s) else (1, s))
    else match s.pstRefusal d i mask v with
      | some r => (r, s)
      | none =>
        let hit := d.fields.filter (fun f => f.part mask != 0)
        let s' := (hit.filter (fun f => !(f.among actionFlds))).foldl (fun t f => pstStore f i (s.newValue f i mask v) t) s
        (actionFlds.filter (fun f => f.among hit)).foldl (fun (x : Nat × State) f =>
          let y := pstAction who e f i (f.part v) x.2
          (max x.1 y.1, y.2)) ((0 : Nat), s')
  | _ => (1, s)

end Sys2Proof.Machine
end

