-- ==== Sys2Proof/Machine/Postmaster.lean ====
section
/-! DEFINITION. The Postmaster and the Clerks (chapter 18): the call interface, Clerk restarts and watchdogs, image transfers, and the
application of images. -/
namespace Sys2Proof.Machine

/-! The call interface (R396). -/

/-- A call of a Clerk core that runs: the Postmaster answers it with its result. -/
def callBy (core : Nat) (f : State → Nat × State) (s : State) : State :=
  if !(s.post.coresUp.contains core) || s.stopped then s
  else (callDone (f s).1 (f s).2).emit (.mgmt 3 [core, (f s).1])

/-- Where a request comes from that the Clerks pass on: their own, or a host's. -/
def asker (req : Option Route) : Asker := match req with | some rt => .box rt | none => .clerk

/-- Function 1 with its check of a host requester (R396, R397). -/
def writeCall (req : Option Route) (e : ColdEnv) (off mask v : Nat) (s : State) : Nat × State :=
  match req with
  | some rt => if s.hostw rt then pstWrite (asker req) e off mask v s else (1, s)
  | none => pstWrite .clerk e off mask v s

/-- CALL_WRITE_FIELD (R396): function 1. -/
def execCallWriteField (core : Nat) (req : Option Route) (off mask v : Nat) (e : ColdEnv) (s : State) : Host.Outcome State Fault Refusal :=
  .next (settle (callBy core (writeCall req e off mask v) s))

/-- CALL_MODE_REQUEST (R396, R375): function 2. -/
def execCallModeRequest (core : Nat) (req : Option Route) (code : Nat) (e : ColdEnv) (s : State) : Host.Outcome State Fault Refusal :=
  .next (settle (callBy core (modeRequest (asker req) code e) s))

/-- WRITE_PROTECTED_FIELD (R397): the vendor command that the Clerks pass as function 1. -/
def execWriteProtectedField (rt : Route) (off mask v : Nat) (e : ColdEnv) (s : State) : Host.Outcome State Fault Refusal :=
  .next (settle (pstCall (some rt) (pstWrite (.box rt) e off mask v) s))

/-- Function 5: an SPDM record for the session with a head or endpoint, which the Postmaster answers with a record of its own
(R396). -/
def securedCall (side : Route) (s : State) : Nat × State :=
  if s.inSession side then (0, s.fresh.2.emit (.mgmt 4 [s.fresh.1])) else (1, s)

/-- CALL_SECURED_MESSAGE (R396). -/
def execCallSecuredMessage (core : Nat) (side : Route) (s : State) : Host.Outcome State Fault Refusal :=
  .next (settle (callBy core (securedCall side) s))

/-! Clerk restarts (R398, R399). -/

/-- Background commands end as aborted; a walk audit and an export, which the Clerks run, end with them. -/
def abortBackground (s : State) : State :=
  let s := if s.cap.auditWalk.isSome then
      { (s.wr CAP_AUD_RESULT 3).wr CAP_AUD_BUSY 0 with cap := { s.cap with auditWalk := none } } else s
  let s := dmaShow (forgetSnoops exportKey { s with mgt := { s.mgt with exporting := none } })
  forAll s.mgt.background (fun x s => bgEnd x.1 x.2 .aborted [] s) s

/-- Steps 1 and 2 of a Clerk restart. -/
def clerkRestart (s : State) : State :=
  let s := raise 85 ({ s with post := { s.post with restarting := true, coresUp := [] } }.bump PST_STAT_RESTARTS 1)
  let s := abortBackground s
  if s.post.transfer.isSome then failTransfer s else s

/-- The Clerks run, and no restart is in progress. -/
def State.clerksUp (s : State) : Bool := !s.post.restarting && !s.post.coresUp.isEmpty && !s.stopped

/-- CALL_CLERK_RESTART (R398): function 6. -/
def execCallClerkRestart (core : Nat) (s : State) : Host.Outcome State Fault Refusal :=
  .next (settle (callBy core (fun s => (0, clerkRestart s)) s))

/-- CLERK_EXCEPTION (R398). -/
def execClerkException (core : Nat) (s : State) : Host.Outcome State Fault Refusal :=
  .next (settle (if s.clerksUp && s.post.coresUp.contains core then clerkRestart s else s))

/-- CLERK_WATCHDOG_REFRESH (R398). -/
def execClerkWatchdogRefresh (core : Nat) (s : State) : Host.Outcome State Fault Refusal :=
  .next (settle (if s.clerksUp && s.post.coresUp.contains core then
    { s with post := { s.post with watchdog := s.post.watchdog.put core s.standbyMs } } else s))

/-- An hour, in ms. -/
def hourMs : Nat := 3600000

/-- A watchdog expires; the second time within an hour its core takes a Fatal fault and is fenced (R399). -/
def watchdogExpiry (core : Nat) (s : State) : State :=
  if !(s.clerksUp && s.post.coresUp.contains core) then s
  else
    let now := s.standbyMs
    let twice := match s.post.lastExpiry.find core with | some t => decide (now < t + hourMs) | none => false
    let s := { s with post := { s.post with lastExpiry := s.post.lastExpiry.put core now } }
    let s := if twice then raiseUnit 86 (8 * 256 + core) (fault 8 core 2 86 0 0 s) else s
    if s.stopped then s else clerkRestart s

/-- CLERK_WATCHDOG_EXPIRY (R398, R399). -/
def execClerkWatchdogExpiry (core : Nat) (s : State) : Host.Outcome State Fault Refusal := .next (settle (watchdogExpiry core s))

/-- Steps 3 and 4: `ok`, the digest of the firmware is the one recorded. The cores that are not fenced start; on a mismatch the Clerks
stay off. -/
def firmwareLoaded (ok : Bool) (s : State) : State :=
  if !s.post.restarting || s.stopped then s
  else if !ok then raise 86 { s with post := { s.post with restarting := false } }
  else
    let cores := (List.range 4).filter (fun c => !(s.post.coreFence.contains c))
    let s := { s with post := { s.post with restarting := false, coresUp := cores, watchdog := cores.map (fun c => (c, s.standbyMs)) } }
    s.wr PST_FW_CLVER (match s.currentSlot with | some n => imgVersion (s.slotImage n) | none => 0)

/-- CLERK_FIRMWARE_LOADED (R398). -/
def execClerkFirmwareLoaded (ok : Bool) (s : State) : Host.Outcome State Fault Refusal := .next (settle (firmwareLoaded ok s))

/-- A lockstep mismatch of the Postmaster in service (R395): the Halt without its step 4, whose record the standby logic holds until
the next Cold Start. -/
def lockstep (s : State) : State :=
  if s.stopped || s.modeCode == 6 || !s.pwr.converters || s.post.heldHalt.isSome then s
  else
    let s := if s.rdB TLR_STAT_ACTIVE then (s.wr TLR_STAT_ACTIVE 0).wr TLR_STAT_STEP 0 else s
    let s := { s with mode := { s.mode with stopStep := 0, starting := false, planWait := none, planEnv := none, coldEnv := none }
                      post := { s.post with applying := none }, flush := { s.flush with restart := false } }
    let s := haltStop (haltRegs .escalation s)
    haltDone { s with post := { s.post with heldHalt := some s.haltRecord } }

/-- LOCKSTEP_MISMATCH (R395). -/
def execLockstepMismatch (s : State) : Host.Outcome State Fault Refusal := .next (settle (lockstep s))

/-! Image transfers (R412, R413). -/

/-- A transfer starts: the record of the slot that is not current is erased. The result of the write, and the state. -/
def transferStart (rt : Option Route) (pldm : Bool) (s : State) : Nat × State :=
  let n := s.otherSlot
  let (res, s) := logWriteNow (1 + n) 0 (slotRecord 0 0 0) s
  if res = 0 then (0, showSlots { s.wr PST_STAT_STAGING 1 with post := { s.post with transfer := some ⟨n, 0, rt, pldm⟩ } })
  else (res, s)

/-- Function 3: up to 4 KiB of the image at a slot byte offset (R396). -/
def stage (off : Nat) (data : List Byte) (s : State) : Nat × State :=
  match s.post.transfer with
  | none => (1, s)
  | some t =>
    if !s.pins.logwpN then (4, s)
    else if 4096 < data.length ∨ 786432 < off + data.length then (2, s)
    else match logWriteNow (1 + t.slot) (256 + off) data s with
      | (0, s) => (0, { s with post := { s.post with transfer := some { t with offset := off + data.length } } })
      | (1, s) => (3, s)
      | (2, s) => (4, s)
      | (_, s) => (1, s)

/-- CALL_STAGE_IMAGE (R396): function 3. -/
def execCallStageImage (core off : Nat) (data : List Byte) (s : State) : Host.Outcome State Fault Refusal :=
  .next (settle (callBy core (stage off data) s))

/-- A transfer ends: checks 1 to 6, and the record of a passing image (R412 steps 3 and 4). A record refused busy leaves the transfer
as it is, to be ended again. -/
def transferEnd (s : State) : Nat × State :=
  match s.post.transfer with
  | none => (1, s)
  | some t =>
    let res := imgCheck6 (s.logRead (1 + t.slot) 256 t.offset) s
    if res ≠ 0 then (2, noteCheck res (failTransfer s))
    else match logWriteNow (1 + t.slot) 0 (slotRecord 0 1 t.offset) s with
      | (0, s) => (0, raise 80 (showSlots (failTransfer (s.wr PST_STAT_RESULT 0))))
      | (1, s) => (3, s)
      | (2, s) => (4, failTransfer s)
      | (_, s) => (1, failTransfer s)

/-- A refusal for write protection (R413). -/
def refuseProtected (rt : Route) (s : State) : State := refuse rt 1 (noteCheck 8 s)

/-- TRANSFER_IMAGE (R412): action 0 starts a transfer, 1 continues it, 2 ends it, 3 abandons it; each but the last with data. -/
def transferImage (rt : Route) (act off : Nat) (data : List Byte) (s : State) : State :=
  mboxHostw rt (fun s =>
    let write := fun (s : State) =>
      match stage off data s with
      | (0, s) =>
        let s := s.bump PST_CALLS_DONE 1
        if act = 2 then callReply rt (transferEnd s).1 (transferEnd s).2 else reply rt .success [] s
      | (r, s) => callReply rt r (s.bump PST_CALLS_REFUSED 1)
    if !s.pins.logwpN then refuseProtected rt s
    else if act = 0 then
      if s.post.transfer.isSome then reply rt .transferInProgress [] s
      else if s.post.applying.isSome then reply rt .busy [] s
      else if off ≠ 0 then reply rt .dataTransferOutOfOrder [] s
      else match transferStart (some rt) false s with
        | (0, s) => write s
        | (1, s) => reply rt .busy [] s
        | (_, s) => reply rt .internal [] s
    else match s.post.transfer with
      | none => reply rt .dataTransferOutOfOrder [] s
      | some t =>
        if t.pldm || t.route ≠ some rt then reply rt .transferInProgress [] s
        else if act = 3 then reply rt .success [] (failTransfer s)
        else if act ≠ 1 ∧ act ≠ 2 then reply rt .invalidInput [] s
        else if off ≠ t.offset then reply rt .dataTransferOutOfOrder [] s
        else write s) s

/-- TRANSFER_IMAGE (R412). -/
def execTransferImage (rt : Route) (act off : Nat) (data : List Byte) (s : State) : Host.Outcome State Fault Refusal :=
  .next (settle (transferImage rt act off data s))

/-! Applying (R407, R409, R410). -/

/-- Two images differ in live sections only (R409). -/
def liveOnly (old new : List Byte) : Bool :=
  sectTypes.all (fun t => liveSects.contains t || sect old t == sect new t)

/-- The budgets of section 0x10 that change wait for their refill (R315). -/
def liveBudgets (b : List Byte) (s : State) : State :=
  let c := loadQos b true s
  forAll (List.range 64) (fun key s => forAll (List.range 6) (fun i s =>
    if s.rd (budgetFld i) key = c.rd (budgetFld i) key then s else writeBudget i key (c.rd (budgetFld i) key) s) s) s

/-- The live sections take effect (R409). -/
def applyLive (n : Nat) (b : List Byte) (s : State) : State :=
  let old := s.post.live
  let s := loadRoutes b (loadTuning b (loadQuotas b (liveBudgets b (loadQos b false s))))
  let s := raise 81 { s with post := { s.post with live := b, image := some n, rollback := false } }
  if sect old 0x20 = sect b 0x20 ∨ s.post.restarting then s else clerkRestart s

/-- Pins whose function an image changes go high-impedance until Configure (R496). -/
def releasePins (b : List Byte) (s : State) : State :=
  { s with pins := { s.pins with sbio := s.pins.sbio.zipIdx.map (fun x => if (imgPins b)[x.2]? = some x.1 then x.1 else 0) } }

/-- An application begins its drain (R410 step 2), or waits for Configure where the device serves no host yet. -/
def applyStart (n : Nat) (rollback drain : Bool) (s : State) : State :=
  let s := { ((s.wr PST_STAT_APPLYING 1).wr MOD_CTL_BUSY 1).wr PST_STAT_RESULT 0 with
    post := { s.post with applying := some n, rollback := rollback } }
  if drain then drainStart 2 (setMode 2 (releasePins (s.slotImage n) s)) else s

/-- Apply Image, or Roll Back Image, of a slot: the result of function 4, and the state. -/
def applySlot (n : Nat) (rollback : Bool) (s : State) : Nat × State :=
  if s.rdB MOD_CTL_BUSY then (3, s.wr MOD_CTL_RESULT 2)
  else if s.stopped then (1, s)
  else if !s.pins.logwpN then (4, noteCheck 8 s)
  else if 1 < n ∨ !(s.slotState n == 3 || (s.slotState n == 1 && !rollback)) then (2, s)
  else
    let b := s.slotImage n
    let res := match imgCheck6 b s with
      | 0 => if compatible b rollback s.liveTable then 0 else 7
      | m => m
    if res ≠ 0 then (2, noteCheck res s)
    else if s.serving && s.mode.stopStep == 0 && s.post.image.isSome && liveOnly s.post.live b then
      match makeCurrent n s with
      | (true, s) =>
        let s := applyLive n b (s.wr PST_STAT_RESULT 0)
        (0, if rollback then raise 84 s else s)
      | (false, s) => (3, s)
    else if s.modeCode = 3 ∨ s.modeCode = 4 ∨ s.modeCode = 5 then
      (if s.stopAllowed && s.mode.stopStep == 0 then (0, applyStart n rollback true s) else (1, s.wr MOD_CTL_RESULT 3))
    else if (s.modeCode = 2 ∧ s.mode.stopStep = 0) ∨ (s.modeCode = 0 ∧ !s.mode.memActive ∧ !s.mode.starting) then
      (0, applyStart n rollback false s)
    else (1, s.wr MOD_CTL_RESULT 1)

/-- The slot that is previous; without one a rollback is refused with RESULT 9 (R407). -/
def rollBack (s : State) : Nat × State :=
  match [0, 1].find? (fun n => s.slotState n == 3) with
  | some n => applySlot n true s
  | none => (2, noteCheck 9 s)

/-- APPLY_IMAGE (R409, R410). -/
def execApplyImage (rt : Route) (slot : Nat) (s : State) : Host.Outcome State Fault Refusal :=
  .next (settle (pstCall (some rt) (applySlot slot false) s))

/-- ROLL_BACK_IMAGE (R407). -/
def execRollBackImage (rt : Route) (s : State) : Host.Outcome State Fault Refusal := .next (settle (pstCall (some rt) rollBack s))

/-- Function 4 with its check of a host requester. -/
def applyCall (req : Option Route) (slot : Option Nat) (s : State) : Nat × State :=
  if (match req with | some rt => s.hostw rt | none => true) then
    (match slot with | some n => applySlot n false s | none => rollBack s)
  else (1, s)

/-- CALL_APPLY_IMAGE (R396): function 4; no slot asks for a rollback. -/
def execCallApplyImage (core : Nat) (req : Option Route) (slot : Option Nat) (s : State) : Host.Outcome State Fault Refusal :=
  .next (settle (callBy core (applyCall req slot) s))

/-! PLDM for Firmware Update (R412, R479). -/

/-- The answer to a PLDM firmware message: 0 success, 1 RETRY_REQUEST_UPDATE, 2 refused, 3 the image stays staged until Apply Image. -/
def pldmReply (code : Nat) (s : State) : State := s.emit (.mgmt 2 [code])

/-- PLDM_REQUEST_UPDATE (R479): for the component 0x0001. -/
def requestUpdate (comp : Nat) (s : State) : State :=
  mailbox .mgmt (fun s =>
    if comp ≠ 1 then pldmReply 2 s
    else if s.post.transfer.isSome || s.post.applying.isSome then pldmReply 1 s
    else if !s.pins.logwpN then pldmReply 2 (noteCheck 8 s)
    else match transferStart none true s with
      | (0, s) => pldmReply 0 s
      | (1, s) => pldmReply 1 s
      | (_, s) => pldmReply 2 s) s

/-- PLDM_REQUEST_UPDATE (R479). -/
def execPldmRequestUpdate (comp : Nat) (s : State) : Host.Outcome State Fault Refusal := .next (settle (requestUpdate comp s))

/-- PLDM_FW_DATA (R412): the next data; the last data ends the transfer with its verification. -/
def fwData (data : List Byte) (last : Bool) (s : State) : State :=
  mailbox .mgmt (fun s =>
    match s.post.transfer with
    | none => pldmReply 2 s
    | some t =>
      if !t.pldm then pldmReply 1 s
      else match stage t.offset data s with
        | (0, s) =>
          let s := s.bump PST_CALLS_DONE 1
          let s := if t.offset = 0 then raise 994 s else s
          if last then pldmReply (match (transferEnd s).1 with | 0 => 0 | 3 => 1 | _ => 2) (transferEnd s).2 else pldmReply 0 s
        | (3, s) => pldmReply 1 (s.bump PST_CALLS_REFUSED 1)
        | (_, s) => pldmReply 2 (s.bump PST_CALLS_REFUSED 1)) s

/-- PLDM_FW_DATA (R412). -/
def execPldmFwData (data : List Byte) (last : Bool) (s : State) : Host.Outcome State Fault Refusal := .next (settle (fwData data last s))

/-- PLDM_ACTIVATE_FIRMWARE (R412): a staged image that qualifies is applied live; another stays staged. Self-contained activation is not
supported. -/
def activateFirmware (selfContained : Bool) (s : State) : State :=
  mailbox .mgmt (fun s =>
    let n := s.otherSlot
    if selfContained || s.slotState n ≠ 1 then pldmReply 2 s
    else if s.serving && s.mode.stopStep == 0 && s.post.image.isSome && liveOnly s.post.live (s.slotImage n) then
      match applySlot n false s with
      | (0, s) => pldmReply 0 (s.bump PST_CALLS_DONE 1)
      | (3, s) => pldmReply 1 (s.bump PST_CALLS_REFUSED 1)
      | (_, s) => pldmReply 2 (s.bump PST_CALLS_REFUSED 1)
    else pldmReply 3 s) s

/-- PLDM_ACTIVATE_FIRMWARE (R412). -/
def execPldmActivateFirmware (selfContained : Bool) (s : State) : Host.Outcome State Fault Refusal :=
  .next (settle (activateFirmware selfContained s))

end Sys2Proof.Machine
end

