-- ==== Sys2Proof/Machine/Mgmt.lean ====
section
/-! DEFINITION. The management plane (chapter 22): SMBus register reads, the endpoint, SPDM, PLDM sensors, the standard CXL commands,
the indicator pins and the JTAG port. -/
namespace Sys2Proof.Machine

/-! SMBus (R469, R470). -/

/-- An SMBus transaction, with the clock code it ran at: served on standby power; one without a correct PEC is refused, a management
fault (R423). -/
def smbus (pec : Bool) (speed : Nat) (f : State → State) (s : State) : State :=
  if s.pwr.phase = .off then s
  else
    let s := s.wr MGT_SMB_SPEED (max (s.rd MGT_SMB_SPEED) (min speed 2))
    if pec then f s else mgmtFault 0 995 (raise 995 (s.bump MGT_ERR_SMBERR 1))

/-- SMBUS_SET_ADDRESS (R470): command 0x01. -/
def execSmbusSetAddress (off : Nat) (pec : Bool) (speed : Nat) (s : State) : Host.Outcome State Fault Refusal :=
  .next (settle (smbus pec speed (fun s => { s with mgt := { s.mgt with smbAddr := off % 2 ^ 32 } }) s))

/-- The registers that keep their values while the controller rails are off: PWR, TLR, MOD and MGT. -/
def standbyBlock (off : Nat) : Bool := [0x8B, 0x8C, 0x8D, 0x92].contains (off / 0x10000)

/-- The register at a BAR0 offset as SMBus shows it; a read clears nothing. -/
def State.smbWord (s : State) (off : Nat) : Nat :=
  if !s.railsOn && !standbyBlock off then 0
  else match regAt off with
    | some (d, i, r) => if d.banked then 0 else s.regWord d i / 2 ^ (8 * r)
    | none => 0

/-- SMBUS_BLOCK_READ (R470): command 0x02. -/
def execSmbusBlockRead (pec : Bool) (speed : Nat) (s : State) : Host.Outcome State Fault Refusal :=
  .next (settle (smbus pec speed (fun s =>
    ({ s with mgt := { s.mgt with smbAddr := (s.mgt.smbAddr + 8) % 2 ^ 32 } }).emit (.mgmt 0 [s.smbWord s.mgt.smbAddr])) s))

/-- SET_ENDPOINT_ID (R469): MCTP control, which the standby logic serves too. 0 and 0xFF are no endpoint. -/
def execSetEndpointId (eid : Nat) (s : State) : Host.Outcome State Fault Refusal :=
  .next (settle (if s.pwr.phase = .off ∨ eid = 0 ∨ 255 ≤ eid then s else (s.wr MGT_MCTP_AEID eid).emit (.mgmt 5 [eid])))

/-! SPDM (R476, R477). -/

/-- A side as outputs number it: a head, or 16 for MCTP. -/
def Route.code : Route → Nat
  | .head h => h.val
  | .mgmt => 16

/-- An SPDM answer: its side, 0 or an ERROR code of the model's own (1 Busy, 2 others), and a payload. -/
def spdmReply (side : Route) (code : Nat) (payload : List Nat) (s : State) : State :=
  let s := if code = 0 then s else s.bump MGT_ERR_SPDMERR 1
  s.emit (.mgmt 6 ([Route.code side, code] ++ payload))

/-- An SPDM message reaches the Postmaster: over a link that is up or over MCTP, by the Clerks. -/
def spdm (side : Route) (f : State → State) (s : State) : State := if s.routeUp side && s.clerksUp then f s else s

/-- Sessions that a side may hold at once: one on a head's DOE mailbox, four over MCTP. -/
def sessionRoom : Route → Nat
  | .head _ => 1
  | .mgmt => 4

/-- KEY_EXCHANGE under a version, 0x12 or 0x13. -/
def keyExchange (side : Route) (version : Nat) (s : State) : State :=
  spdm side (fun s =>
    if version ≠ 0x12 ∧ version ≠ 0x13 then spdmReply side 2 [] s
    else if sessionRoom side ≤ (s.mgt.sessions.filter (fun x => x.side == side)).length then spdmReply side 1 [] s
    else
      let id := s.mgt.nextSession
      let s := { s with mgt := { s.mgt with sessions := s.mgt.sessions ++ [⟨id, side⟩], nextSession := id + 1 } }
      raise 992 (spdmReply side 0 [id] s)) s

/-- SPDM_KEY_EXCHANGE (R476). -/
def execSpdmKeyExchange (side : Route) (version : Nat) (s : State) : Host.Outcome State Fault Refusal :=
  .next (settle (keyExchange side version s))

/-- The current image, whole. -/
def State.currentImage (s : State) : List Byte := match s.currentSlot with | some n => s.slotImage n | none => []

/-- A measurement (R477). -/
def State.measurement (s : State) (i : Nat) : Nat :=
  (match i with
   | 2 => Config.sha384 (sect s.post.live 0x21)
   | 3 => Config.sha384 (sect s.post.live 0x20)
   | 4 => Config.sha384 s.currentImage
   | 5 => Config.measured 5 [s.part.code]
   | 6 => Config.measured 6 [s.modeCode, s.rd PST_STAT_FLOOR, s.factoryFlag.toNat]
   | i => Config.measured i []).toNat

/-- SPDM_GET_MEASUREMENTS (R477): one index, 0 for their number, 0xFF for all. -/
def execSpdmGetMeasurements (side : Route) (i : Nat) (s : State) : Host.Outcome State Fault Refusal :=
  .next (settle (spdm side (fun s =>
    if i = 0 then spdmReply side 0 [6] s
    else if i = 255 then spdmReply side 0 ((List.range 6).map (fun j => s.measurement (j + 1))) s
    else if i ≤ 6 then spdmReply side 0 [s.measurement i] s
    else spdmReply side 2 [] s) s))

/-- SPDM_END_SESSION (R475, R438): a session of the side, by its number. -/
def execSpdmEndSession (side : Route) (id : Nat) (s : State) : Host.Outcome State Fault Refusal :=
  .next (settle (spdm side (fun s =>
    if s.mgt.sessions.contains ⟨id, side⟩ then
      raise 993 (spdmReply side 0 [] { s with mgt := { s.mgt with sessions := s.mgt.sessions.filter (· ≠ ⟨id, side⟩) } })
    else spdmReply side 2 [] s) s))

/-! PLDM sensors (R478). -/

/-- The sensors that the standby logic serves. -/
def standbySensor (id : Nat) : Bool := [1, 2, 20, 21, 22, 23, 24, 100].contains id

/-- A sensor of the table, of a stack that the part has. -/
def State.hasSensor (s : State) (id : Nat) : Bool :=
  if 3 ≤ id ∧ id ≤ 18 then decide (id - 3 < s.part.stacks) else (1 ≤ id && id ≤ 24) || id == 100

/-- A sensor can be read: its own logic runs (R478, R399). -/
def State.sensorServed (s : State) (id : Nat) : Bool :=
  s.hasSensor id && s.pwr.phase != .off && (standbySensor id || (s.modeCode != 6 && s.clerksUp))

/-- The reading of a sensor; a temperature or power that nothing has set is free. -/
def sensorValue (id : Nat) (s : State) : Nat × State :=
  if id = 20 then (s.rd PWR_MON_VA, s)
  else if id = 21 then (s.rd PWR_MON_VB, s)
  else if id = 22 then (s.rd PWR_MON_IIN, s)
  else if id = 24 then (s.rd TLR_STAT_BANKV, s)
  else if id = 100 then (s.modeCode, s)
  else match s.mgt.sensors.find id with
    | some v => (v, s)
    | none => s.fresh

/-- The answer to a sensor reading: the sensor, 1 with a value, or 0 where it is unavailable, 2 where there is no such sensor. -/
def readSensor (id : Nat) (s : State) : State :=
  if s.pwr.phase = .off then s
  else if !(s.hasSensor id) then s.emit (.mgmt 7 [id, 2])
  else if !(s.sensorServed id) then s.emit (.mgmt 7 [id, 0])
  else (sensorValue id s).2.emit (.mgmt 7 [id, 1, (sensorValue id s).1])

/-- PLDM_GET_SENSOR_READING (R478). -/
def execPldmGetSensorReading (id : Nat) (s : State) : Host.Outcome State Fault Refusal := .next (settle (readSensor id s))

/-- PLDM_SET_EVENT_RECEIVER (R478): endpoint 0 stops the messages. -/
def execPldmSetEventReceiver (eid : Nat) (s : State) : Host.Outcome State Fault Refusal :=
  .next (settle (mailbox .mgmt (fun s =>
    ({ s with mgt := { s.mgt with receiver := if eid = 0 then none else some eid } }).emit (.mgmt 8 [eid])) s))

/-- A threshold of a sensor, level 1 warning or 2 critical: crossed upwards it raises its event and sends a PlatformEventMessage to
the receiver; it is armed again 2 °C below. -/
def threshold (id lvl : Nat) (lim : Nat × Option Nat) (v : Nat) (s : State) : State :=
  let key := 2 * id + lvl
  if s.mgt.alarmed.contains key then
    if v + 2 ≤ lim.1 then { s with mgt := { s.mgt with alarmed := s.mgt.alarmed.filter (· ≠ key) } } else s
  else if lim.1 < v then
    let s := { s with mgt := { s.mgt with alarmed := s.mgt.alarmed ++ [key] } }
    let s := match lim.2 with | some e => pwrEvent e s | none => s
    match s.mgt.receiver with
    | some eid => if s.clerksUp && s.modeCode != 6 then s.emit (.mgmt 9 [eid, id, lvl, v]) else s
    | none => s
  else s

/-- A sensor's reading changes. -/
def sensorSet (id v : Nat) (s : State) : State :=
  match sensorLimits id with
  | none => s
  | some (warn, crit) =>
    if s.hasSensor id && s.pwr.phase != .off && (standbySensor id || s.railsOn) then
      threshold id 2 crit v (threshold id 1 warn v { s with mgt := { s.mgt with sensors := s.mgt.sensors.put id v } })
    else s

/-- SENSOR_THRESHOLD_CROSSING (R478). -/
def execSensorThresholdCrossing (id v : Nat) (s : State) : Host.Outcome State Fault Refusal := .next (settle (sensorSet id v s))

/-! Standard CXL commands (R472). -/

/-- Extents in all of some regions. -/
def extentsOf (l : List Region) : Nat := l.foldl (fun n r => n + r.size) 0

/-- IDENTIFY_MEMORY_DEVICE (R472): the capacities of a head's regions, or of all on the management CCI, in multiples of 256 MiB: total,
volatile, persistent. -/
def execIdentifyMemoryDevice (rt : Route) (s : State) : Host.Outcome State Fault Refusal :=
  .next (settle (mailbox rt (fun s =>
    let l := match rt with | .head h => s.headRegions h | .mgmt => s.regions
    reply rt .success [extentsOf l, extentsOf (l.filter (fun r => r.typ != 1)), extentsOf (l.filter (fun r => r.typ == 1))] s) s))

/-- GET_HEALTH_INFO (R472): the Dirty Shutdown Count; the rest of the standard payload is a free value. -/
def execGetHealthInfo (rt : Route) (s : State) : Host.Outcome State Fault Refusal :=
  .next (settle (mailbox rt (fun s => reply rt .success [s.rd TLR_CNT_DSC, s.fresh.1] s.fresh.2) s))

/-- The standard commands, by their opcodes in the CXL specification, that a route is offered (R472, R433). -/
def State.standardOps (s : State) (rt : Route) : List Nat :=
  [0x0200, 0x0300, 0x0301, 0x0400, 0x0401, 0x4000, 0x4200, 0x4201, 0x4202] ++
  (match rt with
   | .head _ => [0x0100, 0x0101, 0x0102, 0x0103, 0x4300, 0x4800, 0x4801, 0x4802, 0x4803] ++ (if s.modeCode = 0 then [0x4301, 0x4302] else [])
   | .mgmt => [0x5600, 0x5601, 0x5604, 0x5605])

/-- The vendor commands that a route is offered (R473). -/
def State.vendorOps (s : State) (rt : Route) : List Nat :=
  let host := [0xC005, 0xC006, 0xC010, 0xC011, 0xC012, 0xC020, 0xC021, 0xC023]
  match rt with
  | .head h => [0xC000, 0xC001, 0xC002, 0xC003, 0xC022] ++ (if s.rdBit PST_CTL_HOSTW h then host else [])
  | .mgmt => [0xC000, 0xC004, 0xC007, 0xC013, 0xC014, 0xC022] ++ (if s.modeCode = 0 then [0xC015] else []) ++ host

/-- The Command Effects Log of a route: its opcodes. -/
def State.cel (s : State) (rt : Route) : List Nat := s.standardOps rt ++ s.vendorOps rt

/-- GET_SUPPORTED_LOGS (R472): log 0, the CEL, with its size in bytes. -/
def execGetSupportedLogs (rt : Route) (s : State) : Host.Outcome State Fault Refusal :=
  .next (settle (mailbox rt (fun s => reply rt .success [0, 4 * (s.cel rt).length] s) s))

/-- GET_LOG (R472): bytes of the CEL, whose entries are an opcode and the effects of the command. -/
def getLog (rt : Route) (log off n : Nat) (s : State) : State :=
  mailbox rt (fun s =>
    if log ≠ 0 then reply rt .invalidLog [] s
    else
      let l := s.cel rt
      if 4 * l.length < off + n ∨ off % 4 ≠ 0 ∨ n % 4 ≠ 0 then reply rt .invalidInput [] s
      else reply rt .success (((l.drop (off / 4)).take (n / 4)).map (fun o => o + 65536 * (Config.commandEffects o % 65536))) s) s

/-- GET_LOG (R472). -/
def execGetLog (rt : Route) (log off n : Nat) (s : State) : Host.Outcome State Fault Refusal := .next (settle (getLog rt log off n s))

/-- GET_TIMESTAMP (R472, R420). -/
def execGetTimestamp (rt : Route) (s : State) : Host.Outcome State Fault Refusal :=
  .next (settle (mailbox rt (fun s => reply rt .success [s.stamp] s) s))

/-- SET_TIMESTAMP (R420): in ns. -/
def execSetTimestamp (rt : Route) (ns : Nat) (s : State) : Host.Outcome State Fault Refusal :=
  .next (settle (mailbox rt (fun s =>
    reply rt .success [] { s with time := { s.time with base := ns % 2 ^ 64, units := 0 } }) s))

/-- GET_FW_INFO (R472, R400): two slots; the one in use and the one staged, each counted from 1 and 0 for none; their versions. -/
def execGetFwInfo (rt : Route) (s : State) : Host.Outcome State Fault Refusal :=
  .next (settle (mailbox rt (fun s =>
    let cur := match s.currentSlot with | some n => n + 1 | none => 0
    let staged := match [0, 1].find? (fun n => s.slotState n == 1) with | some n => n + 1 | none => 0
    reply rt .success [2, cur, staged, s.rd PST_SLOT_A_VERSION 0, s.rd PST_SLOT_A_VERSION 1] s) s))

/-- The alert settings of a route: valid alerts that are enabled, then the warning thresholds of life used, over-temperature,
under-temperature, and corrected errors of volatile and of persistent memory. -/
def alertCount : Nat := 5

/-- GET_ALERT_CONFIGURATION (R472). -/
def execGetAlertConfiguration (rt : Route) (s : State) : Host.Outcome State Fault Refusal :=
  .next (settle (mailbox rt (fun s =>
    reply rt .success ((List.range alertCount).map (fun i => s.mgt.alerts.get (8 * Route.code rt + i) 0)) s) s))

/-- SET_ALERT_CONFIGURATION (R472): settings by number. -/
def setAlerts (rt : Route) (vals : List (Nat × Nat)) (s : State) : State :=
  mailbox rt (fun s =>
    if vals.any (fun x => decide (alertCount ≤ x.1 ∨ 65536 ≤ x.2)) then reply rt .invalidInput [] s
    else reply rt .success [] (forAll vals (fun x s =>
      { s with mgt := { s.mgt with alerts := s.mgt.alerts.put (8 * Route.code rt + x.1) x.2 } }) s)) s

/-- SET_ALERT_CONFIGURATION (R472). -/
def execSetAlertConfiguration (rt : Route) (vals : List (Nat × Nat)) (s : State) : Host.Outcome State Fault Refusal :=
  .next (settle (setAlerts rt vals s))

/-- UNSUPPORTED_COMMAND (R472, R473). -/
def execUnsupportedCommand (rt : Route) (s : State) : Host.Outcome State Fault Refusal :=
  .next (settle (mailbox rt (reply rt .unsupported []) s))

/-! Indicator pins (R495). -/

/-- ACTIVITY_TIMER (R495). -/
def execActivityTimer (s : State) : Host.Outcome State Fault Refusal :=
  .next (settle { s with pins := { s.pins with activity := true } })

/-- LOCATE_TOGGLE (R495). -/
def execLocateToggle (s : State) : Host.Outcome State Fault Refusal :=
  .next (settle (if s.mgt.locate && s.railsOn then { s with pins := { s.pins with locate := !s.pins.locate } } else s))

/-- PLDM_LOCATE_REQUEST (R495): without a request the pin is high. -/
def execPldmLocateRequest (on : Bool) (s : State) : Host.Outcome State Fault Refusal :=
  .next (settle (mailbox .mgmt (fun s =>
    ({ s with mgt := { s.mgt with locate := on }, pins := { s.pins with locate := if on then s.pins.locate else true } }).emit (.mgmt 10 [on.toNat])) s))

/-! JTAG (R482, R158). -/

/-- The part number of the IDCODE. -/
def Part.idPart : Part → Nat
  | .c960f => 0xC960
  | .c960d => 0xC961
  | .c480f => 0xC480

/-- The IDCODE: stepping B, the part, the Isafovia code, a one. -/
def State.idcode (s : State) : Nat := 2 * 2 ^ 28 + s.part.idPart * 2 ^ 12 + 0x2B7 * 2 + 1

/-- EXTEST, CLAMP and HIGHZ disturb the host links: each that is up may drop. -/
def disturb (s : State) : State :=
  forAll ((List.range 16).filter s.linkUp) (fun h s => if s.fresh.1 % 2 = 1 then dlLost h s.fresh.2 else s.fresh.2) s

/-- A debug instruction reads a sheet under the rights of master 0x31 (R157, R158, R160): nothing, the stored bytes, or the plaintext, a poisoned line as 2^512. -/
def jtagDebug (page n : Nat) (v : EngEnv) (s : State) : State :=
  match s.pageRegion page with
  | none => s
  | some r =>
    let right := s.rd MIL_KD_JTAG r.keydom
    if right = 0 || !(s.keyed r.keydom) then raise 394 s
    else
      let e := s.entry page
      if right = 1 then s.emit (.mgmt 12 ((s.sheetBytes r.opq e n).map (·.toNat)))
      else match openSheet page n e v 0x31 0 false s with
        | (.sheet sh, s) => s.emit (.mgmt 12 (sh.map (fun o => match o with | some l => l.toNat | none => 2 ^ 512)))
        | (_, s) => s.emit (.mgmt 12 [])

/-- A JTAG instruction while the controller is powered (R494). -/
def jtag (i : Jtag) (s : State) : State :=
  if !s.railsOn then s
  else
    let ir := fun (n : Nat) (s : State) => { s with pins := { s.pins with jtag := n } }
    match i with
    | .bypass => ir 0 s
    | .idcode => (ir 1 s).emit (.mgmt 11 [s.idcode])
    | .sample => (ir 2 s).emit (.mgmt 11 (s.pinLevels.map (fun x => match x with | some b => b.toNat | none => 2)))
    | .preload cells => ir 3 { s with pins := { s.pins with cells := cells } }
    | .extest => disturb (ir jtagExtest s)
    | .clamp => disturb (ir jtagClamp s)
    | .highz => disturb (ir jtagHighz s)
    | .debug page n v => jtagDebug page n v (ir 7 s)

/-- JTAG_INSTRUCTION (R482). -/
def execJtagInstruction (i : Jtag) (s : State) : Host.Outcome State Fault Refusal := .next (settle (jtag i s))

end Sys2Proof.Machine
end

