-- ==== Sys2Proof/Machine/Dispatch.lean ====
section
/-! DEFINITION. One arm for each command: its meaning, which is its effect on everything but the queue. -/
namespace Sys2Proof.Machine

/-- The effect of a command. -/
def exec (i : Instr) (s : State) : Host.Outcome State Fault Refusal :=
  match i with
  | .registerWrite a => Sys2Proof.Machine.execRegisterWrite a s
  | .misalignedAccess who read => Sys2Proof.Machine.execMisalignedAccess who read s
  | .memRd h haddr mv ups => Sys2Proof.Machine.execMemRd h haddr mv ups s
  | .memRdData h haddr ups => Sys2Proof.Machine.execMemRdData h haddr ups s
  | .memInv h haddr mv ups => Sys2Proof.Machine.execMemInv h haddr mv ups s
  | .memInvNt h haddr mv ups => Sys2Proof.Machine.execMemInvNt h haddr mv ups s
  | .memClnEvct h haddr ups => Sys2Proof.Machine.execMemClnEvct h haddr ups s
  | .memWr h haddr mv data poison ups => Sys2Proof.Machine.execMemWr h haddr mv data poison ups s
  | .memWrPtl h haddr mv data mask poison ups => Sys2Proof.Machine.execMemWrPtl h haddr mv data mask poison ups s
  | .memSpecRd h haddr => Sys2Proof.Machine.execMemSpecRd h haddr s
  | .biconflict h haddr => Sys2Proof.Machine.execBiconflict h haddr s
  | .birspI h haddr blk => Sys2Proof.Machine.execBirspI h haddr blk s
  | .birspS h haddr blk => Sys2Proof.Machine.execBirspS h haddr blk s
  | .birspE h haddr blk => Sys2Proof.Machine.execBirspE h haddr blk s
  | .unsupportedM2sMessage h haddr read => Sys2Proof.Machine.execUnsupportedM2sMessage h haddr read s
  | .queuedRequestResume line => Sys2Proof.Machine.execQueuedRequestResume line s
  | .filterAllocRetry line => Sys2Proof.Machine.execFilterAllocRetry line s
  | .holdTimeEnd line => Sys2Proof.Machine.execHoldTimeEnd line s
  | .bisnpTimeout h line => Sys2Proof.Machine.execBisnpTimeout h line s
  | .sliceRebuildDone => Sys2Proof.Machine.execSliceRebuildDone s
  | .fcAllocWaitEnd line => Sys2Proof.Machine.execFcAllocWaitEnd line s
  | .persistDirtyWaitEnd line => Sys2Proof.Machine.execPersistDirtyWaitEnd line s
  | .fcaFlush h lines ups => Sys2Proof.Machine.execFcaFlush h lines ups s
  | .fcaInvalidate h lines ups => Sys2Proof.Machine.execFcaInvalidate h lines ups s
  | .fcaLockPreload h lines ups => Sys2Proof.Machine.execFcaLockPreload h lines ups s
  | .fcaPin h lines ups => Sys2Proof.Machine.execFcaPin h lines ups s
  | .fcaUnlock h lines ups => Sys2Proof.Machine.execFcaUnlock h lines ups s
  | .fcaMopEnd h => Sys2Proof.Machine.execFcaMopEnd h s
  | .frontCacheOperation rt h op haddr lines => Sys2Proof.Machine.execFrontCacheOperation rt h op haddr lines s
  | .sheetFillComplete sheet v => Sys2Proof.Machine.execSheetFillComplete sheet v s
  | .entryLineFetchComplete line res => Sys2Proof.Machine.execEntryLineFetchComplete line res s
  | .haltRecordRetry => Sys2Proof.Machine.execHaltRecordRetry s
  | .pageLockGrant page chk opn store => Sys2Proof.Machine.execPageLockGrant page chk opn store s
  | .writeBackCommit page => Sys2Proof.Machine.execWriteBackCommit page s
  | .provisionKeyDomain rt dom secret => Sys2Proof.Machine.execProvisionKeyDomain rt dom secret s
  | .eraseKeyDomain rt dom => Sys2Proof.Machine.execEraseKeyDomain rt dom s
  | .eraseDomainDrained dom => Sys2Proof.Machine.execEraseDomainDrained dom s
  | .setMasterRights rt dom master value => Sys2Proof.Machine.execSetMasterRights rt dom master value s
  | .auditSnapshot rt => Sys2Proof.Machine.execAuditSnapshot rt s
  | .auditWalk rt => Sys2Proof.Machine.execAuditWalk rt s
  | .auditWalkComplete => Sys2Proof.Machine.execAuditWalkComplete s
  | .releaseRequestPeriod => Sys2Proof.Machine.execReleaseRequestPeriod s
  | .heatEpoch => Sys2Proof.Machine.execHeatEpoch s
  | .demotionSweep => Sys2Proof.Machine.execDemotionSweep s
  | .migrationStart page chk v => Sys2Proof.Machine.execMigrationStart page chk v s
  | .migrationCommit page => Sys2Proof.Machine.execMigrationCommit page s
  | .initiateDcAdd rt heads tag exts => Sys2Proof.Machine.execInitiateDcAdd rt heads tag exts s
  | .addDcResponse rt exts => Sys2Proof.Machine.execAddDcResponse rt exts s
  | .releaseDcResponse rt exts => Sys2Proof.Machine.execReleaseDcResponse rt exts s
  | .extentReleaseSnooped h ext => Sys2Proof.Machine.execExtentReleaseSnooped h ext s
  | .extentReleaseCleared ext => Sys2Proof.Machine.execExtentReleaseCleared ext s
  | .initiateDcRelease rt heads exts => Sys2Proof.Machine.execInitiateDcRelease rt heads exts s
  | .getDcRegionConfig rt h => Sys2Proof.Machine.execGetDcRegionConfig rt h s
  | .getDcRegionExtentLists rt h => Sys2Proof.Machine.execGetDcRegionExtentLists rt h s
  | .journalCheckpoint => Sys2Proof.Machine.execJournalCheckpoint s
  | .dramRead src addr h code => Sys2Proof.Machine.execDramRead src addr h code s
  | .dramWrite src addr h code data => Sys2Proof.Machine.execDramWrite src addr h code data s
  | .dramAccessIssue unit parity => Sys2Proof.Machine.execDramAccessIssue unit parity s
  | .dramAccessComplete id res => Sys2Proof.Machine.execDramAccessComplete id res s
  | .dramRefreshDue bank => Sys2Proof.Machine.execDramRefreshDue bank s
  | .tallyWindowClear rank => Sys2Proof.Machine.execTallyWindowClear rank s
  | .retrainingPauseStart unit => Sys2Proof.Machine.execRetrainingPauseStart unit s
  | .retrainingPauseEnd unit margin => Sys2Proof.Machine.execRetrainingPauseEnd unit margin s
  | .dramPhyLockLoss c => Sys2Proof.Machine.execDramPhyLockLoss c s
  | .stripePadTimeout k stream => Sys2Proof.Machine.execStripePadTimeout k stream s
  | .segmentAgeClose k stream => Sys2Proof.Machine.execSegmentAgeClose k stream s
  | .stagingWaitEnd page => Sys2Proof.Machine.execStagingWaitEnd page s
  | .stripeProgrammeComplete k g stripe bad => Sys2Proof.Machine.execStripeProgrammeComplete k g stripe bad s
  | .reclaimVictimChoice k => Sys2Proof.Machine.execReclaimVictimChoice k s
  | .reclaimScanDone k g => Sys2Proof.Machine.execReclaimScanDone k g s
  | .reclaimSegmentRelease k g => Sys2Proof.Machine.execReclaimSegmentRelease k g s
  | .mediaClockHour => Sys2Proof.Machine.execMediaClockHour s
  | .mediaSectorRead parcel => Sys2Proof.Machine.execMediaSectorRead parcel s
  | .sectorDataArrival parcel nb => Sys2Proof.Machine.execSectorDataArrival parcel nb s
  | .hubReadTimeout parcel => Sys2Proof.Machine.execHubReadTimeout parcel s
  | .hubDieFaultReport k d => Sys2Proof.Machine.execHubDieFaultReport k d s
  | .flumeBringupStepDone k absent eyes taps => Sys2Proof.Machine.execFlumeBringupStepDone k absent eyes taps s
  | .flumeBringupTimeout k => Sys2Proof.Machine.execFlumeBringupTimeout k s
  | .flumeDetectRetry k => Sys2Proof.Machine.execFlumeDetectRetry k s
  | .flumeFrameReceived k d typ lane seq ack nak ccls ccnt cmds dats good => Sys2Proof.Machine.execFlumeFrameReceived k d typ lane seq ack nak ccls ccnt cmds dats good s
  | .flumeReplayTimeout k d => Sys2Proof.Machine.execFlumeReplayTimeout k d s
  | .alignmentMarker k d errs => Sys2Proof.Machine.execAlignmentMarker k d errs s
  | .laneLockLoss k d lanes => Sys2Proof.Machine.execLaneLockLoss k d lanes s
  | .flumeRetrainTimeout k => Sys2Proof.Machine.execFlumeRetrainTimeout k s
  | .flumeTestEnter k dir pat lanes => Sys2Proof.Machine.execFlumeTestEnter k dir pat lanes s
  | .flumeTestExit k res => Sys2Proof.Machine.execFlumeTestExit k res s
  | .flumeCounterClear k => Sys2Proof.Machine.execFlumeCounterClear k s
  | .flumeErrorInject k lane mode blen => Sys2Proof.Machine.execFlumeErrorInject k lane mode blen s
  | .ringOpen h ctx => Sys2Proof.Machine.execRingOpen h ctx s
  | .ringClose h => Sys2Proof.Machine.execRingClose h s
  | .doorbellTailWrite h ring value => Sys2Proof.Machine.execDoorbellTailWrite h ring value s
  | .descriptorFetch ring => Sys2Proof.Machine.execDescriptorFetch ring s
  | .nop ring => Sys2Proof.Machine.execNop ring s
  | .copy ring => Sys2Proof.Machine.execCopy ring s
  | .fill ring => Sys2Proof.Machine.execFill ring s
  | .zero ring => Sys2Proof.Machine.execZero ring s
  | .compare ring => Sys2Proof.Machine.execCompare ring s
  | .crc32c ring => Sys2Proof.Machine.execCrc32c ring s
  | .xcopy ring => Sys2Proof.Machine.execXcopy ring s
  | .hintPin ring => Sys2Proof.Machine.execHintPin ring s
  | .hintUnpin ring => Sys2Proof.Machine.execHintUnpin ring s
  | .hintPromote ring => Sys2Proof.Machine.execHintPromote ring s
  | .hintDemote ring => Sys2Proof.Machine.execHintDemote ring s
  | .release ring => Sys2Proof.Machine.execRelease ring s
  | .scrub ring chk v corrected lost late => Sys2Proof.Machine.execScrub ring chk v corrected lost late s
  | .descriptorComplete ring => Sys2Proof.Machine.execDescriptorComplete ring s
  | .descriptorTimeout ring => Sys2Proof.Machine.execDescriptorTimeout ring s
  | .courierStateError e => Sys2Proof.Machine.execCourierStateError e s
  | .tokenRefill => Sys2Proof.Machine.execTokenRefill s
  | .overdraftAge resource id => Sys2Proof.Machine.execOverdraftAge resource id s
  | .setClassBudget rt h cls budgets => Sys2Proof.Machine.execSetClassBudget rt h cls budgets s
  | .linkUp h cxl rate width loflit => Sys2Proof.Machine.execLinkUp h cxl rate width loflit s
  | .perstAssert q => Sys2Proof.Machine.execPerstAssert q s
  | .perstDeassert q => Sys2Proof.Machine.execPerstDeassert q s
  | .hotReset h => Sys2Proof.Machine.execHotReset h s
  | .dlActiveLost h => Sys2Proof.Machine.execDlActiveLost h s
  | .ideKmKeyProgram h stream key go => Sys2Proof.Machine.execIdeKmKeyProgram h stream key go s
  | .ideCheckFailure h written read => Sys2Proof.Machine.execIdeCheckFailure h written read s
  | .viralReceived h => Sys2Proof.Machine.execViralReceived h s
  | .uncorrectableLinkError h => Sys2Proof.Machine.execUncorrectableLinkError h s
  | .hostTestEnter q dir pat lanes => Sys2Proof.Machine.execHostTestEnter q dir pat lanes s
  | .hostTestExit q res => Sys2Proof.Machine.execHostTestExit q res s
  | .hostCounterClear q => Sys2Proof.Machine.execHostCounterClear q s
  | .hostErrorInject q lane mode blen => Sys2Proof.Machine.execHostErrorInject q lane mode blen s
  | .feedLossTrigger => Sys2Proof.Machine.execFeedLossTrigger s
  | .seatLossTrigger k => Sys2Proof.Machine.execSeatLossTrigger k s
  | .gpfPhase1 h => Sys2Proof.Machine.execGpfPhase1 h s
  | .gpfPhase2 heads => Sys2Proof.Machine.execGpfPhase2 heads s
  | .bankVabort v => Sys2Proof.Machine.execBankVabort v s
  | .tailraceArmed v ms => Sys2Proof.Machine.execTailraceArmed v ms s
  | .tailraceUnarmed v => Sys2Proof.Machine.execTailraceUnarmed v s
  | .feedContactMate f v => Sys2Proof.Machine.execFeedContactMate f v s
  | .seatAssert => Sys2Proof.Machine.execSeatAssert s
  | .seatDeassert k => Sys2Proof.Machine.execSeatDeassert k s
  | .singleSeatTimeout k => Sys2Proof.Machine.execSingleSeatTimeout k s
  | .feedWindowEnter f v => Sys2Proof.Machine.execFeedWindowEnter f v s
  | .feedWindowExit f up v => Sys2Proof.Machine.execFeedWindowExit f up v s
  | .insertionDelayExpiry f => Sys2Proof.Machine.execInsertionDelayExpiry f s
  | .rampComplete vbus => Sys2Proof.Machine.execRampComplete vbus s
  | .rampCheckTimeout late vout ipk => Sys2Proof.Machine.execRampCheckTimeout late vout ipk s
  | .powerGood e => Sys2Proof.Machine.execPowerGood e s
  | .currentLimitEnter iin => Sys2Proof.Machine.execCurrentLimitEnter iin s
  | .faultTimerExpiry vout ipk => Sys2Proof.Machine.execFaultTimerExpiry vout ipk s
  | .fastTrip vout ipk => Sys2Proof.Machine.execFastTrip vout ipk s
  | .reverseCurrent => Sys2Proof.Machine.execReverseCurrent s
  | .retryBackoffExpiry => Sys2Proof.Machine.execRetryBackoffExpiry s
  | .triesResetTimer => Sys2Proof.Machine.execTriesResetTimer s
  | .changeoverDeadTimeEnd => Sys2Proof.Machine.execChangeoverDeadTimeEnd s
  | .feedAReturnTimer => Sys2Proof.Machine.execFeedAReturnTimer s
  | .stuckOnDetect f => Sys2Proof.Machine.execStuckOnDetect f s
  | .standbyPowerLoss => Sys2Proof.Machine.execStandbyPowerLoss s
  | .bankChargeTimeout v => Sys2Proof.Machine.execBankChargeTimeout v s
  | .headraceRearm => Sys2Proof.Machine.execHeadraceRearm s
  | .configureComplete => Sys2Proof.Machine.execConfigureComplete s
  | .enterStop rt => Sys2Proof.Machine.execEnterStop rt s
  | .enterMaintenance rt => Sys2Proof.Machine.execEnterMaintenance rt s
  | .leaveMaintenance rt => Sys2Proof.Machine.execLeaveMaintenance rt s
  | .recover rt e => Sys2Proof.Machine.execRecover rt e s
  | .coldRestart rt e => Sys2Proof.Machine.execColdRestart rt e s
  | .linkL2Enter h => Sys2Proof.Machine.execLinkL2Enter h s
  | .l2WaitTimeout => Sys2Proof.Machine.execL2WaitTimeout s
  | .headWake h perst => Sys2Proof.Machine.execHeadWake h perst s
  | .mgmtAddressMatch => Sys2Proof.Machine.execMgmtAddressMatch s
  | .wakeTimer => Sys2Proof.Machine.execWakeTimer s
  | .feedEventWake src => Sys2Proof.Machine.execFeedEventWake src s
  | .thermalWake temp => Sys2Proof.Machine.execThermalWake temp s
  | .wakeStepDone bad ms => Sys2Proof.Machine.execWakeStepDone bad ms s
  | .wakeStepTimeout c stuck => Sys2Proof.Machine.execWakeStepTimeout c stuck s
  | .wakeRetry => Sys2Proof.Machine.execWakeRetry s
  | .requestFactoryTest rt signed => Sys2Proof.Machine.execRequestFactoryTest rt signed s
  | .endFactoryTest rt e => Sys2Proof.Machine.execEndFactoryTest rt e s
  | .initialiseMedia rt => Sys2Proof.Machine.execInitialiseMedia rt s
  | .callWriteField core req off mask value e => Sys2Proof.Machine.execCallWriteField core req off mask value e s
  | .callModeRequest core req code e => Sys2Proof.Machine.execCallModeRequest core req code e s
  | .callStageImage core off data => Sys2Proof.Machine.execCallStageImage core off data s
  | .callApplyImage core req slot => Sys2Proof.Machine.execCallApplyImage core req slot s
  | .callSecuredMessage core side => Sys2Proof.Machine.execCallSecuredMessage core side s
  | .callClerkRestart core => Sys2Proof.Machine.execCallClerkRestart core s
  | .writeProtectedField rt off mask value e => Sys2Proof.Machine.execWriteProtectedField rt off mask value e s
  | .clerkWatchdogRefresh core => Sys2Proof.Machine.execClerkWatchdogRefresh core s
  | .clerkWatchdogExpiry core => Sys2Proof.Machine.execClerkWatchdogExpiry core s
  | .clerkException core => Sys2Proof.Machine.execClerkException core s
  | .clerkFirmwareLoaded ok => Sys2Proof.Machine.execClerkFirmwareLoaded ok s
  | .lockstepMismatch => Sys2Proof.Machine.execLockstepMismatch s
  | .transferImage rt act off data => Sys2Proof.Machine.execTransferImage rt act off data s
  | .applyImage rt slot => Sys2Proof.Machine.execApplyImage rt slot s
  | .rollBackImage rt => Sys2Proof.Machine.execRollBackImage rt s
  | .pldmRequestUpdate comp => Sys2Proof.Machine.execPldmRequestUpdate comp s
  | .pldmFwData data last => Sys2Proof.Machine.execPldmFwData data last s
  | .pldmActivateFirmware selfContained => Sys2Proof.Machine.execPldmActivateFirmware selfContained s
  | .faultAcknowledge rt kind k m => Sys2Proof.Machine.execFaultAcknowledge rt kind k m s
  | .liftHeadFence rt h => Sys2Proof.Machine.execLiftHeadFence rt h s
  | .bucketDrain b => Sys2Proof.Machine.execBucketDrain b s
  | .exportDeadLetters rt h addr => Sys2Proof.Machine.execExportDeadLetters rt h addr s
  | .exportComplete => Sys2Proof.Machine.execExportComplete s
  | .getPoisonList rt skip => Sys2Proof.Machine.execGetPoisonList rt skip s
  | .injectPoison rt haddr => Sys2Proof.Machine.execInjectPoison rt haddr s
  | .clearPoison rt haddr data => Sys2Proof.Machine.execClearPoison rt haddr data s
  | .getEventRecords rt l => Sys2Proof.Machine.execGetEventRecords rt l s
  | .clearEventRecords rt l n all => Sys2Proof.Machine.execClearEventRecords rt l n all s
  | .getEventInterruptPolicy rt => Sys2Proof.Machine.execGetEventInterruptPolicy rt s
  | .setEventInterruptPolicy rt pols => Sys2Proof.Machine.execSetEventInterruptPolicy rt pols s
  | .logbookPageWrite clerk part off data => Sys2Proof.Machine.execLogbookPageWrite clerk part off data s
  | .logbookPageWriteDone ok => Sys2Proof.Machine.execLogbookPageWriteDone ok s
  | .logbookWriteRetry => Sys2Proof.Machine.execLogbookWriteRetry s
  | .logwpChange level => Sys2Proof.Machine.execLogwpChange level s
  | .readLogbook rt part off n => Sys2Proof.Machine.execReadLogbook rt part off n s
  | .counterSelectWrite rt k ev heads classes units pub en => Sys2Proof.Machine.execCounterSelectWrite rt k ev heads classes units pub en s
  | .counterFreeze rt v => Sys2Proof.Machine.execCounterFreeze rt v s
  | .counterSnapshot rt => Sys2Proof.Machine.execCounterSnapshot rt s
  | .counterClear rt => Sys2Proof.Machine.execCounterClear rt s
  | .counterRingEnable rt en => Sys2Proof.Machine.execCounterRingEnable rt en s
  | .counterDumpPeriod => Sys2Proof.Machine.execCounterDumpPeriod s
  | .dumpRecordWritten => Sys2Proof.Machine.execDumpRecordWritten s
  | .getCounterCatalogue rt => Sys2Proof.Machine.execGetCounterCatalogue rt s
  | .smbusSetAddress off pec speed => Sys2Proof.Machine.execSmbusSetAddress off pec speed s
  | .smbusBlockRead pec speed => Sys2Proof.Machine.execSmbusBlockRead pec speed s
  | .setEndpointId eid => Sys2Proof.Machine.execSetEndpointId eid s
  | .spdmKeyExchange side version => Sys2Proof.Machine.execSpdmKeyExchange side version s
  | .spdmGetMeasurements side k => Sys2Proof.Machine.execSpdmGetMeasurements side k s
  | .spdmEndSession side id => Sys2Proof.Machine.execSpdmEndSession side id s
  | .pldmGetSensorReading id => Sys2Proof.Machine.execPldmGetSensorReading id s
  | .pldmSetEventReceiver eid => Sys2Proof.Machine.execPldmSetEventReceiver eid s
  | .sensorThresholdCrossing id value => Sys2Proof.Machine.execSensorThresholdCrossing id value s
  | .identifyMemoryDevice rt => Sys2Proof.Machine.execIdentifyMemoryDevice rt s
  | .getHealthInfo rt => Sys2Proof.Machine.execGetHealthInfo rt s
  | .getSupportedLogs rt => Sys2Proof.Machine.execGetSupportedLogs rt s
  | .getLog rt log off n => Sys2Proof.Machine.execGetLog rt log off n s
  | .getTimestamp rt => Sys2Proof.Machine.execGetTimestamp rt s
  | .setTimestamp rt ns => Sys2Proof.Machine.execSetTimestamp rt ns s
  | .getFwInfo rt => Sys2Proof.Machine.execGetFwInfo rt s
  | .getDcConfiguration rt => Sys2Proof.Machine.execGetDcConfiguration rt s
  | .getDcExtentList rt => Sys2Proof.Machine.execGetDcExtentList rt s
  | .getAlertConfiguration rt => Sys2Proof.Machine.execGetAlertConfiguration rt s
  | .setAlertConfiguration rt vals => Sys2Proof.Machine.execSetAlertConfiguration rt vals s
  | .unsupportedCommand rt => Sys2Proof.Machine.execUnsupportedCommand rt s
  | .activityTimer => Sys2Proof.Machine.execActivityTimer s
  | .locateToggle => Sys2Proof.Machine.execLocateToggle s
  | .tierEngineStateError => Sys2Proof.Machine.execTierEngineStateError s
  | .currentLimitExit iin => Sys2Proof.Machine.execCurrentLimitExit iin s
  | .faultTimerClear => Sys2Proof.Machine.execFaultTimerClear s
  | .downstreamConverterFault => Sys2Proof.Machine.execDownstreamConverterFault s
  | .controllerRailOutOfRegulation => Sys2Proof.Machine.execControllerRailOutOfRegulation s
  | .pldmLocateRequest on => Sys2Proof.Machine.execPldmLocateRequest on s
  | .cxlIoIdeFailure h stream => Sys2Proof.Machine.execCxlIoIdeFailure h stream s
  | .jtagInstruction k => Sys2Proof.Machine.execJtagInstruction k s

end Sys2Proof.Machine
end

