-- ==== Sys2Proof/Machine/Idle.lean ====
section
/-! DEFINITION. A cycle of the fabric clock with no command waiting (log entry 11). -/
namespace Sys2Proof.Machine

/-- Housekeeping ticks that fall between two states. -/
def ticksBetween (old new : State) : Nat := houseTicks new.time.standby - houseTicks old.time.standby

/-- The events queued for the Clerks reach them while they run (R439, R398). -/
def clerkTake (s : State) : State :=
  if s.clerksUp && !s.evt.clerkQ.isEmpty then
    { s with evt := { s.evt with clerkQ := [] } }.emit (.mgmt 13 s.evt.clerkQ)
  else s

/-- One cycle passes: time moves on, counters count it, events reach the Clerks, and opens of rings that wait for their context go on. -/
def idle (s : State) : State :=
  let t := tick s
  settle (resumeOpens (clerkTake (cycleCounts (ticksBetween s t) t)))

end Sys2Proof.Machine
end

