-- ==== Sys2Proof/Safety.lean ====
section
/-! DEFINITION. What the claims are stated in: states in which nothing goes on by itself, what the end of a command leaves alone, and
the facts that hold at the end of every command. -/
namespace Sys2Proof.Machine

/-- Nothing goes on by itself: no drain, flush or re-plan is under way, and no walk audit that is about to be interrupted. -/
structure State.Calm (s : State) : Prop where
  drain : s.mode.stopStep = 0
  flush : s.rdB TLR_STAT_ACTIVE = false
  plan : s.mode.planWait = none
  audit : s.cap.auditWalk = none ∨ s.serving = true

/-- The registers that the end of a command may write: event delivery and counters (R439, R459), the fault queue (R420), Logbook
requests (R450), the pressure level (R182), the move between Service and Degraded Service (R374, R380). -/
def closingFlds : List Nat := [EVT_PEND_PEND, EVT_CNT_RAISED, EVT_CNT_LOGOVF, EVT_CNT_CLKDROP, PST_CALLS_EVDROP, CNT_VAL_VALUE,
  CNT_SAT_SAT, LOG_STAT_LASTRES, LOG_CNT_BUSY, FLT_LAST_UNIT, FLT_LAST_CLASS, FLT_LAST_ESC, FLT_LAST_SRC, FLT_CNT_MGT, FLT_CNT_QDROP,
  CAP_GPOOL_LEVEL, MOD_STATE_STATE, MOD_STATE_PREV, MOD_STATE_DEG_FENCE, MOD_STATE_DEG_SUB, MOD_CNT_DEGR].map Fld.id

/-- Service or Degraded Service. -/
def serviceMode (m : Nat) : Bool := m == 3 || m == 4

/-- What is the same in two states but for the closing work of a command: every register, memory, queue, mode and pin of the second is
that of the first, except that events are delivered and counted, the fault log and the Logbook's requests move on, reserve debts are
repaid, and the mode may move between Service and Degraded Service. A pending bit that stands still stands, and messages are only
added. -/
structure Keeps (s t : State) : Prop where
  part : t.part = s.part
  regs : ∀ (f : Fld) (i : Nat), closingFlds.contains f.id = false → t.rd f i = s.rd f i
  pend : ∀ src, s.rdBit EVT_PEND_PEND (src % 64) (src / 64) = true → t.rdBit EVT_PEND_PEND (src % 64) (src / 64) = true
  modes : t.modeCode = s.modeCode ∨ (serviceMode s.modeCode = true ∧ serviceMode t.modeCode = true)
  mem : t.mem = { s.mem with rootMark := t.mem.rootMark }
  home : t.home = s.home
  fc : t.fc = s.fc
  keys : t.keys = s.keys
  cap : t.cap = { s.cap with debt := t.cap.debt }
  work : t.work = s.work
  nextWork : t.nextWork = s.nextWork
  flt : t.flt = { s.flt with queue := t.flt.queue, extra := t.flt.extra }
  policy : t.evt.policy = s.evt.policy
  dcLog : t.evt.dcLog = s.evt.dcLog
  qos : t.qos = s.qos
  ports : t.ports = { s.ports with msixPend := t.ports.msixPend }
  flush : t.flush = s.flush
  dram : t.dram = s.dram
  media : t.media = s.media
  flume : t.flume = s.flume
  cou : t.cou = s.cou
  pwr : t.pwr = s.pwr
  mode : t.mode = s.mode
  post : t.post = s.post
  cnt : t.cnt = s.cnt
  mgt : t.mgt = s.mgt
  pins : t.pins = s.pins
  time : t.time = s.time
  upsets : t.upsets = s.upsets
  free : t.free = s.free
  out : ∃ l, t.out = s.out ++ l
  pending : t.pending = s.pending

/-- What holds at the end of every command: the pressure level is at least what the general pool demands while hosts are served (R181,
R182), and Degraded Service is the mode exactly while one of its causes holds (R374, R380). -/
structure State.Settled (s : State) : Prop where
  level : s.serving = true → s.levelOf s.pool ≤ s.rd CAP_GPOOL_LEVEL
  service : s.modeCode = 3 → s.degraded = false
  degraded : s.modeCode = 4 → s.degraded = true

/-- A command answers a next state that is `x` but for the closing work. -/
def Ends (c : Instr) (s x : State) : Prop := ∃ t, exec c s = .next t ∧ Keeps x t

/-- A command answers a next state of which a fact holds. -/
def Does (c : Instr) (s : State) (P : State → Prop) : Prop := ∃ t, exec c s = .next t ∧ P t

/-- Registers other than those named and those of the closing work read as before. -/
def RegsKept (except : List Fld) (s t : State) : Prop :=
  ∀ (f : Fld) (i : Nat), closingFlds.contains f.id = false → (except.map Fld.id).contains f.id = false → t.rd f i = s.rd f i

/-- What a command of the coherence home leaves alone beside its own lines: every register but those of the closing work, stored bytes,
page entries, keys, parcels, page work, the Dead-Letter Store, the media and DRAM controllers, the Courier, the mode. -/
structure Around (s t : State) : Prop where
  regs : RegsKept [] s t
  pages : t.mem.pages = s.mem.pages
  store : t.mem.store = s.mem.store
  backPoison : t.mem.backPoison = s.mem.backPoison
  keys : t.keys = s.keys
  pmap : t.cap.pmap = s.cap.pmap
  work : t.work = s.work
  dead : t.flt.dead = s.flt.dead
  media : t.media = s.media
  dram : t.dram = s.dram
  cou : t.cou = s.cou
  mode : t.mode = s.mode
  held : t.home.held = s.home.held
  snoops : t.home.snoops = s.home.snoops

/-- A message was sent by a command. -/
def Sends (s t : State) (o : Out) : Prop := ∃ l, t.out = s.out ++ l ∧ o ∈ l

/-- The request of a head that is not dead reaches its slice, and nothing else of its line is under way: the ingress serves it, its trackers are within
its head's share and within half of the slice's, no snoop or eviction covers the line, no upset cell waits to be found, nothing is held
at the ingress, prefetch is off. -/
structure Served (s : State) (h : Nat) (k : ReqKind) (haddr : Nat) (r : Region) (line : Nat) : Prop where
  calm : s.Calm
  gate : s.gate h k haddr = .serve r line
  home : s.regionOf (lineExt line) = some r
  alive : s.home.dead &&& headBit h = 0
  upsets : s.upsets = []
  held : s.home.held = []
  reqs : ∀ q ∈ s.home.reqs, q.line ≠ line ∧ q.id ≠ s.home.nextReq
  snooped : s.snooped line = false
  evicting : s.evicting line = false
  share : ((s.trackers (sliceOf s line)).filter (fun q => q.head == h && q.cls == s.ceil h (clsOf r.cls))).length <
    s.rd QOS_BUD_B_TRK (h * 4 + (s.ceil h (clsOf r.cls)).code)
  light : (s.trackers (sliceOf s line)).length < 480
  prefetch : s.rdB FCA_CFG_PFEN = false

/-- No head but `h` holds a line, and its filter set has a way for it (R77). -/
structure SoleHolder (s : State) (h line : Nat) : Prop where
  holders : ∀ e, s.filt line = some e → e.holders = headBit h ∧ e.held = false
  way : (s.filtOfSet (sliceOf s line) (filtSet line)).length < 16

/-- A mailbox that the Clerks serve (R373, R398, R399): its head's link is up outside Stop, they are not restarting, and a core runs. -/
structure Attends (s : State) (rt : Route) : Prop where
  up : s.modeCode ≠ 6 ∧ ∀ h : Head, rt = .head h → (s.rd HPT_LNK_STATE h = 3 ∨ s.rd HPT_LNK_STATE h = 4 ∨ s.rd HPT_LNK_STATE h = 6)
  clerks : s.post.restarting = false
  core : s.post.coresUp ≠ []

/-- An engine may use a head line at once: it is in the head's view and a keyed domain, no head holds it, nothing of it is under way, no
upset cell waits to be found, early cleaning has room, and the front cache holds it whole in a place `k`. -/
structure LineAtHand (s : State) (h hline : Nat) (r : Region) (line k : Nat) (l : FcLine) : Prop where
  view : s.view h hline = some (r, line)
  keyed : s.keyed r.keydom = true
  reqs : ∀ q ∈ s.home.reqs, q.line ≠ line
  evicting : s.evicting line = false
  snooped : s.snooped line = false
  rebuild : s.rebuildHolds line = false
  filt : s.filt line = none
  upsets : s.upsets = []
  room : s.pdirty (sliceOf s line) + 257 < s.rd FCA_CFG_PDMAX
  place : s.fcFind line = some k
  held : s.fc.lines.find k = some l
  whole : l.mask = fullMask ∧ l.poison = false

/-- A descriptor in progress on a ring, its work not begun, in a device that lets it run. -/
structure InWork (s : State) (r : Nat) (g : Ring) (d : Desc) : Prop where
  ring : s.ring r = some g
  desc : g.desc = some d
  begun : d.finished = false ∧ d.done = 0 ∧ d.diff = none ∧ d.bad = none ∧ d.poisonRead = [] ∧ d.poisonWritten = 0
  result : d.result = if d.opcode = 5 then (d.opnd % 4294967296) ^^^ 0xFFFFFFFF else 0
  runs : s.stopped = false ∧ s.serving = true

/-- The state and holders of a line that the filter shows after the dead heads are masked. -/
def State.holdersOf (s : State) (line : Nat) : Option (Bool × Heads) := (s.filt line).map (fun e => (e.excl, e.holders))

/-- The data-less response and the holders that a MetaValue asks for (R80): Any grants Exclusive, Shared Shared, Invalid nothing. -/
def grantRsp : Meta → Ndr
  | .any => .cmpE
  | .shared => .cmpS
  | .invalid => .cmp
def grantOf (h : Nat) : Meta → Option (Bool × Heads)
  | .any => some (true, headBit h)
  | .shared => some (false, headBit h)
  | .invalid => none

end Sys2Proof.Machine
end

