-- ==== Sys2Proof/Certificates/Slice0/Obligations.lean ====
section
/-! DEFINITION. The statements for the provers, family by family. -/
open Sys2Proof Sys2Proof.Machine

/-! The block as a whole. -/

/-- For every command c and every state with c at the front of its queue, step is exec of c on the state whose queue is the rest. -/
def Obligations.StepRunsFrontCommand : Prop :=
  ∀ (c : Instr) (rest : List Instr) (s : State), s.pending = c :: rest → step s = exec c { s with pending := rest }

/-- On an empty queue, in a state where nothing goes on by itself, no ring opening waits and no performance counter runs, a step answers
the state with its clocks one fabric cycle on, but for event delivery. That an empty queue is a cycle is the model's choice (log
entry 11). -/
def Obligations.IdleStepTicks : Prop :=
  ∀ s : State, s.pending = [] → s.Calm → s.cou.opens = [] → s.cnt.live = [] →
    ∃ t, step s = .next t ∧ Keeps (tick s) t

/-- No command of the spec stops the block: exec answers a next state for every command and every state, never a fault or a refusal. -/
def Obligations.EveryCommandCompletes : Prop := ∀ (c : Instr) (s : State), ∃ t, exec c s = .next t

/-- Whatever the state, if a step answers a next state, then in that state: while hosts are served the pressure level is at least what
the general pool's free parcels demand; in Service no cause of Degraded Service holds; and in Degraded Service one does. -/
def Obligations.EveryStepSettles : Prop := ∀ s s' : State, step s = .next s' → s'.Settled

/-- At reset the mode is Cold Start (1), every snoop filter and every front-cache slice is empty, every key domain is Unkeyed with no key
slot loaded, no link is up, nothing is fenced, the Tailrace is not armed, the management bus answers at address 0x58, and the queue
of commands is empty. The facts that every step leaves (EveryStepSettles) hold there too. -/
def Obligations.ResetValues : Prop :=
  State.reset.modeCode = 1 ∧ State.reset.home.filt = [] ∧ State.reset.fc.lines = [] ∧ State.reset.keys.slots = [] ∧
  (∀ dom, State.reset.rd MIL_KD_STATE dom = 0) ∧ (∀ h, State.reset.rd HPT_LNK_STATE h = 0) ∧
  (∀ c, State.reset.rd DRM_CH_FENCED c = 0) ∧ (∀ k, State.reset.rd MED_STK_FENCED k = 0) ∧ State.reset.rd COU_MAP_FENCED = 0 ∧
  State.reset.rd TLR_STAT_ARMED = 0 ∧ State.reset.rd MGT_SMB_ADDR = 0x58 ∧ State.reset.pending = [] ∧ State.reset.Settled

/-- After a field of a register is set, it reads as the value set modulo two to its width, every other field and every other index of
it reads as before, and every read is within the field's width. -/
def Obligations.RegisterFieldsAreIndependent : Prop :=
  ∀ (s : State) (f : Fld) (v i : Nat), (s.wr f v i).rd f i = v % 2 ^ f.w ∧
    (∀ (g : Fld) (j : Nat), (g.id ≠ f.id ∨ j ≠ i) → (s.wr f v i).rd g j = s.rd g j) ∧
    (∀ (g : Fld) (j : Nat), s.rd g j < 2 ^ g.w)

/-- Writing bytes at an address keeps the store's canonical form; each byte written reads back, and every byte outside reads as
before. -/
def Obligations.StoreReadsBack : Prop :=
  ∀ (m : List Host.Cell) (a : Nat) (l : List Byte), (Memory.wf m → Memory.wf (writeBytes m a l)) ∧
    (∀ (i : Nat) (h : i < l.length), readByte (writeBytes m a l) (a + i) = l[i]) ∧
    (∀ c, (c < a ∨ a + l.length ≤ c) → readByte (writeBytes m a l) c = readByte m c)

/-- Raising a source that is not reserved leaves its pending bit set, and every register, memory, queue, mode and pin other than those of
event delivery and of the performance counters as it was; raising a reserved source changes nothing. The work that
ends every command (the next Logbook request, the pressure level, Degraded Service) keeps as much, in a state where nothing goes on by itself. -/
def Obligations.RaiseDeliversEvent : Prop :=
  ∀ (src : Nat) (s : State),
    (sourceReserved src = false → (raise src s).rdBit EVT_PEND_PEND (src % 64) (src / 64) = true ∧ Keeps s (raise src s)) ∧
    (sourceReserved src = true → raise src s = s) ∧ (s.Calm → Keeps s (settle s))

/-! The coherence home. -/

/-- MemRd and MemRdData of a line wholly valid in the front cache, held by no other head: the line is sent with its data, the granted
MetaValue and Light Load, and Cmp-E, Cmp-S or Cmp; the filter shows what was granted (MetaValue Any Exclusive, Shared Shared, Invalid
unchanged; MemRdData Exclusive from Invalid, else Shared). In a region without back-invalidation the data carries MetaValue Invalid, no
completion is sent, and no filter state changes. No line of the front cache, no tracker and nothing around changes. -/
def Obligations.ReadHitReturnsLine : Prop :=
  ∀ (s : State) (h : Head) (haddr line : Nat) (mv : Meta) (r : Region) (l : FcLine),
    s.fcLine line = some l → l.poison = false → l.mask = fullMask → SoleHolder s h line →
    let ends := fun (g : Meta) (st : Option (Bool × Heads)) (t : State) =>
      Sends s t (.memData h haddr l.data false g 0) ∧ (r.db = true → Sends s t (.ndr h haddr (grantRsp g) 0)) ∧ t.holdersOf line = st ∧
      t.fc.lines = s.fc.lines ∧ t.home.reqs = s.home.reqs ∧ Around s t
    (Served s h .rd haddr r line → Does (.memRd h haddr mv []) s
      (ends (if r.db then mv else .invalid) (if r.db && mv != .invalid then grantOf h mv else s.holdersOf line))) ∧
    (Served s h .rdData haddr r line → Does (.memRdData h haddr []) s
      (let g : Meta := if (s.filt line).isNone then .any else .shared
       ends (if r.db then g else .invalid) (if r.db then grantOf h g else s.holdersOf line)))

/-- MemInv and MemInvNT of a line of a back-invalidated region that no head other than the sender holds: Cmp-E, Cmp-S or Cmp as the
MetaValue asks, and the filter shows the sender Exclusive, Shared, or, from Invalid, no holder. With MetaValue Invalid and the sender
holding the line, the sender itself is snooped (see the snoop statements). No data is sent, and nothing else changes. -/
def Obligations.InvCompletesWithGrant : Prop :=
  ∀ (s : State) (h : Head) (haddr line : Nat) (mv : Meta) (r : Region),
    Served s h .inv haddr r line → r.db = true → SoleHolder s h line → (mv = .invalid → s.filt line = none) →
    ∀ c, (c = .memInv h haddr mv [] ∨ c = .memInvNt h haddr mv []) → Does c s (fun t =>
      Sends s t (.ndr h haddr (grantRsp mv) 0) ∧ t.holdersOf line = grantOf h mv ∧ t.fc = s.fc ∧ t.home.reqs = s.home.reqs ∧ Around s t)

/-- A MemClnEvct of a line of a back-invalidated region with no snoop outstanding: Cmp is sent, the sender holds the line no more, every
other holder stays, and nothing else changes. -/
def Obligations.ClnEvctRemovesHolder : Prop :=
  ∀ (s : State) (h : Head) (haddr line : Nat) (r : Region) (st : Option (Bool × Heads)),
    Served s h .clnEvct haddr r line → r.db = true →
    (st = match s.filt line with
      | none => none
      | some e => if e.holders &&& ~~~(headBit h) = 0 then none else some (e.excl, e.holders &&& ~~~(headBit h))) →
    Does (.memClnEvct h haddr []) s (fun t =>
      Sends s t (.ndr h haddr .cmp 0) ∧ t.holdersOf line = st ∧ t.fc = s.fc ∧ t.home.reqs = s.home.reqs ∧ Around s t)

/-- A MemWr or MemWrPtl without poison, to a line no other head holds, below the persistent dirty limit, that finds its line unpoisoned
in the front cache or a free way for it: Cmp is sent; the line is dirty, its valid bytes are those it had and those written, and its
data is the old with the written bytes in place (rounded in a reduced-precision region); the filter shows the holder its MetaValue
asks for; every other line of the front cache is as before. -/
def Obligations.WritePlacesBytes : Prop :=
  ∀ (s : State) (h : Head) (haddr line slot : Nat) (mv : Meta) (d : Line) (m : Mask) (r : Region) (old : Option FcLine),
    SoleHolder s h line → s.pdHeld r line = false → s.pdirty (sliceOf s line) + 257 < s.rd FCA_CFG_PDMAX →
    s.fc.lines.find slot = old →
    (match old with
      | some l => s.fcFind line = some slot ∧ l.poison = false
      | none => s.fcFind line = none ∧ s.wbLine line = none ∧ s.mem.backPoison.contains line = false ∧
          (lineSlots s line).find? (fun k => (s.fc.lines.find k).isNone && !(s.busyWay k)) = some slot) →
    let ends := fun (m : Mask) (t : State) =>
      Sends s t (.ndr h haddr .cmp 0) ∧
      (∃ l, t.fc.lines.find slot = some l ∧ l.line = (old.elim line (·.line)) ∧ l.dirty = true ∧ l.poison = false ∧
        l.mask = (old.elim 0 (·.mask)) ||| m ∧
        l.data = regionRound r ((old.elim 0 (·.mask)) ||| m) (mergeLine (old.elim 0 (·.data)) d m)) ∧
      (∀ j, j ≠ slot → t.fc.lines.find j = s.fc.lines.find j) ∧
      t.holdersOf line = (if r.db then grantOf h mv else s.holdersOf line) ∧ t.home.reqs = s.home.reqs ∧ RegsKept [] s t ∧
      t.mem.store = s.mem.store
    (Served s h .wr haddr r line → Does (.memWr h haddr mv d false []) s (ends fullMask)) ∧
    (Served s h .wrPtl haddr r line → Does (.memWrPtl h haddr mv d m false []) s (ends m))

/-- A request that the ingress finds outside the head's view: a read gets poison with zero data and MetaValue Invalid, then Cmp; any other
request gets Cmp; OUTVIEW of the head rises by one; the filter, the front cache and every tracker stay as they are. -/
def Obligations.OutsideViewAnsweredPlain : Prop :=
  ∀ (s : State) (h : Head) (haddr : Nat) (k : ReqKind) (c : Instr), s.Calm → s.home.held = [] → s.gate h k haddr = .outside →
    ((k = .rd ∧ ∃ mv, c = .memRd h haddr mv []) ∨ (k = .rdData ∧ c = .memRdData h haddr []) ∨
      (k = .inv ∧ ∃ mv, c = .memInv h haddr mv [] ∨ c = .memInvNt h haddr mv []) ∨ (k = .clnEvct ∧ c = .memClnEvct h haddr []) ∨
      (k = .wr ∧ ∃ mv d p, c = .memWr h haddr mv d p []) ∨ (k = .wrPtl ∧ ∃ mv d m p, c = .memWrPtl h haddr mv d m p [])) →
    Does c s (fun t => (k.isRead = true → Sends s t (.memData h haddr 0 true .invalid 0)) ∧ Sends s t (.ndr h haddr .cmp 0) ∧
      t.rd HPT_ERR2_OUTVIEW h = min (s.rd HPT_ERR2_OUTVIEW h + 1) (2 ^ HPT_ERR2_OUTVIEW.w - 1) ∧
      t.home = s.home ∧ t.fc = s.fc ∧ t.mem.store = s.mem.store ∧ t.mem.pages = s.mem.pages ∧
      RegsKept [HPT_ERR2_OUTVIEW] s t)

/-- A MemRd with MetaValue Any, of a line whose only holder is another head outside its hold time, in a sheet whose lines do not all share
its state: a BISnpInv for the line is sent to that head, the snoop is outstanding for the request, the request waits for it in its
tracker, and no response is sent yet for it; the front cache is untouched. -/
def Obligations.ReadForOwnershipSnoops : Prop :=
  ∀ (s : State) (h h' : Head) (haddr line : Nat) (r : Region) (e : FiltEntry),
    Served s h .rd haddr r line → r.db = true → h ≠ h' → s.home.dead = 0 → s.home.filt.find line = some e →
    e.holders = headBit h' → e.held = false → s.sheetAlike line = false →
    Does (.memRd h haddr .any []) s (fun t =>
      Sends s t (.snoop h' (s.headLine h' line) .inv false) ∧
      (∃ n ∈ t.home.snoops, n.head = h' ∧ n.left = [line] ∧ n.kind = .inv ∧ n.why = .request s.home.nextReq) ∧
      (∃ q ∈ t.home.reqs, q.id = s.home.nextReq ∧ q.line = line ∧ q.head = h ∧ q.stage = .snoop) ∧
      t.holdersOf line = some (e.excl, headBit h') ∧ t.fc.lines = s.fc.lines ∧ RegsKept [] s t)

/-- A MemSpecRd that its slice would serve, of a page whose entry is not at hand: the fetch of the page's entry line starts, and nothing
else changes but the Activity pin; one whose entry is at hand or already being fetched starts none. An M2S message that the head's
ingress would take, with an opcode or values not supported: PROTO of the head rises by one; a read-type message gets poison with zero
data, then Cmp; any other gets Cmp. The home, the front cache and stored bytes stay. -/
def Obligations.SpecRdAndUnsupportedMessages : Prop :=
  (∀ (s : State) (h : Head) (haddr line : Nat) (r : Region), s.Calm → s.gate h .rd haddr = .serve r line →
     let a : State := { s with pins := { s.pins with activity := false }, ports := { s.ports with lastReq := s.standbyNs } }
     (s.entryKnown (linePage line) = false → entryLine (linePage line) ∉ s.mem.entryWait →
       Ends (.memSpecRd h haddr) s { a with mem := { s.mem with entryWait := s.mem.entryWait ++ [entryLine (linePage line)] } }) ∧
     (s.entryKnown (linePage line) = true ∨ entryLine (linePage line) ∈ s.mem.entryWait → Ends (.memSpecRd h haddr) s a)) ∧
  ∀ (s : State) (h : Head) (haddr : Nat) (read : Bool), s.Calm →
    s.gate h (if read then .rd else .wr) haddr ≠ .none → s.gate h (if read then .rd else .wr) haddr ≠ .plain →
    Does (.unsupportedM2sMessage h haddr read) s (fun t =>
      (read = true → Sends s t (.memData h haddr 0 true .invalid 0)) ∧ Sends s t (.ndr h haddr .cmp 0) ∧
      t.rd HPT_ERR2_PROTO h = min (s.rd HPT_ERR2_PROTO h + 1) (2 ^ HPT_ERR2_PROTO.w - 1) ∧
      t.home = s.home ∧ t.fc = s.fc ∧ t.mem = { s.mem with rootMark := t.mem.rootMark } ∧ RegsKept [HPT_ERR2_PROTO] s t)

/-! Snoop responses, waits and timeouts of the home. -/

/-- A BIRsp for one line, of a head with an outstanding snoop of the line that serves no request: the line leaves the snoop, which is
gone with its last line, and then the head's consecutive-timeout count is zero. BIRspI removes the head from the holders; BIRspS (for
BISnpData and BISnpCur) leaves the holders Shared; BIRspE (for BISnpCur) leaves them as they are. Nothing else changes.
A BIConflict of a head whose snoop traffic is taken: CONFLICT of the head rises by one and BIConflictAck is sent; one of a head whose
traffic is not taken is dropped; nothing else changes. -/
def Obligations.SnoopResponsesAndConflicts : Prop :=
  (∀ (s : State) (h : Head) (haddr : Nat), s.Calm →
     (s.takesRsp h = true → Ends (.biconflict h haddr) s ((s.bump HOM_HEAD_CONFLICT 1 h).emit (.ndr h haddr .conflictAck 0))) ∧
     (s.takesRsp h = false → Ends (.biconflict h haddr) s s)) ∧
  ∀ (s : State) (h : Head) (haddr line : Nat) (r : Region) (n : Snoop) (e : FiltEntry),
    s.Calm → s.takesRsp h = true → layoutFind (s.headRegions h) haddr = some (r, line) → s.snoopOf h line = some n →
    (n.why = .rebuild ∨ n.why = .drain) → s.home.held = [] → s.home.filt.find line = some e → e.holders.getLsbD h = true →
    (∀ q ∈ s.home.reqs, q.line ≠ line) →
    let left := n.left.filter (· ≠ line)
    let ends := fun (st : Option (Bool × Heads)) (t : State) =>
      t.home.snoops = s.home.snoops.filterMap (fun m => if m = n then (if left.isEmpty then none else some { n with left }) else some m) ∧
      t.rd HOM_HEAD_TO_RUN h = (if left.isEmpty then 0 else s.rd HOM_HEAD_TO_RUN h) ∧ t.holdersOf line = st ∧ t.fc = s.fc ∧
      t.home.reqs = s.home.reqs ∧ RegsKept [HOM_HEAD_TO_RUN] s t ∧ t.mem.store = s.mem.store
    Does (.birspI h haddr false) s (ends (match s.holdersOf line with
      | some (x, hs) => if hs &&& ~~~(headBit h) = 0 then none else some (x, hs &&& ~~~(headBit h))
      | none => none)) ∧
    (n.kind ≠ .inv → Does (.birspS h haddr false) s (ends ((s.holdersOf line).map (fun x => (false, x.2))))) ∧
    (n.kind = .cur → Does (.birspE h haddr false) s (ends (s.holdersOf line)))

/-- A BIRspI for the one outstanding snoop of a MemRd with MetaValue Any that waits in its tracker, its line wholly valid in the front
cache: the line is sent to the reader with its data and MetaValue Any, then Cmp-E; the reader is the Exclusive holder; the tracker and
the snoop are free. -/
def Obligations.ResponseCompletesRead : Prop :=
  ∀ (s : State) (h : Head) (haddr line : Nat) (r : Region) (n : Snoop) (e : FiltEntry) (q : Req) (l : FcLine),
    s.Calm → s.takesRsp h = true → layoutFind (s.headRegions h) haddr = some (r, line) → s.regionOf (lineExt line) = some r → r.db = true →
    s.home.snoops = [n] → n.head = h → n.left = [line] → n.why = .request q.id → s.home.held = [] → s.home.dead = 0 →
    s.home.filt.find line = some e → e.holders = headBit h → s.home.reqs = [q] → q.line = line → q.kind = .rd → q.mv = .any →
    q.stage = .snoop → q.mute = false → q.ovd = false → q.head < 16 → s.fcLine line = some l → l.poison = false → l.mask = fullMask →
    Does (.birspI h haddr false) s (fun t =>
      Sends s t (.memData q.head q.haddr l.data false .any 0) ∧ Sends s t (.ndr q.head q.haddr .cmpE 0) ∧
      t.holdersOf line = some (true, headBit q.head) ∧ t.home.snoops = [] ∧ t.home.reqs = [] ∧ t.fc.lines = s.fc.lines ∧
      RegsKept [HOM_HEAD_TO_RUN] s t ∧ t.mem.store = s.mem.store)

/-- A MemRd that waits alone in the queue of its line, for a filter way, or for a front-cache way, whose line is by now wholly valid in
the front cache and held by no other head: the event that ends its wait completes it, with its data and the state it asks for. -/
def Obligations.WaitingReadIsTakenUp : Prop :=
  ∀ (s : State) (line : Nat) (r : Region) (q : Req) (l : FcLine) (c : Instr),
    s.Calm → s.regionOf (lineExt line) = some r → r.db = true → s.home.held = [] → s.home.reqs = [q] → q.line = line → q.kind = .rd →
    q.mute = false → q.ovd = false → q.head < 16 → s.home.dead &&& headBit q.head = 0 → s.snooped line = false → s.evicting line = false →
    SoleHolder s q.head line → s.fcLine line = some l → l.poison = false → l.mask = fullMask →
    ((c = .queuedRequestResume line ∧ q.stage = .queued) ∨ (c = .filterAllocRetry line ∧ q.stage = .way) ∨
      (c = .fcAllocWaitEnd line ∧ q.stage = .alloc)) →
    Does c s (fun t => Sends s t (.memData q.head q.haddr l.data false q.mv 0) ∧ Sends s t (.ndr q.head q.haddr (grantRsp q.mv) 0) ∧
      t.holdersOf line = (if q.mv = .invalid then s.holdersOf line else grantOf q.head q.mv) ∧ t.home.reqs = [] ∧
      t.fc.lines = s.fc.lines ∧ Around s t)

/-- A full-line MemWr that waits at the persistent dirty limit, its line unpoisoned in the front cache and its slice by now below the
limit: the end of the wait places its data, dirty, and sends Cmp. -/
def Obligations.HeldPersistentWriteProceeds : Prop :=
  ∀ (s : State) (line slot : Nat) (r : Region) (q : Req) (old : FcLine),
    s.Calm → s.regionOf (lineExt line) = some r → s.home.held = [] → s.home.reqs = [q] → q.line = line → q.kind = .wr → q.poison = false →
    q.stage = .pdirty → q.mute = false → q.ovd = false → q.head < 16 → s.home.dead &&& headBit q.head = 0 → s.snooped line = false →
    s.fcFind line = some slot → s.fc.lines.find slot = some old → old.poison = false → s.pdHeld r line = false →
    s.pdirty (sliceOf s line) + 257 < s.rd FCA_CFG_PDMAX →
    Does (.persistDirtyWaitEnd line) s (fun t => Sends s t (.ndr q.head q.haddr .cmp 0) ∧
      (∃ l, t.fc.lines.find slot = some l ∧ l.line = old.line ∧ l.dirty = true ∧ l.poison = false ∧ l.mask = old.mask ||| fullMask ∧
        l.data = regionRound r (old.mask ||| fullMask) (mergeLine old.data q.data fullMask)) ∧
      (∀ j, j ≠ slot → t.fc.lines.find j = s.fc.lines.find j) ∧ t.home.reqs = [] ∧ RegsKept [] s t ∧ t.mem.store = s.mem.store)

/-- The hold time of a line's grant ends, no rebuild being under way. With no request waiting for it only the mark of the hold is cleared.
A MemRd with MetaValue Any of another head that waits for it sends its BISnpInv to the holder and waits for the response. -/
def Obligations.HoldTimeEndsGrant : Prop :=
  ∀ (s : State) (line : Nat) (e : FiltEntry), s.Calm → s.home.filt.find line = some e → s.rdB HOM_SLMAP_REBUILD = false →
    ((∀ q ∈ s.home.reqs, q.line = line → q.stage ≠ .hold) → Ends (.holdTimeEnd line) s
      { s with home := { s.home with filt := s.home.filt.put line { e with held := false } } }) ∧
    (∀ (h h' : Head) (q : Req), s.home.reqs = [q] → q.line = line → q.stage = .hold → q.kind = .rd → q.mv = .any → q.head = h → h ≠ h' →
      e.holders = headBit h' → s.home.dead = 0 → s.home.held = [] → s.isDB line = true → s.snooped line = false → s.evicting line = false →
      (∀ l ∈ sheetLines (lineSheet line), l ≠ line → s.filt l = none) →
      Does (.holdTimeEnd line) s (fun t => Sends s t (.snoop h' (s.headLine h' line) .inv false) ∧
        (∃ n ∈ t.home.snoops, n.head = h' ∧ n.left = [line] ∧ n.kind = .inv ∧ n.why = .request q.id) ∧
        t.home.reqs = [{ q with stage := .snoop }] ∧ t.fc = s.fc ∧ RegsKept [] s t))

/-- The one snoop of a waiting MemRd expires, its line unpoisoned in the front cache and never recorded in the Dead-Letter Store, the
silent head still below its limit: the line is poisoned in the front cache and recorded with cause 4; the read gets poison with
MetaValue Invalid, then Cmp; the silent head stays a holder; its two timeout counts rise by one. -/
def Obligations.SnoopTimeoutPoisons : Prop :=
  ∀ (s : State) (h : Head) (line slot : Nat) (n : Snoop) (e : FiltEntry) (q : Req) (l : FcLine),
    s.Calm → s.home.snoops = [n] → n.head = h → n.line = line → n.left = [line] → n.why = .request q.id → s.home.held = [] →
    s.home.evt = [] → s.home.filt.find line = some e → e.holders = headBit h → s.home.dead = 0 → s.home.reqs = [q] → q.line = line →
    q.kind = .rd → q.mute = false → q.ovd = false → s.fcFind line = some slot → s.fc.lines.find slot = some l → l.poison = false →
    s.flt.dead = [] → s.rd HOM_HEAD_TO_RUN h + 1 < s.rd HOM_CFG_DEAD_N → s.rd HOM_HEAD_TO_RUN h < 8 →
    Does (.bisnpTimeout h line) s (fun t =>
      (∃ x, t.fc.lines.find slot = some x ∧ x.poison = true ∧ x.dirty = true ∧ x.line = l.line) ∧
      (∃ d, t.flt.dead = [d] ∧ d.line = line ∧ d.cause = 4) ∧
      Sends s t (.memData q.head q.haddr 0 true .invalid 0) ∧ Sends s t (.ndr q.head q.haddr .cmp 0) ∧
      (∃ x, t.home.filt.find line = some x ∧ x.holders = headBit h ∧ x.timedOut = true ∧ x.silent.getLsbD h = true) ∧
      t.home.reqs = [] ∧ t.home.snoops = [] ∧
      t.rd HOM_HEAD_TO_TOTAL h = min (s.rd HOM_HEAD_TO_TOTAL h + 1) (2 ^ HOM_HEAD_TO_TOTAL.w - 1) ∧
      t.rd HOM_HEAD_TO_RUN h = s.rd HOM_HEAD_TO_RUN h + 1 ∧ RegsKept [HOM_HEAD_TO_TOTAL, HOM_HEAD_TO_RUN] s t)

/-- A rebuild of the spare slice that has emptied its filter and its eviction trackers and has no line of the fenced slice left to write
back, nothing held at the ingress: REBUILD clears, the slice's event is raised, and no other register but those of the closing work
changes. -/
def Obligations.SliceRebuildEnds : Prop :=
  ∀ s : State, s.Calm → s.rdB HOM_SLMAP_REBUILD = true → s.home.held = [] → (∀ x ∈ s.home.filt, x.2.slice ≠ 16) →
    (∀ x ∈ s.home.evt, x.slice ≠ 16) → (∀ w ∈ s.fc.wbuf, w.slice ≠ s.home.rebuilding.getD 16) → s.rd HOM_SLMAP_SUB < 16 →
    Does .sliceRebuildDone s (fun t => t.rd HOM_SLMAP_REBUILD = 0 ∧ t.home.rebuilding = none ∧ t.home.filt = s.home.filt ∧
      t.rdBit EVT_PEND_PEND ((256 + 8 * s.rd HOM_SLMAP_SUB + 4) % 64) ((256 + 8 * s.rd HOM_SLMAP_SUB + 4) / 64) = true ∧
      t.fc = s.fc ∧ t.mem.store = s.mem.store ∧ RegsKept [HOM_SLMAP_REBUILD] s t)

/-! Front-cache maintenance, fetches, and page work. -/

/-- Head h, with no operation in progress, writes FCA_MOP_CTL with GO and LINES 1; its FCA_MOP_ADDR names a line of its view that is
present. The operation is in progress with no line left and shows BUSY 1, DONE 1, SKIP 0. Flush writes nothing back of a clean line; of a
dirty one, alone dirty in its sheet, it takes a write-back buffer entry, and leaves it clean. Invalidate removes a clean unlocked line.
Lock-preload and Pin lock an unlocked line within the limit of its set and the head's quota, and raise USED. Unlock clears a lock and
lowers the USED of the head that held it. No other line changes, and no register but these. -/
def Obligations.MaintenanceOfOneLine : Prop :=
  ∀ (s : State) (h : Head) (r : Region) (line k : Nat) (l : FcLine),
    s.Calm → s.stopped = false → s.upsets = [] → s.routeUp (.head h) = true → s.rdB FCA_MOP_STAT_BUSY h = false → s.headFenced h = false →
    s.mopView h (s.rd FCA_MOP_ADDR_LINE h) = some (r, line) → s.fcFind line = some k → s.fc.lines.find k = some l →
    let ran := fun (op : Nat) (l' : Option FcLine) (used : Nat → Nat) (t : State) =>
      t.rd FCA_MOP_CTL_OP h = op ∧ t.rd FCA_MOP_CTL_LINES h = 1 ∧ t.rd FCA_MOP_STAT_BUSY h = 1 ∧ t.rd FCA_MOP_STAT_DONE h = 1 ∧
      t.rd FCA_MOP_STAT_SKIP h = 0 ∧ (∀ j, t.fc.lines.find j = if j = k then l' else s.fc.lines.find j) ∧
      (∀ i, t.rd FCA_LOCKQ_USED i = used i) ∧
      t.fc.mops = s.fc.mops.filter (fun m => m.head ≠ h.val) ++ [⟨h.val, op, s.rd FCA_MOP_ADDR_LINE h + 1, 0, [], 1, 0, 0, none⟩] ∧
      RegsKept [FCA_MOP_CTL_LINES, FCA_MOP_CTL_OP, FCA_MOP_STAT_BUSY, FCA_MOP_STAT_DONE, FCA_MOP_STAT_SKIP, FCA_LOCKQ_USED] s t ∧
      t.home = s.home ∧ t.mem.store = s.mem.store ∧ t.mem.pages = s.mem.pages
    let same := fun i => s.rd FCA_LOCKQ_USED i
    (l.dirty = false → Does (.fcaFlush h 1 []) s (fun t => ran 0 (some l) same t ∧ t.fc.wbuf = s.fc.wbuf ∧ t.work = s.work)) ∧
    (l.dirty = true → l.line = line → (∀ x ∈ sheetLines (lineSheet line), x ≠ line → s.fcLine x = none) → s.wbUsed (sliceOf s line) < 64 →
      Does (.fcaFlush h 1 []) s (fun t => ran 0 (some { l with dirty := false }) same t ∧
        t.fc.wbuf = s.fc.wbuf ++ [⟨s.fc.nextWb, sliceOf s line, lineSheet line, [⟨line % 4, l.mask, l.data, l.poison⟩], l.owner, l.cls, some h.val⟩] ∧
        t.work = s.work ++ [⟨s.nextWork, linePage line, lineSheet line, .writeBack s.fc.nextWb, .waiting, 0, 0, .none, [], [], 0⟩])) ∧
    (l.dirty = false → l.locked = false → Does (.fcaInvalidate h 1 []) s (fun t => ran 1 none same t ∧ t.fc.wbuf = s.fc.wbuf ∧ t.work = s.work)) ∧
    (r.typ ≠ 1 → l.locked = false → s.setLocks k < s.rd FCA_CFG_LOCKW → s.rd FCA_LOCKQ_USED h + 1 ≤ s.rd FCA_LOCKQ_QUOTA h →
      ∀ c op, ((c = .fcaLockPreload h 1 [] ∧ op = 2) ∨ (c = .fcaPin h 1 [] ∧ op = 3)) →
        Does c s (ran op (some { l with locked := true, lockHead := h.val }) (fun i => if i = h.val then same h + 1 else same i))) ∧
    (l.locked = true → Does (.fcaUnlock h 1 []) s
      (ran 4 (some { l with locked := false }) (fun i => if i = l.lockHead then same i - 1 else same i)))

/-- FCA_MOP_END of a head whose operation has no line left, no fetch and no write-back under way, asked for by no mailbox: BUSY clears,
RESULT, DONE and SKIP take its final values, the head's event is raised and the operation is gone. Front-Cache Operation on the management
CCI, for a head with none in progress and a line outside its view: it is accepted as a background command, and the line counts as done and
skipped. No line of the front cache changes. -/
def Obligations.MaintenanceEnds : Prop :=
  ∀ (s : State) (h : Head), s.Calm →
    (∀ m : Mop, s.fc.mops.find? (fun m => m.head == h.val) = some m → m.left = 0 → m.waits = [] → m.route = none →
      (∀ w ∈ s.fc.wbuf, w.mop ≠ some h.val) → Does (.fcaMopEnd h) s (fun t =>
        t.rd FCA_MOP_STAT_BUSY h = 0 ∧ t.rd FCA_MOP_STAT_RESULT h = m.result % 2 ^ FCA_MOP_STAT_RESULT.w ∧
        t.rd FCA_MOP_STAT_DONE h = m.done % 2 ^ FCA_MOP_STAT_DONE.w ∧ t.rd FCA_MOP_STAT_SKIP h = m.skip % 2 ^ FCA_MOP_STAT_SKIP.w ∧
        t.rdBit EVT_PEND_PEND ((128 + 8 * h + 6) % 64) ((128 + 8 * h + 6) / 64) = true ∧ (∀ m ∈ t.fc.mops, m.head ≠ h.val) ∧
        t.fc.lines = s.fc.lines ∧ t.home = s.home ∧ t.mem.store = s.mem.store ∧
        RegsKept [FCA_MOP_STAT_BUSY, FCA_MOP_STAT_RESULT, FCA_MOP_STAT_DONE, FCA_MOP_STAT_SKIP] s t)) ∧
    (∀ (op haddr : Nat), Attends s .mgmt → s.bgBusy .mgmt = false → s.rdB FCA_MOP_STAT_BUSY h = false → s.headFenced h = false →
      s.stopped = false → op ≤ 4 → s.mopView h haddr = none → Does (.frontCacheOperation .mgmt h op haddr 1) s (fun t =>
        Sends s t (.mbox .mgmt .background 0 []) ∧ t.bgBusy .mgmt = true ∧
        t.rd FCA_MOP_STAT_BUSY h = 1 ∧ t.rd FCA_MOP_STAT_DONE h = 1 ∧ t.rd FCA_MOP_STAT_SKIP h = 1 ∧
        ⟨h.val, op, haddr + 1, 0, [], 1, 1, 0, some .mgmt⟩ ∈ t.fc.mops ∧ t.fc.lines = s.fc.lines ∧ t.home = s.home ∧
        RegsKept [FCA_MOP_STAT_BUSY, FCA_MOP_STAT_DONE, FCA_MOP_STAT_SKIP] s t))

/-- The fill of a raw sheet under an entry that names its run completes: its stored bytes can be read, its domain has a key, its tag is
right, no engine errs, no page work rewrites the page and no request waits for it. The fill is over, the engine counts one sheet opened, and
each line that was neither in the front cache nor buffered nor poisoned at its backing location stands clean in the way chosen for it, whole,
with its bytes of the decrypted sheet. Stored bytes, the page entries and the holders stay. -/
def Obligations.SheetFillInstalls : Prop :=
  ∀ (s : State) (sheet : Nat) (v : EngEnv) (f : Fill) (r : Region) (key : KeySlot) (way : Nat → Nat),
    s.Calm → s.stopped = false → s.home.held = [] → s.fc.mops = [] → s.fc.fills.find? (fun f => f.sheet == sheet) = some f → f.sheet = sheet →
    s.pageRegion (sheetPage sheet) = some r → (∀ w ∈ s.work, w.page ≠ sheetPage sheet) →
    (∀ q ∈ s.home.reqs, lineSheet q.line ≠ sheet) → v.sealBad = false → v.cmpBad = false → v.altered = none →
    let e := fillEntry s f
    let page := sheetPage sheet
    let n := sheet % 16
    let stored := s.sheetBytes r.opq e n
    e.run ≠ 0 → e.code n = 8 → s.sheetOk r.opq e n = true → s.keys.slots.find r.keydom = some key →
    s.tagSlot e n = sheetTag key page n r.keydom 8 e.gen stored →
    (∀ l ∈ sheetLines sheet, s.fcFind l = none ∧ s.wbLine l = none ∧ s.mem.backPoison.contains l = false ∧
      f.ways.find? (fun k => slotSetKey k % 4096 == fcSet l) = some (way l)) →
    (∀ a ∈ sheetLines sheet, ∀ b ∈ sheetLines sheet, way a = way b → a = b) →
    Does (.sheetFillComplete sheet v) s (fun t =>
      (∀ g ∈ t.fc.fills, g.sheet ≠ sheet) ∧
      (∀ i < 4, t.fc.lines.find (way (4 * sheet + i)) = some ⟨4 * sheet + i, false, decide (r.typ = 1), false, 0, false, f.head, f.cls, fullMask,
        bytesLine ((((xtsDec key page n stored).take 256).drop (64 * i)).take 64), s.fc.clock⟩) ∧
      t.rd MIL_SEAL_ENG_OPEN (s.engine true v.sealEng) = min (s.rd MIL_SEAL_ENG_OPEN (s.engine true v.sealEng) + 1) (2 ^ MIL_SEAL_ENG_OPEN.w - 1) ∧
      t.mem.store = s.mem.store ∧ t.mem.pages = s.mem.pages ∧ t.home = s.home ∧ RegsKept [MIL_SEAL_ENG_OPEN, TIE_STAT2_QDROP] s t)

/-! Page work, entry fetches, and the Halt's retry. -/

/-- PAGE_LOCK_GRANT for the one write-back that waits, of four whole lines of zeros, on a DRAM-tier page of zeros that stores nothing and is
not size-opaque: the work is ready with no need, and with the entry it commits: WRITTEN, GEN one higher, nothing stored; the compression
engine counts one sheet. MIGRATION_START of a queued page on media that stores one raw sheet, readable and with a right tag, all DRAM-tier
parcels being free: the work is ready with one parcel, in flight, and the entry names it in the DRAM tier. STAGING_WAIT_END of a write that
waits for staging room, a stack having room and slots: the work is ready with its run in media. No stored byte, page entry or front-cache
line changes. -/
def Obligations.PageWorkGetsItsPlace : Prop :=
  ∀ (s : State) (page : Nat) (r : Region) (key : KeySlot) (v o : EngEnv),
    s.Calm → s.stopped = false → s.pageRegion page = some r → s.keys.slots.find r.keydom = some key → s.entryKnown page = true → r.typ ≠ 1 →
    let same := fun (t : State) => t.fc = s.fc ∧ t.mem.store = s.mem.store ∧ t.mem.pages = s.mem.pages ∧ t.home = s.home
    let e := s.entry page
    (∀ (w : Work) (b : WbEntry) (chk : Nat), s.work = [w] → w.page = page → w.stage = .waiting → w.kind = .writeBack b.id → s.fc.wbuf = [b] →
      b.sheet / 16 = page → b.lines = [⟨0, fullMask, 0, false⟩, ⟨1, fullMask, 0, false⟩, ⟨2, fullMask, 0, false⟩, ⟨3, fullMask, 0, false⟩] →
      e.run = 0 → e.size = 0 → r.opq = false → s.mem.backPoison = [] → v.cmpBad = false →
      Does (.pageLockGrant page chk o v) s (fun t => same t ∧
        t.work = [{ w with stage := .ready, parcel := 0, need := 0, image := [], slots := [],
                           entry := { e with parcel := 0, run := 0, gen := (e.gen + 1) % 65536, written := true, tier := false,
                                             pinned := e.pinned || r.tier == 1, repack := false, anyPoison := false } }] ∧
        t.rd MIL_CMP_ENG_COMP (s.engine false v.cmpEng) =
          min (s.rd MIL_CMP_ENG_COMP (s.engine false v.cmpEng) + 1) (2 ^ MIL_CMP_ENG_COMP.w - 1) ∧ RegsKept [MIL_CMP_ENG_COMP] s t)) ∧
    (∀ chk : Nat, s.work = [] → s.cap.promoQ.contains page = true → e.run = 1 → e.tier = true → e.size = 8 → r.opq = false →
      0 < s.rd TIE_CFG_MIGMAX → s.sheetOk r.opq e 0 = true → v.sealBad = false → v.altered = none →
      s.tagSlot e 0 = sheetTag key page 0 r.keydom 8 e.gen (s.sheetBytes r.opq e 0) →
      0 < s.dramDataTop → (∀ p < s.dramDataTop, s.pstate p = .free) → 1 ≤ s.cap.dram.free →
      Does (.migrationStart page chk v) s (fun t => same t ∧ page ∉ t.cap.promoQ ∧
        ∃ p < s.dramDataTop, t.cap.pmap.find p = some .reloc ∧ (∃ x, t.work = [x] ∧ x.page = page ∧ x.kind = .migrate true false ∧
          x.stage = .ready ∧ x.parcel = p ∧ x.need = 1 ∧ x.entry = { e with parcel := p, tier := false }) ∧
        RegsKept [MIL_SEAL_ENG_OPEN] s t)) ∧
    (∀ (w : Work) (k : Nat) (sl : Slot) (s' : State), s.work = [w] → w.page = page → w.stage = .staging → s.stackP = some k →
      s.stagingReady k w.want = true → allocSlots 0 k w.want w.page w.image w.id s = some (sl, s') →
      Does (.stagingWaitEnd page) s (fun t => same t ∧ t.media = s'.media ∧ t.cap = { s'.cap with debt := t.cap.debt } ∧
        t.work = [{ w with stage := .ready, parcel := sl.parcel, need := w.want, slots := [sl.id],
                           entry := { w.entry with parcel := sl.parcel, run := w.want, tier := true } }]))

/-- WRITE_BACK_COMMIT and MIGRATION_COMMIT of the page's ready work with a new run, its staging slots verified: the image stands in the store
from the first byte of the new run on; the entry is the one prepared, REPACK clear (a migration keeps PINNED); the parcels of the new run
outside the old one are owned; the work is gone, and with a write-back its buffer entry, and the backing poison of its sheet; a promotion is
counted. No front-cache line, holder or register but these changes. -/
def Obligations.CommitMovesThePage : Prop :=
  ∀ (s : State) (page : Nat) (r : Region) (w : Work),
    s.Calm → s.stopped = false → s.pageRegion page = some r → s.work.find? (fun x => x.page == page && x.stage == .ready) = some w → w.need ≠ 0 →
    let old := s.entry page
    let done := fun (t : State) =>
      t.mem.store = writeBytes s.mem.store (w.parcel * 512) w.image ∧ t.fc.lines = s.fc.lines ∧ t.home = s.home ∧
      (∀ p, w.parcel ≤ p → p < w.parcel + w.need → (p < old.parcel ∨ old.parcel + old.run ≤ p) → t.cap.pmap.find p = some .owned) ∧
      t.work = s.work.filter (fun x => x.id ≠ w.id)
    (∀ id, w.kind = .writeBack id → Does (.writeBackCommit page) s (fun t => done t ∧
      t.mem.pages = s.mem.pages.put page { w.entry with repack := false } ∧ t.fc.wbuf = s.fc.wbuf.filter (fun b => b.id ≠ id) ∧
      t.mem.backPoison = s.mem.backPoison.filter (fun l => lineSheet l ≠ w.sheet) ∧
      RegsKept [MIL_CMP_RPK_GROW, MIL_CMP_RPK_SHRINK, MIL_CMP_HIST_SHEETS, TIE_STAT2_QDROP] s t)) ∧
    (∀ b, w.kind = .migrate true b → s.verified w = true → Does (.migrationCommit page) s (fun t => done t ∧
      t.mem.pages = s.mem.pages.put page { w.entry with repack := false, pinned := old.pinned } ∧ t.fc.wbuf = s.fc.wbuf ∧
      t.rd TIE_STAT_PROMO = min (s.rd TIE_STAT_PROMO + 1) (2 ^ TIE_STAT_PROMO.w - 1) ∧ RegsKept [TIE_STAT_PROMO] s t))

/-- The fetch of an entry line that verifies, with no request waiting for it and room in the metadata cache, leaves the wait and becomes the
line used last, and changes nothing else. A retry of the Halt record that is not refused Busy ends the Halt: mode 7, FAULT_N asserted, events
64 and 76; one that is refused Busy leaves the Halt waiting. -/
def Obligations.FetchesAndHaltGoOn : Prop :=
  ∀ s : State, s.Calm →
    (∀ line, s.mem.entryWait.contains line = true → s.stopped = false → s.home.held = [] →
      (∀ q ∈ s.home.reqs, q.stage = .entry → entryLine (linePage q.line) ≠ line) → s.mem.cached.length < metaLines →
      Ends (.entryLineFetchComplete line .verified) s
        { s with mem := { s.mem with entryWait := s.mem.entryWait.filter (· ≠ line), cached := line :: s.mem.cached.filter (· ≠ line) } }) ∧
    (s.mode.halting = true → s.cap.auditWalk = none →
      ((recordNow s.haltRecord s).1 ≠ 1 → Does .haltRecordRetry s (fun t => t.modeCode = 7 ∧ t.mode.halting = false ∧ t.mode.memActive = false ∧
        t.pins.faultN = false ∧ t.rdBit EVT_PEND_PEND (64 % 64) (64 / 64) = true ∧ t.rdBit EVT_PEND_PEND (76 % 64) (76 / 64) = true ∧
        t.fc = s.fc ∧ t.home = s.home ∧ t.keys = s.keys ∧ t.mem.store = s.mem.store)) ∧
      ((recordNow s.haltRecord s).1 = 1 → Does .haltRecordRetry s (fun t => t.mode = s.mode ∧ t.fc = s.fc ∧ t.pins = s.pins)))

/-! Key domains, audits, the tier engine's periods, the journal. -/

/-- On the mailbox of the owning head, with a secured session: a volatile Unkeyed domain with a 64-byte secret becomes Keyed, its slot
holding the keys derived from the secret, and no other slot changes; an erase of a domain that is not Erasing, with no background operation
on the mailbox and LOGWP_N released if the domain is persistent, makes it Erasing as a background command; a value that a master may take
becomes its right, and another is refused with Invalid Input. The three commands of a head that is not the owner are refused with extended
status 2, and those outside a session with 3; nothing else changes. -/
def Obligations.KeyDomainCommands : Prop :=
  ∀ (s : State) (h : Head) (d : Nat), s.Calm → Attends s (.head h) → d < 4096 →
    let rt := Route.head h
    (s.rd MIL_KD_OWNER d = h → s.inSession rt = true →
      (∀ secret : List Byte, s.rd MIL_KD_STATE d = 0 → secret.length = 64 → s.rdB MIL_KD_PERSIST d = false →
        Ends (.provisionKeyDomain rt d secret) s (reply rt .success []
          { s.wr MIL_KD_STATE 1 d with keys := { s.keys with slots := s.keys.slots.put d (deriveSlot d secret) } })) ∧
      (s.rd MIL_KD_STATE d ≠ 2 → s.bgBusy rt = false → (s.rdB MIL_KD_PERSIST d = true → s.pins.logwpN = true) →
        Ends (.eraseKeyDomain rt d) s ({ s.wr MIL_KD_STATE 2 d with
          keys := { s.keys with erasing := s.keys.erasing ++ [(d, rt)] },
          mgt := { s.mgt with background := s.mgt.background ++ [(0xC002, rt)] } }.emit (.mbox rt .background 0 []))) ∧
      (∀ (master value : Nat) (f : Fld) (ok : List Nat), s.rightsOf master = some (f, ok) →
        (value ∈ ok → Ends (.setMasterRights rt d master value) s (reply rt .success [] (s.wr f value d))) ∧
        (value ∉ ok → Ends (.setMasterRights rt d master value) s (reply rt .invalidInput [] s)))) ∧
    (∀ (c : Instr) (secret : List Byte) (master value : Nat),
      (c = .provisionKeyDomain rt d secret ∨ c = .eraseKeyDomain rt d ∨ c = .setMasterRights rt d master value) →
      (s.rd MIL_KD_OWNER d ≠ h → Ends c s (s.emit (.mbox rt .invalidSecurity 2 []))) ∧
      (s.rd MIL_KD_OWNER d = h → s.inSession rt = false → Ends c s (s.emit (.mbox rt .invalidSecurity 3 []))))

/-- A volatile domain that is Erasing, with no request, host copy, eviction, page work or descriptor under way for it: ERASE_DOMAIN_DRAINED
makes it Unkeyed, zeroises its slot, moves every page entry of its regions to Cleared with GEN kept, discards its front-cache lines, raises
event 392 and ends the erase. No entry or line of another domain and no stored byte changes. -/
def Obligations.ErasedDomainIsGone : Prop :=
  ∀ (s : State) (d : Nat) (rt : Route), s.Calm → s.stopped = false → s.keys.erasing.find? (fun x => x.1 == d) = some (d, rt) →
    s.rdB MIL_KD_PERSIST d = false → (∀ q ∈ s.home.reqs, s.inDomain d (linePage q.line) = false) → s.workTouches (s.inDomain d) = false →
    s.descTouches (s.inDomain d) = false → (∀ x ∈ s.home.filt, s.inDomain d (linePage x.1) = false) →
    (∀ e ∈ s.home.evt, s.inDomain d (linePage e.line) = false) →
    Does (.eraseDomainDrained d) s (fun t =>
      t.rd MIL_KD_STATE d = 0 ∧ t.keys.slots.find d = none ∧ (∀ x ∈ t.keys.erasing, x.1 ≠ d) ∧
      (∀ d', d' ≠ d → t.keys.slots.find d' = s.keys.slots.find d') ∧
      (∀ page, t.entry page = if s.inDomain d page = true then { PageEntry.none with gen := (s.entry page).gen } else s.entry page) ∧
      t.fc.lines = s.fc.lines.filter (fun x => !(s.inDomain d (linePage x.2.line))) ∧
      t.rdBit EVT_PEND_PEND (392 % 64) (392 / 64) = true ∧ t.mem.store = s.mem.store ∧ t.home = s.home)

/-- A snapshot audit that a mailbox asks for while none is busy ends at once: the response carries the counters, the sums and the
differences; CAP_AUD shows Pass or Mismatch by whether every difference is zero, not busy, KIND 0, and SEQ rises; event 457 is raised. A walk
asked for in a serving mode is busy as a background command. The end of a walk that the Clerks themselves began, with no orphaned parcel,
shows its result with KIND 1, and sets each region's held count to the parcels of its written pages and growth in flight. -/
def Obligations.AuditsReport : Prop :=
  ∀ s : State, s.Calm →
    (∀ rt, Attends s rt → s.rdB CAP_AUD_BUSY = false →
      Does (.auditSnapshot (some rt)) s (fun t =>
        t.rd CAP_AUD_RESULT = (if s.snapDiffs.all (· = 0) then 1 else 2) ∧ t.rd CAP_AUD_BUSY = 0 ∧ t.rd CAP_AUD_KIND = 0 ∧
        t.rd CAP_AUD_SEQ = min (s.rd CAP_AUD_SEQ + 1) (2 ^ CAP_AUD_SEQ.w - 1) ∧
        t.rdBit EVT_PEND_PEND (457 % 64) (457 / 64) = true ∧ t.cap = { s.cap with debt := t.cap.debt } ∧
        Sends s t (.mbox rt .success 0 (s.counters ++ [s.heldOf (fun _ => true), s.heldOf (fun r => r.elastic), s.useSum] ++
          s.snapDiffs.map diffWord)) ∧ RegsKept [CAP_AUD_RESULT, CAP_AUD_BUSY, CAP_AUD_KIND, CAP_AUD_SEQ] s t) ∧
      (s.serving = true → s.bgBusy rt = false → Ends (.auditWalk (some rt)) s
        ({ (s.wr CAP_AUD_BUSY 1).wr CAP_AUD_KIND 1 with
          cap := { s.cap with auditWalk := some (some rt) }
          mgt := { s.mgt with background := s.mgt.background ++ [(0xC000, rt)] } }.emit (.mbox rt .background 0 [])))) ∧
    (s.cap.auditWalk = some none → s.orphanList = [] →
      Does .auditWalkComplete s (fun t =>
        t.rd CAP_AUD_BUSY = 0 ∧ t.rd CAP_AUD_KIND = 1 ∧ t.cap.auditWalk = none ∧
        t.rd CAP_AUD_RESULT = (if s.snapDiffs.all (· = 0) ∧ s.cap.dram.owned = s.runSum (fun x => !x.2.tier) ∧
          s.cap.media.owned = s.runSum (fun x => x.2.tier) then 1 else 2) ∧
        t.rdBit EVT_PEND_PEND (457 % 64) (457 / 64) = true ∧
        (∀ r ∈ s.regions, t.cap.rgnHeld.get r.n 0 =
          s.runSum (fun x => r.base ≤ pageExt x.1 && pageExt x.1 < r.base + r.size) +
          s.growthSum (fun p => r.base ≤ pageExt p && pageExt p < r.base + r.size)) ∧
        t.mem.pages = s.mem.pages ∧ t.cap.dram = s.cap.dram ∧ t.cap.media = s.cap.media ∧ t.cap.pmap = s.cap.pmap))

/-- Under pressure with one head above quota, whose extents that may be asked for are one extent held by it alone, the release period asks
that head for it, once: it is marked as requested, RELREQ rises by one, the head gets the event and its log entry, and event 455 is raised; a
period at level Normal asks nothing. HEAT_EPOCH halves every heat. A sweep under demotion that finds a candidate adds its migration and goes
on after it. A checkpoint with no staged stripe writes every unjournaled entry whose stripe is verified and sends the root record. -/
def Obligations.PeriodsDoTheirWork : Prop :=
  ∀ s : State, s.Calm →
    (∀ (h e : Nat) (x : Extent), s.serving = true → s.rd CAP_GPOOL_LEVEL ≠ 0 → (List.range 16).filter s.aboveQuota = [h] →
      s.askable h = [(e, x)] → s.mem.extents.find e = some x → x.accepted = headBit h → s.excess h ≠ 0 → s.rd CAP_WM_RELMAX ≠ 0 →
      Ends .releaseRequestPeriod s (raise 455 ({ s.bump CAP_ED_RELREQ 1 h with
        mem := { s.mem with extents := s.mem.extents.put e { x with requested := x.accepted } }
        evt := { s.evt with dcLog := s.evt.dcLog.put h (s.evt.dcLog.get h [] ++ [(2, e)]) } }.emit (.dcEvent h 2 [e])))) ∧
    (s.rd CAP_GPOOL_LEVEL = 0 → Ends .releaseRequestPeriod s s) ∧
    Ends .heatEpoch s { s with cap := { s.cap with heat := s.cap.heat.map (fun x => (x.1, x.2 / 2)) } } ∧
    (∀ (page : Nat) (e : PageEntry), s.part.persist = true → s.serving = true → s.cap.demoting = true →
      (s.cap.dram.free : Int) ≤ gib (s.rd TIE_DWM_STOP) → s.candidate = some (page, e) →
      Ends .demotionSweep s { s with
        work := s.work ++ [⟨s.nextWork, page, 0, .migrate false false, .waiting, 0, 0, .none, [], [], 0⟩]
        nextWork := s.nextWork + 1
        cap := { s.cap with sweep := e.parcel + 1, passFound := true } }) ∧
    (s.stopped = false → s.modeCode ≠ 6 → s.stagedCommits = false → (∀ k, k < 16 → s.openStripe k 0 = none) →
      ∃ u, Ends .journalCheckpoint s (rootRecord 1 u) ∧ u.mem.checkpointDue = false ∧
        u.mem.unjournaled = s.mem.unjournaled.filter (fun p => s.unverified p) ∧
        (∀ p, u.mem.durable.find p = if s.mem.unjournaled.contains p ∧ s.unverified p = false then s.mem.pages.find p
          else s.mem.durable.find p) ∧
        u.mem.pages = s.mem.pages ∧ u.mem.store = s.mem.store ∧ u.regs = s.regs ∧ u.media = s.media)

/-! Dynamic Capacity. -/

/-- In a serving mode. Initiate Add by the fabric manager of extents that may be added marks each as offered to the heads under the tag, and
sends each head its add event. Add Response of a head to which the extents are offered accepts them: they leave its offers, and the charge
head of one that was not live is that head; an extent accepted before by anyone only loses this head's open offer. Initiate Release asks
heads that hold the extents: they are marked as requested, RELREQ of each head rises by their number, and each gets the release event;
nothing is withdrawn. The lists read back: the fabric manager reads a head's Dynamic Capacity regions and extents, and a head its own. -/
def Obligations.DynamicCapacityFlow : Prop :=
  ∀ s : State, s.Calm → s.serving = true →
    let rest := fun (t : State) => t.mem.pages = s.mem.pages ∧ t.mem.store = s.mem.store ∧ t.home = s.home ∧ t.fc = s.fc ∧ t.keys = s.keys
    (Attends s .mgmt → ∀ (heads : Heads) (tag : Nat) (exts : List Nat), exts ≠ [] → exts.Nodup →
      (exts.all (s.addable heads tag) = true → Does (.initiateDcAdd .mgmt heads tag exts) s (fun t => rest t ∧ RegsKept [] s t ∧
        (∀ e, t.extent e = if e ∈ exts then { s.extent e with offered := (s.extent e).offered ||| heads, tag } else s.extent e) ∧
        (∀ h : Head, heads.getLsbD h = true → Sends s t (.dcEvent h 1 exts)) ∧ Sends s t (.mbox .mgmt .success 0 []))) ∧
      (heads ≠ 0 → (∀ e ∈ exts, heads &&& ~~~((s.extent e).accepted) = 0) → Does (.initiateDcRelease .mgmt heads exts) s (fun t =>
        rest t ∧ RegsKept [CAP_ED_RELREQ] s t ∧
        (∀ e, t.extent e = if e ∈ exts then { s.extent e with requested := (s.extent e).requested ||| heads } else s.extent e) ∧
        (∀ h : Head, heads.getLsbD h = true → Sends s t (.dcEvent h 2 exts) ∧
          t.rd CAP_ED_RELREQ h = min (s.rd CAP_ED_RELREQ h + exts.length) (2 ^ CAP_ED_RELREQ.w - 1)) ∧
        (∀ h : Head, heads.getLsbD h = false → t.rd CAP_ED_RELREQ h = s.rd CAP_ED_RELREQ h) ∧ Sends s t (.mbox .mgmt .success 0 [])))) ∧
    (∀ (h : Head) (exts : List Nat), Attends s (.head h) → exts.Nodup → (∀ e ∈ exts, (s.extent e).offered.getLsbD h = true) →
      Does (.addDcResponse (.head h) exts) s (fun t => rest t ∧ RegsKept [] s t ∧ Sends s t (.mbox (.head h) .success 0 []) ∧
        (∀ e ∈ exts, t.extent e = { s.extent e with
          offered := (s.extent e).offered &&& ~~~(headBit h)
          accepted := (s.extent e).accepted ||| headBit h
          charge := if (s.extent e).accepted = 0 then h else (s.extent e).charge }) ∧
        (∀ e ∉ exts, (s.extent e).accepted ≠ 0 →
          t.extent e = { s.extent e with offered := (s.extent e).offered &&& ~~~(headBit h) }))) ∧
    (∀ h : Head, (Attends s .mgmt → Ends (.getDcRegionConfig .mgmt h) s (reply .mgmt .success (s.dcRegions h) s) ∧
        Ends (.getDcRegionExtentLists .mgmt h) s (reply .mgmt .success (s.dcExtents h ++
          (s.mem.extents.filter (fun x => x.2.offered.getLsbD h)).flatMap (fun x => [s.headLine h (x.1 * 4194304), x.2.tag])) s)) ∧
      (Attends s (.head h) → Ends (.getDcConfiguration (.head h)) s (reply (.head h) .success (s.dcRegions h) s) ∧
        Ends (.getDcExtentList (.head h)) s (reply (.head h) .success (s.dcExtents h) s)))

/-- In a serving mode. Release Response of a head that holds an extent takes it from the head's accepted extents and marks the release as
running; the charge passes to the lowest head that still holds it; with one line of the extent held by the head, that line is
back-invalidated, and with none nothing is sent. With nothing of the head left in the extent, EXTENT_RELEASE_SNOOPED ends its release, and
starts the clearing when no head holds the extent or is releasing it. EXTENT_RELEASE_CLEARED, with no page work or descriptor under way
there, moves every page of the extent to Cleared with GEN kept, discards its front-cache lines, takes the extent back and raises event
456; no other page changes. -/
def Obligations.ExtentsAreReleased : Prop :=
  ∀ (s : State) (h : Head) (e : Nat), s.Calm →
    let x := s.extent e
    let left := x.accepted &&& ~~~(headBit h)
    let given := setExtent e { x with accepted := left, requested := x.requested &&& ~~~(headBit h), releasing := x.releasing ||| headBit h,
                                      charge := if x.charge = h then (lowestHead left).getD h else x.charge } s
    (s.serving = true → Attends s (.head h) → x.accepted.getLsbD h = true →
      ((∀ y ∈ s.home.filt, lineExt y.1 = e → y.2.holders.getLsbD h = false) →
        Ends (.releaseDcResponse (.head h) [e]) s (reply (.head h) .success [] given)) ∧
      (∀ (l : Nat) (f : FiltEntry), s.home.filt.filter (fun y => lineExt y.1 == e && y.2.holders.getLsbD h) = [(l, f)] → f.held = false →
        s.snoopOf h l = none →
        Ends (.releaseDcResponse (.head h) [e]) s (reply (.head h) .success [] (sendSnoop h l false [l] .inv (.release e) given)))) ∧
    (x.releasing.getLsbD h = true → s.busyExtent h e = false → Ends (.extentReleaseSnooped h e) s
      (setExtent e { x with releasing := x.releasing &&& ~~~(headBit h),
                            clearing := x.accepted == 0 && (x.releasing &&& ~~~(headBit h)) == 0 } s)) ∧
    (x.clearing = true → s.stopped = false → s.workTouches (fun p => pageExt p == e) = false → s.descTouches (fun p => pageExt p == e) = false →
      Does (.extentReleaseCleared e) s (fun t => t.mem.extents.find e = none ∧
        (∀ page, t.entry page = if pageExt page = e then { PageEntry.none with gen := (s.entry page).gen } else s.entry page) ∧
        t.fc.lines = s.fc.lines.filter (fun y => !(pageExt (linePage y.2.line) == e)) ∧
        t.rdBit EVT_PEND_PEND (456 % 64) (456 / 64) = true ∧ t.mem.store = s.mem.store ∧ t.home = s.home))

/-! The DRAM tier controllers. -/

/-- Device work and class requests alike, on a trained tier: a read whose source waits for nothing, of a block with no queued write, joins the
read queue of its channel; a write joins the write queue and is accepted at once, and drain mode begins at WQ_HIGH; a write to a block
with a queued write replaces its data; a read of a fenced channel is answered with an error and a write there is dropped. A subchannel
issues the access that arbitration chooses: a read leaves its queue for the devices, a write is stored; its row is then open; a parity error
only counts a retry, the first three times. A read that comes back without error, the only one open of its source, returns the stored bytes;
one that is lost shows its place in DRM_UE, counts, and marks its block lost. -/
def Obligations.DramAccessesFlow : Prop :=
  ∀ (s : State) (src addr code : Nat) (h : Head), s.Calm → s.dramUp = true → addr < s.part.dramParcels * 512 →
    let a0 := addr / 64 * 64
    let c := addrChannel s a0
    let acc := fun (write o : Bool) (data : Line) => (⟨s.dram.nextId, src, a0, h, codeClass code, o, false, write, data, 0, false, false⟩ : DAcc)
    let bumped := { s.dram with nextId := s.dram.nextId + 1 }
    (s.channelFenced c = false → (∀ b ∈ s.dram.held, b.src ≠ src) →
      ((∀ b ∈ s.writeQ c, b.addr ≠ a0) → (s.readQ c).length < 128 → Does (.dramRead src addr h code) s (fun t =>
        ∃ o, t.dram = { bumped with rdq := s.dram.rdq.put c (s.readQ c ++ [acc false o 0]) } ∧ t.mem = { s.mem with rootMark := t.mem.rootMark } ∧
          (codeClass code = none → o = decide (code = 4) ∧ t.qos = s.qos))) ∧
      (∀ data : Line, (∀ b ∈ s.writeQ c, b.addr ≠ a0) → (s.writeQ c).length < 128 → Does (.dramWrite src addr h code data) s (fun t =>
        ∃ o, t.dram = { bumped with wrq := s.dram.wrq.put c (s.writeQ c ++ [acc true o data]) } ∧
          t.mem = { s.mem with rootMark := t.mem.rootMark } ∧ Sends s t (.xfer 2 [src, s.dram.nextId]) ∧
          t.rd DRM_CH_DRAIN c = if s.rd DRM_CFG_WQ_HIGH ≤ (s.writeQ c).length + 1 then 1
            else if (s.writeQ c).length + 1 ≤ s.rd DRM_CFG_WQ_LOW then 0 else s.rd DRM_CH_DRAIN c)) ∧
      (∀ (data : Line) (b : DAcc), b ∈ s.writeQ c → b.addr = a0 → Does (.dramWrite src addr h code data) s (fun t =>
        t.writeQ c = (s.writeQ c).map (fun x => if x.addr = a0 then { x with data } else x) ∧
          t.mem = { s.mem with rootMark := t.mem.rootMark } ∧ Sends s t (.xfer 2 [src, s.dram.nextId])))) ∧
    (s.channelFenced c = true →
      (s.openReads src = [] → (∀ b ∈ s.dram.issued, b.id ≠ s.dram.nextId ∧ b.done = false) →
        Does (.dramRead src addr h code) s (fun t => Sends s t (.xfer 1 [src, s.dram.nextId, a0, 0]) ∧ t.dram.issued = s.dram.issued)) ∧
      ∀ data, Does (.dramWrite src addr h code data) s (fun t => t.dram = bumped ∧ t.mem = { s.mem with rootMark := t.mem.rootMark })) ∧
    (∀ (u : Nat) (a : DAcc), s.stopped = false → s.channelOn (u / 2) = true → s.channelFenced (u / 2) = false → s.dram.paused.contains u = false →
      (∀ x ∈ s.dram.neigh, x.1 / 64 ≠ u) → nextAccess s u = some a → s.dram.held = [] → addrChannel s a.addr = u / 2 →
      (a.write = false → (∀ b ∈ s.writeQ (u / 2), b.addr ≠ a.addr) → Does (.dramAccessIssue u false) s (fun t =>
        t.dram.issued = s.dram.issued ++ [a] ∧ t.dram.openRow.find (bankOf s a) = some (rowOf s a) ∧
        (t.readQ (u / 2)).map (·.id) = ((s.readQ (u / 2)).filter (fun b => b.id ≠ a.id)).map (·.id) ∧ t.mem = { s.mem with rootMark := t.mem.rootMark })) ∧
      (a.write = true → Does (.dramAccessIssue u false) s (fun t =>
        t.mem.store = writeBytes s.mem.store a.addr (lineBytes a.data) ∧ t.dram.openRow.find (bankOf s a) = some (rowOf s a) ∧
        t.writeQ (u / 2) = (s.writeQ (u / 2)).filter (fun b => b.id ≠ a.id) ∧ t.mem.pages = s.mem.pages)) ∧
      (s.dram.retries.get (u / 2) 0 < 3 → Ends (.dramAccessIssue u true) s
        { s with dram := { s.dram with retries := s.dram.retries.put (u / 2) (s.dram.retries.get (u / 2) 0 + 1) } })) ∧
    (∀ (id : Nat) (a : DAcc), s.dram.issued = [a] → a.id = id → a.write = false → a.done = false → (s.openReads a.src = [a]) →
      (s.mem.lost.contains (a.addr / 64) = false → Does (.dramAccessComplete id 0) s (fun t =>
        Sends s t (.xfer 0 [a.src, a.id, a.addr, (bytesLine (readBytes s.mem.store a.addr 64)).toNat]) ∧ t.dram.issued = [] ∧
        RegsKept [] s t ∧ t.mem = { s.mem with rootMark := t.mem.rootMark })) ∧
      (s.stopped = false → s.rdB FLT_U_CONT (unitIdx 3 (addrChannel s a.addr)) = false → s.dram.ueRecent = [] → Does (.dramAccessComplete id 2) s (fun t =>
        let ch := addrChannel s a.addr
        a.addr / 64 ∈ t.mem.lost ∧ t.rd DRM_UE_VALID ch = 1 ∧ t.rd DRM_UE_ROW ch = rowOf s a % 2 ^ DRM_UE_ROW.w ∧
        t.rd DRM_CH_ECC_UE ch = min (s.rd DRM_CH_ECC_UE ch + 1) (2 ^ DRM_CH_ECC_UE.w - 1) ∧
        t.mem.store = s.mem.store)))

/-- On a trained tier. A refresh due on a bank of a subchannel that is not paused, with no queued Express read of the bank, closes the bank's
row; in a pause it is postponed by one. The window clear of a rank forgets its tallies only. In a mode that serves, a pause that falls due
passes the turn on and pauses the subchannel; its end lets the postponed refreshes go, counts it, and with a margin of at least MARGIN shows
it and clears the failure flag; a failed one sets the flag and raises its event, and the second failure running, or the loss of a PHY's lock,
is a Fatal fault: the channel is fenced, with events 26 and its own. -/
def Obligations.DramUpkeep : Prop :=
  ∀ s : State, s.Calm →
    (∀ bank : Nat, s.dramUp = true → s.channelFenced (bank / 64 / 2) = false →
      (s.dram.paused.contains (bank / 64) = false → (∀ a ∈ s.readQ (bank / 64 / 2), ¬ (bankOf s a = bank ∧ a.level = 0)) →
        Ends (.dramRefreshDue bank) s { s with dram := { s.dram with postponed := s.dram.postponed.del bank, openRow := s.dram.openRow.del bank } }) ∧
      (s.dram.paused.contains (bank / 64) = true → Ends (.dramRefreshDue bank) s
        { s with dram := { s.dram with postponed := s.dram.postponed.put bank (s.dram.postponed.get bank 0 + 1) } })) ∧
    (∀ rank : Nat, Ends (.tallyWindowClear rank) s
      { s with dram := { s.dram with tally := s.dram.tally.filter (fun x => x.1 / 32 ≠ rank) } }) ∧
    (∀ u : Nat, s.channelOn (u / 2) = true → s.channelFenced (u / 2) = false → s.dramUp = true →
      (s.modeCode = 3 ∨ s.modeCode = 4 ∨ s.modeCode = 5 → s.dram.paused.contains u = false → (∀ x ∈ s.dram.neigh, x.1 / 64 ≠ u) →
        Ends (.retrainingPauseStart u) s { s.wr DRM_RTS_NEXT ((u + 1) % (2 * s.part.channels)) with
          dram := { s.dram with paused := s.dram.paused ++ [u] } }) ∧
      (s.dram.paused.contains u = true → (∀ x ∈ s.dram.postponed, x.1 / 64 ≠ u) →
        let rtf := if u % 2 = 0 then DRM_CH_RTF0 else DRM_CH_RTF1
        let marg := if u % 2 = 0 then DRM_CH_RT_MARG0 else DRM_CH_RT_MARG1
        (∀ m, s.rd DRM_CFG_MARGIN ≤ m → Ends (.retrainingPauseEnd u (some m)) s
          { (((s.bump DRM_CH_RT_DONE 1 (u / 2)).wr rtf 0 (u / 2)).wr marg m (u / 2)) with
            dram := { s.dram with paused := s.dram.paused.filter (· ≠ u), failRun := s.dram.failRun.del u } }) ∧
        (s.dram.failRun.get u 0 = 0 → Does (.retrainingPauseEnd u none) s (fun t =>
          t.rd rtf (u / 2) = 1 ∧ t.rd DRM_CH_RT_FAILS (u / 2) = min (s.rd DRM_CH_RT_FAILS (u / 2) + 1) (2 ^ DRM_CH_RT_FAILS.w - 1) ∧
          t.dram.failRun.get u 0 = 1 ∧ t.dram.paused = s.dram.paused.filter (· ≠ u) ∧
          (u / 2 < 16 → t.rdBit EVT_PEND_PEND ((512 + 8 * (u / 2) + 4) % 64) ((512 + 8 * (u / 2) + 4) / 64) = true))))) ∧
    (∀ c : Nat, c < 16 → s.channelOn c = true → s.channelFenced c = false → s.dramUp = true → s.rdB FLT_U_FATAL (unitIdx 3 c) = false →
      s.work = [] → s.part.persist = true → Does (.dramPhyLockLoss c) s (fun t =>
        t.rd DRM_CH_FENCED c = 1 ∧ t.rd FLT_U_FATAL (unitIdx 3 c) = 1 ∧
        t.rdBit EVT_PEND_PEND (26 % 64) (26 / 64) = true ∧ t.rdBit EVT_PEND_PEND ((512 + 8 * c + 5) % 64) ((512 + 8 * c + 5) / 64) = true ∧
        t.mem.store = s.mem.store ∧ t.home = s.home ∧ t.fc = s.fc))

/-! Media: stripes, reclaim, sector reads. -/

/-- A stripe of the R or V stream whose pad time passes is programmed, and the stream goes on in the next stripe of its segment; an open
segment at half the refresh age is programmed to its end. A stripe verified with no page work waiting is gone, its segment's WRITTEN rises by
its filled slots, and the pad is counted. One that fails on a die whose error bucket does not overflow counts PFAIL, marks its segment PFAIL and raises the stack's event. A stack
in reclaim chooses the victim the order gives: it is Reclaiming, and every page whose run stands in it has a relocation waiting; an urgent
one raises its event. A scan that ends with nothing owned is noted. A scanned segment with nothing owned and no journal record naming it is
released: its stale parcels are free and it is Empty, or all its parcels are quarantined and it is Retired. The media clock counts an hour. -/
def Obligations.StripesAndReclaim : Prop :=
  ∀ (s : State) (k : Nat), s.Calm →
    (∀ (stream : Nat) (t : Stripe), s.openStripe k stream = some t → s.stopped = false →
      let others := s.media.stripes.filter (fun u => !(sameStripe u t))
      (s.modeCode ≠ 6 → t.slots ≠ [] → (stream = 1 ∨ stream = 2) → Ends (.stripePadTimeout k stream) s
        { s with media := { s.media with stripes := others ++ [{ t with programming := true, final := t.final || t.stripe == 255 }] ++
          (if t.final = true ∨ t.stripe = 255 then [] else [{ t with stripe := t.stripe + 1, slots := [], first := 0 }]) } }) ∧
      (t.stripe ≠ 0 → s.rd MED_AGE_REFRESH ≤ 2 * (s.rd MED_AGE_NOW - (s.seg k t.seg).born) → Ends (.segmentAgeClose k stream) s
        { s with media := { s.media with stripes := others ++ [{ t with programming := true, final := true }] } })) ∧
    (∀ t : Stripe, s.media.stripes.find? (fun u => u.stack == k && u.seg == t.seg && u.stripe == t.stripe && u.programming) = some t → t.stack = k →
      (s.work = [] → Does (.stripeProgrammeComplete k t.seg t.stripe none) s (fun u =>
        u.media.stripes = s.media.stripes.filter (fun x => !(sameStripe x t)) ∧
        (u.seg k t.seg).written = (s.seg k t.seg).written + (t.filled s).length ∧
        (t.stripe = 0 → (u.seg k t.seg).born = s.rd MED_AGE_NOW) ∧
        u.rd MED_STK_PAD_PAD k = min (s.rd MED_STK_PAD_PAD k + (32 - (t.filled s).length + if t.final then (255 - t.stripe) * 32 else 0))
          (2 ^ MED_STK_PAD_PAD.w - 1) ∧ u.mem.pages = s.mem.pages ∧ u.mem.store = s.mem.store)) ∧
      (∀ d : Nat, (bucketAdd (64 + dieId k d) s).1 = false → s.media.pfDay.get (dieId k d) [] = [] → 1 < s.rd MED_HLTH_PFMAX →
        k < 16 → Does (.stripeProgrammeComplete k t.seg t.stripe (some d)) s (fun u =>
          (u.seg k t.seg).pfail = true ∧ u.rd MED_STK_PAD_PFAIL k = min (s.rd MED_STK_PAD_PFAIL k + 1) (2 ^ MED_STK_PAD_PFAIL.w - 1) ∧
          u.rdBit EVT_PEND_PEND ((640 + 8 * k + 4) % 64) ((640 + 8 * k + 4) / 64) = true ∧ u.rd MED_DIE_PFCNT (dieId k d) = 1 ∧
          u.mem.store = s.mem.store))) ∧
    (∀ (kind : VictimKind) (g : Nat), s.mayReclaim = true → s.stackActive k = true → chooseVictim (staleState k s) k = some (kind, g) →
      Does (.reclaimVictimChoice k) s (fun u =>
        (u.seg k g).state = .reclaiming ∧ u.media.reclaims = s.media.reclaims ++ [⟨k, g, kind, false⟩] ∧
        (∀ p ∈ s.segPages k g, ∃ w ∈ u.work, w.page = p ∧ w.kind = .relocate k) ∧
        (kind = .urgent → k < 16 → u.rdBit EVT_PEND_PEND ((640 + 8 * k + 7) % 64) ((640 + 8 * k + 7) / 64) = true) ∧
        u.mem = { s.mem with rootMark := u.mem.rootMark } ∧ RegsKept [] s u)) ∧
    (∀ g : Nat, s.stopped = false → s.segWork k g = false → (s.seg k g).owned = 0 →
      (s.media.reclaims.any (fun r => r.stack == k && r.seg == g) = true → Ends (.reclaimScanDone k g) s
        { s with media := { s.media with reclaims := s.media.reclaims.map (fun r =>
          if r.stack = k ∧ r.seg = g then { r with scanned := true } else r) } }) ∧
      (∀ r : Reclaim, s.media.reclaims.find? (fun r => r.stack == k && r.seg == g) = some r → r.scanned = true →
        ((s.seg k g).kind = 1 → (journalWrite s).journalNames k g = false) →
        let here := fun (p : Nat) => parcelMedia p && parcelStack p == k && parcelSeg p == g
        let stale := (s.cap.pmap.filter (fun x => x.2 == .stale && here x.1)).length
        let retire := (s.seg k g).pfail || decide (s.rd MED_WEAR_RETIRE ≤ (s.seg k g).wear) || (s.seg k g).wear == 0x7FFFFFF
        Does (.reclaimSegmentRelease k g) s (fun u =>
          (u.seg k g).state = (if retire then .retired else .empty) ∧ (u.seg k g).wear = (s.seg k g).wear ∧
          u.cap.pmap = s.cap.pmap.filter (fun x => !(here x.1)) ∧
          u.cap.media = (if retire then (s.cap.media.move .stale .quar stale).move .free .quar
            (8192 - (s.cap.pmap.filter (fun x => here x.1)).length) else s.cap.media.move .stale .free stale) ∧
          (∀ q ∈ u.media.reclaims, ¬(q.stack = k ∧ q.seg = g)) ∧ u.mem.pages = s.mem.pages ∧ u.mem.store = s.mem.store))) ∧
    (s.part.persist = true → s.modeCode ≠ 1 → s.modeCode ≠ 6 → Does .mediaClockHour s (fun u =>
      u.rd MED_AGE_NOW = min (s.rd MED_AGE_NOW + 1) 0xFFFFFF ∧ u.media.hourRecon = [] ∧ u.mem.store = s.mem.store ∧
      RegsKept [MED_AGE_NOW, MED_DIE_PFCNT] s u))

/-- A read of a parcel on an active stack that no other read covers: served at once while its stripe is not on the dies; else begun at step 1
with the die's reference, or at step 8 when the die has failed. Data with at most CBITS bits corrected at step 1 answers the read and ends
the die's run of timeouts. A decode failure below step 8, like a timeout there that overflows no bucket, moves to the next step with its reference. At step 8 success
counts RECON and queues the segment for early refresh, and failure counts POISON, raises the stack's event and, where a page names the
parcel, marks its blocks lost. A die reported dead, with donors enough, no rebuild under way and at most three failed before, is failed: its
STATE, FAILED and REBUILD show it and the event is raised; otherwise the stack is fenced by a Fatal fault. -/
def Obligations.SectorReadsAndDies : Prop :=
  ∀ (s : State) (p : Nat), s.Calm →
    let k := parcelStack p
    let d := s.holdingDie p
    let word := fun (die step : Nat) => (BitVec.ofInt 16 (s.reference k (parcelSeg p) die step)).toNat
    (parcelMedia p = true → s.stackActive k = true → s.modeCode ≠ 6 → (∀ r ∈ s.media.reads, r.parcel ≠ p) →
      (s.onDies p = false → Ends (.mediaSectorRead p) s (s.emit (.xfer 5 [p]))) ∧
      (s.onDies p = true → Does (.mediaSectorRead p) s (fun t => RegsKept [] s t ∧ t.mem = { s.mem with rootMark := t.mem.rootMark } ∧
        (s.dieFailed k d = false → t.media = { s.media with reads := s.media.reads ++ [⟨p, d, 1⟩] } ∧ Sends s t (.xfer 3 [k, d, p, word d 1])) ∧
        (s.dieFailed k d = true → t.media = { s.media with reads := s.media.reads ++ [⟨p, d, 8⟩] } ∧ Sends s t (.xfer 4 [k, p]))))) ∧
    (∀ r : SectorRead, s.media.reads.find? (fun r => r.parcel == p) = some r → r.parcel = p →
      let reads := fun (x : Option SectorRead) => s.media.reads.filterMap (fun y => if y.parcel = p then x else some y)
      (∀ n : Nat, r.step = 1 → n ≤ s.rd MED_HLTH_CBITS → s.rd MED_HLTH_ERSTEP ≠ 0 → Ends (.sectorDataArrival p (some n)) s
        ({ s with media := { s.media with reads := reads none, timeouts := s.media.timeouts.del (dieId k r.die) } }.emit (.xfer 5 [p]))) ∧
      (r.step < 8 → Does (.sectorDataArrival p none) s (fun t =>
        t.media = { s.media with reads := reads (some { r with step := r.step + 1 }), timeouts := s.media.timeouts.del (dieId k r.die) } ∧
        Sends s t (if r.step = 7 then .xfer 4 [k, p] else .xfer 3 [k, r.die, p, word r.die (r.step + 1)]) ∧
        RegsKept [] s t ∧ t.mem = { s.mem with rootMark := t.mem.rootMark })) ∧
      (r.step < 8 → (bucketAdd (64 + dieId k r.die) s).1 = false → s.media.timeouts.get (dieId k r.die) 0 < 15 →
        Does (.hubReadTimeout p) s (fun t =>
          t.media.reads = reads (some { r with step := r.step + 1 }) ∧
          t.media.timeouts = s.media.timeouts.put (dieId k r.die) (s.media.timeouts.get (dieId k r.die) 0 + 1) ∧
          Sends s t (if r.step = 7 then .xfer 4 [k, p] else .xfer 3 [k, r.die, p, word r.die (r.step + 1)]) ∧
          t.mem = { s.mem with rootMark := t.mem.rootMark })) ∧
      (r.step = 8 → s.dieFailed k r.die = true → ∀ n : Nat, Does (.sectorDataArrival p (some n)) s (fun t =>
        t.media.reads = reads none ∧ Sends s t (.xfer 5 [p]) ∧ t.rd MED_HSTK2_RECON k = min (s.rd MED_HSTK2_RECON k + 1) (2 ^ MED_HSTK2_RECON.w - 1) ∧
        ((s.media.erq.get k []).length < 256 → parcelSeg p ∈ t.media.erq.get k []) ∧ t.mem = { s.mem with rootMark := t.mem.rootMark })) ∧
      (r.step = 8 → s.rdB FLT_U_CONT (unitIdx 4 k) = false → k < 16 → Does (.sectorDataArrival p none) s (fun t =>
        t.media.reads = reads none ∧ t.rd MED_HSTK2_POISON k = min (s.rd MED_HSTK2_POISON k + 1) (2 ^ MED_HSTK2_POISON.w - 1) ∧
        t.rdBit EVT_PEND_PEND ((640 + 8 * k) % 64) ((640 + 8 * k) / 64) = true ∧ t.mem.store = s.mem.store ∧
        ((∃ x ∈ s.mem.pages, x.2.run ≠ 0 ∧ x.2.parcel ≤ p ∧ p < x.2.parcel + x.2.run) → ∀ i < 8, 8 * p + i ∈ t.mem.lost)))) ∧
    (∀ (q die : Nat), q < 16 → die < 33 → s.modeCode ≠ 6 → s.stackActive q = true → s.dieFailed q die = false →
      let f := (s.failedDies q).length + 1
      let ok := s.rdB MED_HSTK_REBUILD q = false ∧ f ≤ 4 ∧ s.donorNeed q f ≤ (s.donorsOf q).length + s.spareCount q
      (ok → Does (.hubDieFaultReport q die) s (fun t => t.dieFailed q die = true ∧ t.rd MED_DIE_STATE (dieId q die) = 1 ∧
        t.rd MED_HSTK_FAILED q = f ∧ t.rd MED_HSTK_REBUILD q = 1 ∧ t.rd MED_HSTK_RBDIE q = die ∧
        t.rdBit EVT_PEND_PEND ((640 + 8 * q + 2) % 64) ((640 + 8 * q + 2) / 64) = true ∧ t.mem.store = s.mem.store)) ∧
      (¬ok → s.rdB FLT_U_FATAL (unitIdx 4 q) = false → s.work = [] → s.media.slots = [] → Does (.hubDieFaultReport q die) s (fun t =>
        t.rd MED_STK_FENCED q = 1 ∧ t.rd FLT_U_FATAL (unitIdx 4 q) = 1 ∧ t.rdBit EVT_PEND_PEND (26 % 64) (26 / 64) = true ∧
        t.dieFailed q die = false)))

/-! The Flume media links. -/

/-- On a live link. A Detect with no clock lane absent leads to Train, Train with its eye widths to Lock, Lock to Exchange; Exchange with no
lane below margin makes the link Active with both swap fields 7, and a full bring-up sets both directions to SEQ 0 and their credit grants,
with the link's event. A bound that passes in a full bring-up begins the next attempt, and in the third fails the link, as a retrain that
takes too long does: it is off and fenced, its stack fenced by a Fatal fault. A detect retry sends receiver detect again. Lanes that lose lock
together start a retrain, and a single data lane with the spare free a swap; so does a data lane whose errors reach LERR within 1 ms, and
fewer errors are only noted. -/
def Obligations.FlumeLinksTrain : Prop :=
  ∀ (s : State) (k : Nat), s.Calm → s.linkLive k = true → k < 16 →
    let l := s.link k
    let fails := fun (c : Instr) => s.rdB FLT_U_FATAL (unitIdx 4 k) = false → s.stackFenced k = false → s.work = [] → s.media.slots = [] →
      Does c s (fun t => t.rd FLM_LNK_FENCED k = 1 ∧ t.rd FLM_LNK_STATE k = 0 ∧ t.rd MED_STK_FENCED k = 1 ∧
        t.rd FLT_U_FATAL (unitIdx 4 k) = 1 ∧ t.rdBit EVT_PEND_PEND (linkEvent k 3 % 64) (linkEvent k 3 / 64) = true)
    let retrains := fun (c : Instr) => s.rdB FLT_U_CORR (unitIdx 4 k) = false → l.retrains = [] → 1 < s.linkCfg FLM_CFG_RTNMAX →
      Does c s (fun t => t.rd FLM_LNK_STATE k = 2 ∧ (t.link k).retraining = true ∧
        t.rd FLM_LNK_ERR_RETRAIN k = min (s.rd FLM_LNK_ERR_RETRAIN k + 1) (2 ^ FLM_LNK_ERR_RETRAIN.w - 1) ∧
        t.rdBit EVT_PEND_PEND (linkEvent k 2 % 64) (linkEvent k 2 / 64) = true)
    (∀ absent eyes taps : List Nat,
      (s.rd FLM_LNK_STATE k = 1 → 5 ∉ absent → 11 ∉ absent → Ends (.flumeBringupStepDone k absent eyes taps) s
        (setLink k { l with absent } (s.wr FLM_LNK_STATE 2 k))) ∧
      (s.rd FLM_LNK_STATE k = 2 → Does (.flumeBringupStepDone k absent eyes taps) s (fun t => t.rd FLM_LNK_STATE k = 3 ∧
        (∀ j < 10, t.rd FLM_TAP_EYE (10 * k + j) = (eyes[j]?).getD 0 % 2 ^ FLM_TAP_EYE.w) ∧ t.flume = s.flume)) ∧
      (s.rd FLM_LNK_STATE k = 3 → Ends (.flumeBringupStepDone k absent eyes taps) s (s.wr FLM_LNK_STATE 4 k)) ∧
      (s.rd FLM_LNK_STATE k = 4 → (∀ d < 2, ∀ j < 5, s.laneBelow k d j = false) → Does (.flumeBringupStepDone k absent eyes taps) s (fun t =>
        t.rd FLM_LNK_STATE k = 5 ∧ t.rd FLM_LNK_SWAP0 k = 7 ∧ t.rd FLM_LNK_SWAP1 k = 7 ∧ t.rd FLM_LNK_RATE k = s.rd MOD_STATE_GRADE ∧
        (t.link k).retraining = false ∧ (l.retraining = false → (t.link k).d0 = .fresh ∧ (t.link k).d1 = .fresh ∧
          t.rdBit EVT_PEND_PEND (linkEvent k 0 % 64) (linkEvent k 0 / 64) = true)))) ∧
    (s.inSteps k = true → l.retraining = false →
      (l.attempts < 3 → Ends (.flumeBringupTimeout k) s (setLink k { l with attempts := l.attempts + 1, absent := [] }
        ((s.wr FLM_LNK_STATE 1 k).wr FLM_LNK_ATT (l.attempts + 1) k))) ∧
      (3 ≤ l.attempts → fails (.flumeBringupTimeout k))) ∧
    (l.retraining = true → fails (.flumeRetrainTimeout k)) ∧
    (s.rd FLM_LNK_STATE k = 1 → Ends (.flumeDetectRetry k) s (s.emit (.flume k 1 l.attempts))) ∧
    (s.flows k = true → ∀ d < 2,
      let x := s.fdir k d
      let spare := s.rd (swapFld d) k = 7 ∧ x.swapping = none
      let swaps := fun (c : Instr) (n : Nat) => Does c s (fun t => t.rd FLM_LNK_STATE k = 6 ∧ (t.fdir k d).swapping = some n ∧
        Sends s t (.flume k 3 (8 * d + n)))
      (l.retraining = false → x.lost = [] → retrains (.laneLockLoss k d [5]) ∧
        (∀ m n : Nat, m ≠ n → retrains (.laneLockLoss k d [m, n])) ∧ (∀ n < 4, spare → swaps (.laneLockLoss k d [n]) n)) ∧
      (∀ errs : List Nat,
        let bip := (x.bip ++ (List.range 5).flatMap (fun j => List.replicate ((errs[j]?).getD 0) (j, s.standbyNs))).filter
          (fun e => s.standbyNs < e.2 + 1000000)
        let many := fun (j : Nat) => s.linkCfg FLM_CFG_LERR ≤ (bip.filter (fun e => e.1 == j)).length
        ((∀ j < 5, ¬ many j) → Ends (.alignmentMarker k d errs) s (setFDir k d { x with bip } s)) ∧
        (∀ n < 4, many n → (∀ j < 5, j ≠ n → ¬ many j) → spare → x.lost = [] → swaps (.alignmentMarker k d errs) n)))

/-- On a link whose frames flow: a frame that arrives intact and is the next its sender sends and its receiver expects advances both, uses its
messages' credits, and its tail acknowledges and returns credits in the other direction; one that arrives broken counts a CRC error and is
answered with one NAK; a frame with no ACK in time is replayed from the oldest. In Factory Test an Active link enters Test with the generator's
fields and leaves it into a retrain with its checkers' results; clearing zeroes the checkers of its five lanes; an injection on a lane of an
Active link is counted and sent, and during a swap it waits. -/
def Obligations.FlumeFramesAndTest : Prop :=
  ∀ (s : State) (k : Nat), s.Calm →
    (s.flows k = true → ∀ d < 2, ∀ (typ lane seq ack ccls ccnt cmds dats : Nat), seq < 1024 → ack < 1024 →
      let x := s.fdir k d
      let sent := useCredits { x with next := (seq + 1) % 1024 } cmds dats
      (typ ≠ 3 → x.next = seq → x.expect = seq → seqDist x.acked seq < 512 →
        Ends (.flumeFrameReceived k d typ lane seq ack false ccls ccnt cmds dats true) s
          (setFDir k (1 - d) (takeCredits (takeAck (s.fdir k (1 - d)) ack) ccls ccnt)
            (setFDir k d { sent with expect := (seq + 1) % 1024, dropping := false } (setFDir k d sent s)))) ∧
      (x.next = seq → x.dropping = false → seqDist x.acked seq < 512 →
        Does (.flumeFrameReceived k d typ lane seq ack false ccls ccnt cmds dats false) s (fun t =>
          t.fdir k d = { sent with dropping := true } ∧ t.rd FLM_LNK_ERR_CRC k = min (s.rd FLM_LNK_ERR_CRC k + 1) (2 ^ FLM_LNK_ERR_CRC.w - 1) ∧
          Sends s t (.flume k 5 ((x.expect + 1023) % 1024)) ∧ RegsKept [FLM_LNK_ERR_CRC] s t)) ∧
      (x.acked ≠ x.next → (s.link k).replays = [] → 2 ≤ s.linkCfg FLM_CFG_RPLMAX → Does (.flumeReplayTimeout k d) s (fun t =>
        Sends s t (.flume k 2 x.acked) ∧ t.fdir k d = x ∧
        t.rd FLM_LNK_ERR_REPLAY k = min (s.rd FLM_LNK_ERR_REPLAY k + 1) (2 ^ FLM_LNK_ERR_REPLAY.w - 1) ∧ RegsKept [FLM_LNK_ERR_REPLAY] s t))) ∧
    (∀ dir pat lanes : Nat, s.modeCode = 0 → s.rd FLM_LNK_STATE k = 5 → Ends (.flumeTestEnter k dir pat lanes) s
      (((((s.wr FLM_PG_EN 1 k).wr FLM_PG_DIR dir k).wr FLM_PG_PAT pat k).wr FLM_PG_LANES lanes k).wr FLM_LNK_STATE 7 k)) ∧
    (∀ res : List Nat, s.rd FLM_LNK_STATE k = 7 → (s.link k).retraining = false → s.rdB FLT_U_CORR (unitIdx 4 k) = false →
      (s.link k).retrains = [] → 1 < s.linkCfg FLM_CFG_RTNMAX → Does (.flumeTestExit k res) s (fun t =>
        t.rd FLM_PG_EN k = 0 ∧ t.rd FLM_LNK_STATE k = 2 ∧ (t.link k).retraining = true ∧
        (∀ j < 5, t.rd FLM_PCNT_ERR (5 * k + j) = min (s.rd FLM_PCNT_ERR (5 * k + j) + (res[3 * j]?).getD 0) (2 ^ FLM_PCNT_ERR.w - 1)))) ∧
    Does (.flumeCounterClear k) s (fun t => (∀ j < 5, t.rd FLM_PCNT_ERR (5 * k + j) = 0 ∧ t.rd FLM_PCNT_BITS (5 * k + j) = 0 ∧
      t.rd FLM_PCNT_LOCK (5 * k + j) = 0) ∧ RegsKept [FLM_PCNT_ERR, FLM_PCNT_BITS, FLM_PCNT_LOCK] s t ∧ t.flume = s.flume) ∧
    (∀ lane mode blen : Nat, s.modeCode = 0 → lane < 5 →
      let u := ((s.wr FLM_INJ_LANE lane k).wr FLM_INJ_MODE mode k).wr FLM_INJ_BLEN blen k
      (s.rd FLM_LNK_STATE k = 5 → Ends (.flumeErrorInject k lane mode blen) s ((u.bump FLM_INJ_COUNT 1 k).emit (.flume k 4 lane))) ∧
      (s.rd FLM_LNK_STATE k = 6 → Ends (.flumeErrorInject k lane mode blen) s
        (setLink k { s.link k with inject := (s.link k).inject + 1 } u)))

/-! The Courier. -/

/-- On a head whose link is up. An open while none is busy is refused with the first result that applies: 1 outside the partition, 2 not
Closed, 3 at the quota, 5 for a context the head may not post; then, with the context's line at hand, 4 for a malformed context and 5 for
rings the head may not post; each refusal raises event 931. With every check passed the ring becomes Running with HEAD and TAIL 0, USED rises
and RESULT is 0. A close of a ring without a descriptor in progress makes it Closed and returns its use; one with a descriptor waits for
it. A GO while BUSY only sets REFUSED. A tail within the ring and not behind the last is taken; the same value does nothing; any other puts
the ring in Error 1 with the head's event; a write to a ring that the head does not have open raises event 930. -/
def Obligations.CourierRings : Prop :=
  ∀ (s : State) (h : Head) (ctx : Nat), s.Calm → s.routeUp (.head h) = true → ctx < 2 ^ 42 →
    let r := s.rd COU_RSTAT_RING h
    let asked := (s.wr COU_ROPEN_CTX ctx h).wr COU_ROPEN_OP 0 h
    let refused := fun (n : Nat) => Does (.ringOpen h ctx) s (fun t => t.rd COU_RSTAT_RESULT h = n ∧ t.rd COU_RSTAT_BUSY h = 0 ∧
      t.cou.rings = s.cou.rings ∧ t.rd COU_RQ_USED h = s.rd COU_RQ_USED h ∧ t.rdBit EVT_PEND_PEND (931 % 64) (931 / 64) = true)
    (s.rdB COU_RSTAT_BUSY h = false →
      (s.inPartition h r = false → Ends (.ringOpen h ctx) s (raise 931 ((asked.wr COU_RSTAT_RESULT 1 h).wr COU_RSTAT_BUSY 0 h)) ∧
        Ends (.ringClose h) s (((s.wr COU_ROPEN_OP 1 h).wr COU_RSTAT_RESULT 1 h).wr COU_RSTAT_BUSY 0 h)) ∧
      (s.inPartition h r = true →
        ((s.ring r).isSome = true → refused 2) ∧
        (s.ring r = none → s.rd COU_RQ_QUOTA h ≤ s.rd COU_RQ_USED h → refused 3) ∧
        (s.ring r = none → s.rd COU_RQ_USED h < s.rd COU_RQ_QUOTA h →
          (s.postOk h (64 * ctx) 64 = false → refused 5) ∧
          (s.postOk h (64 * ctx) 64 = true → s.stopped = false → ∀ (rg : Region) (line k : Nat) (l : FcLine), LineAtHand s h ctx rg line k l →
            (ringOfContext h (lineBytes l.data) = none → refused 4) ∧
            ∀ g, ringOfContext h (lineBytes l.data) = some g →
              (¬(s.postOk h g.dbase (64 * g.entries) = true ∧ s.postOk h g.cbase (32 * g.entries) = true) → refused 5) ∧
              (s.postOk h g.dbase (64 * g.entries) = true → s.postOk h g.cbase (32 * g.entries) = true →
                Does (.ringOpen h ctx) s (fun t => t.ring r = some g ∧ g.head = h ∧ g.state = .running ∧ g.hd = 0 ∧ g.tl = 0 ∧
                  t.rd COU_RSTAT_RESULT h = 0 ∧ t.rd COU_RSTAT_BUSY h = 0 ∧
                  t.rd COU_RQ_USED h = (s.rd COU_RQ_USED h + 1) % 2 ^ COU_RQ_USED.w ∧ t.fc.lines = s.fc.lines ∧ t.home = s.home)))) ∧
        (∀ g, s.ring r = some g → g.head = h →
          (g.desc = none → Does (.ringClose h) s (fun t => t.ring r = none ∧ t.rd COU_RSTAT_RESULT h = 0 ∧ t.rd COU_RSTAT_BUSY h = 0 ∧
            t.rd COU_RQ_USED h = s.rd COU_RQ_USED h - 1 ∧ ∀ q ≠ r, t.ring q = s.ring q)) ∧
          (g.desc ≠ none → Ends (.ringClose h) s (setRing r (some { g with closing := true })
            ((s.wr COU_ROPEN_OP 1 h).wr COU_RSTAT_BUSY 1 h)))))) ∧
    (s.rdB COU_RSTAT_BUSY h = true → Ends (.ringOpen h ctx) s (s.wr COU_RSTAT_REFUSED 1 h) ∧ Ends (.ringClose h) s (s.wr COU_RSTAT_REFUSED 1 h)) ∧
    (∀ (q v : Nat) (g : Ring), v < 4294967296 → s.ring q = some g →
      (g.head ≠ h → Ends (.doorbellTailWrite h q v) s (raise 930 s)) ∧
      (g.head = h → g.closing = false → g.state = .running →
        (v = g.tl → Ends (.doorbellTailWrite h q v) s s) ∧
        (v ≠ g.tl → idxDist g.hd g.tl ≤ idxDist g.hd v → idxDist g.hd v ≤ g.entries →
          Ends (.doorbellTailWrite h q v) s (setRing q (some { g with tl := v }) s)) ∧
        (v ≠ g.tl → ¬(idxDist g.hd g.tl ≤ idxDist g.hd v ∧ idxDist g.hd v ≤ g.entries) →
          Ends (.doorbellTailWrite h q v) s (raise (912 + h) (setRing q (some { g with state := .error, err := 1 }) s))))) ∧
    (∀ q v : Nat, s.ring q = none → Ends (.doorbellTailWrite h q v) s (raise 930 s))

/-- A Running ring with a descriptor waiting, an engine with room and the descriptor's line at hand: the fetch puts it in progress with its
bytes and index; it ends at once with the status of the first check it fails, and goes on to work when it fails none. A finished descriptor
whose ERRONLY leaves out the record, or whose record's line is at hand and is written, leaves the ring with HEAD one further, and its engine
counts it. A descriptor whose time runs out ends with status 0x15 and event 928. A state error of a live engine fences it by a Fatal fault,
raises event 929, and aborts its descriptors with status 0x14. -/
def Obligations.DescriptorsStartAndEnd : Prop :=
  ∀ s : State, s.Calm → s.stopped = false →
    (∀ (r e : Nat) (g : Ring), s.ring r = some g →
      (s.serving = true → g.closing = false → g.state = .running → g.desc = none → g.hd ≠ g.tl → s.ringEngine r = some e → s.inProgress e < 64 →
        ∀ (rg : Region) (line k : Nat) (l : FcLine), LineAtHand s g.head (g.dbase / 64 + g.hd % g.entries) rg line k l →
          Does (.descriptorFetch r) s (fun t => ∃ d : Desc, t.ring r = some { g with desc := some d } ∧ d.index = g.hd ∧ d.engine = e ∧
            d.bytes = lineBytes l.data ∧ d.done = 0 ∧ d.started = s.standbyNs ∧
            (let c := descCheck g.head { d with status := 0, finished := false } s;
              (c = 0 → d.finished = false) ∧ (c ≠ 0 → d.finished = true ∧ d.status = if c = 0x112 then 0x12 else c) ∧
              (c = 0x112 → t.rdBit EVT_PEND_PEND (932 % 64) (932 / 64) = true)) ∧
            t.fc.lines = s.fc.lines ∧ t.home = s.home ∧ ∀ q ≠ r, t.ring q = s.ring q)) ∧
      (∀ d : Desc, g.desc = some d → d.finished = true → g.closing = false →
        let gone := fun (t : State) => t.ring r = some { g with desc := none, hd := (g.hd + 1) % 4294967296 } ∧
          t.rd COU_ENG_DESC d.engine = min (s.rd COU_ENG_DESC d.engine + 1) (2 ^ COU_ENG_DESC.w - 1) ∧ t.mem.store = s.mem.store
        (d.flags.testBit 1 = true → d.status ≤ 1 → Does (.descriptorComplete r) s (fun t => gone t ∧ t.fc = s.fc)) ∧
        ((d.flags.testBit 1 = false ∨ 1 < d.status) → ∀ (rg : Region) (line k : Nat) (l : FcLine),
          let a := g.cbase + 32 * (d.index % g.entries)
          LineAtHand s g.head (a / 64) rg line k l → rg.typ ≠ 1 → a % 64 + 32 ≤ 64 → (d.record g.logsz).length = 32 →
          Does (.descriptorComplete r) s (fun t => gone t ∧ ∃ l', t.fc.lines.find k = some l' ∧ l'.mask = fullMask ∧ l'.dirty = true ∧
            l'.data = regionRound rg fullMask (mergeLine l.data (bytesLine (zeros (a % 64) ++ d.record g.logsz ++ zeros 64)) (spanMask (a % 64) 32)) ∧
            ∀ j ≠ k, t.fc.lines.find j = s.fc.lines.find j))) ∧
      (∀ d : Desc, g.desc = some d → d.finished = false → Does (.descriptorTimeout r) s (fun t =>
        t.ring r = some { g with desc := some { d with status := 0x15, finished := true } } ∧
        t.rdBit EVT_PEND_PEND (928 % 64) (928 / 64) = true ∧ t.fc = s.fc ∧ t.mem.store = s.mem.store ∧ RegsKept [] s t))) ∧
    (∀ e : Nat, s.modeCode ≠ 1 → s.modeCode ≠ 6 → e ∈ s.liveEngines → s.rdB FLT_U_FATAL (unitIdx 7 e) = false →
      Does (.courierStateError e) s (fun t => t.rdBit COU_MAP_FENCED e = true ∧ t.rd FLT_U_FATAL (unitIdx 7 e) = 1 ∧
        t.rdBit EVT_PEND_PEND (929 % 64) (929 / 64) = true ∧
        (∀ x ∈ t.cou.rings, ∀ d, x.2.desc = some d → d.engine = e → d.finished = true) ∧ t.fc = s.fc ∧ t.mem.store = s.mem.store))

/-- A descriptor in progress that has done no work, its ranges each within one line, at hand in the front cache and whole: NOP ends with
Success; COPY and XCOPY write the source's bytes over the destination's, and FILL the pattern by head address, with RESULT the length; COMPARE
gives the length and Success, or the offset of the first difference and Mismatch; CRC32C gives the CRC of the bytes. Each leaves the
descriptor finished, the other lines as they were and the stored bytes alone. -/
def Obligations.DescriptorsMoveData : Prop :=
  ∀ (s : State) (r : Nat) (g : Ring) (d : Desc), s.Calm → InWork s r g d →
    let ended := fun (status result : Nat) (t : State) => (∃ d' : Desc, t.ring r = some { g with desc := some d' } ∧ d'.finished = true ∧
        d'.status = status ∧ d'.result = result ∧ d'.done = d.len ∧ d'.index = d.index ∧ d'.bytes = d.bytes) ∧
      t.mem.store = s.mem.store ∧ t.mem.pages = s.mem.pages ∧ t.home = s.home
    let wrote := fun (rg : Region) (k : Nat) (l : FcLine) (a : Nat) (b : List Byte) (t : State) =>
      (∃ l', t.fc.lines.find k = some l' ∧ l'.mask = fullMask ∧ l'.dirty = true ∧ l'.poison = false ∧
        l'.data = regionRound rg fullMask (mergeLine l.data (bytesLine (zeros (a % 64) ++ b ++ zeros 64)) (spanMask (a % 64) b.length))) ∧
      ∀ j ≠ k, t.fc.lines.find j = s.fc.lines.find j
    (d.opcode = 0 → d.len = 0 → Does (.nop r) s (fun t => ended 0 0 t ∧ t.fc = s.fc)) ∧
    (d.len ≠ 0 → d.dst % 64 + d.len ≤ 64 → ∀ (rg : Region) (line k : Nat) (l : FcLine), LineAtHand s g.head (d.dst / 64) rg line k l →
      (rg.typ ≠ 1 → d.opcode = 2 → Does (.fill r) s (fun t => ended 0 d.len t ∧
        wrote rg k l d.dst ((List.range d.len).map (fun i => BitVec.ofNat 8 (bits d.opnd (8 * ((d.dst + i) % 8)) 8))) t)) ∧
      (d.src % 64 + d.len ≤ 64 → ∀ (rs : Region) (ls ks : Nat) (m : FcLine), LineAtHand s g.head (d.src / 64) rs ls ks m → ls ≠ line →
        (rg.typ ≠ 1 → (d.opcode = 1 → Does (.copy r) s (fun t => ended 0 d.len t ∧ wrote rg k l d.dst (slice (lineBytes m.data) (d.src % 64) d.len) t)) ∧
          (d.opcode = 6 → Does (.xcopy r) s (fun t => ended 0 d.len t ∧ wrote rg k l d.dst (slice (lineBytes m.data) (d.src % 64) d.len) t))) ∧
        (d.opcode = 4 →
          let a := slice (lineBytes m.data) (d.src % 64) d.len
          let b := slice (lineBytes l.data) (d.dst % 64) d.len
          (a = b → Does (.compare r) s (fun t => ended 0 d.len t ∧ t.fc.lines = s.fc.lines)) ∧
          (∀ i < d.len, a[i]? ≠ b[i]? → (∀ j < i, a[j]? = b[j]?) → Does (.compare r) s (fun t => ended 1 i t ∧ t.fc.lines = s.fc.lines))))) ∧
    (d.len ≠ 0 → d.opcode = 5 → d.src % 64 + d.len ≤ 64 → ∀ (rs : Region) (ls ks : Nat) (m : FcLine), LineAtHand s g.head (d.src / 64) rs ls ks m →
      Does (.crc32c r) s (fun t => ended 0 (crcRun ((d.opnd % 4294967296) ^^^ 0xFFFFFFFF) (slice (lineBytes m.data) (d.src % 64) d.len) ^^^ 0xFFFFFFFF) t ∧ t.fc.lines = s.fc.lines))

/-- A descriptor in progress over one page in the head's view, its domain keyed and its entry known. ZERO and RELEASE of a page with nothing
under way: a Written page becomes Written with nothing stored and PINNED kept, or Cleared, GEN kept, and counts in RESULT; another is left as it
is; its front-cache lines are gone. Hints on an unlocked page of an automatic region: Pin sets PINNED within the cap, counts it in USED and
promotes a page in media, and above the cap ends with status 3 and event 461; Unpin clears it; Promote queues a page in media; Demote queues the
migration of a page in DRAM that is not pinned. SCRUB of a page that stores nothing adds nothing; of one raw sheet that reads back with its
tag it counts 64 lines checked and the lines that read as poison, and one sheet opened. Stored bytes stay. -/
def Obligations.DescriptorsWorkOnPages : Prop :=
  ∀ (s : State) (r : Nat) (g : Ring) (d : Desc) (rg : Region) (line : Nat), s.Calm → InWork s r g d → d.len = 4096 →
    s.view g.head (d.dst / 64) = some (rg, line) → s.keyed rg.keydom = true → s.entryKnown (linePage line) = true →
    let page := linePage line
    let e := s.entry page
    let ended := fun (status result : Nat) (t : State) => (∃ d' : Desc, t.ring r = some { g with desc := some d' } ∧ d'.finished = true ∧
        d'.status = status ∧ d'.result = result ∧ d'.index = d.index ∧ d'.bytes = d.bytes) ∧ t.mem.store = s.mem.store ∧ t.home = s.home
    let others := fun (t : State) => ∀ p ≠ page, t.entry p = s.entry p
    let queued := fun (k : WorkKind) (t : State) => t.work = s.work ++ [⟨s.nextWork, page, 0, k, .waiting, 0, 0, .none, [], [], 0⟩]
    (s.locked page = false → (∀ x ∈ s.home.filt, linePage x.1 ≠ page) → (∀ q ∈ s.home.reqs, linePage q.line ≠ page) →
      (∀ x ∈ s.home.evt, linePage x.line ≠ page) → (∀ f ∈ s.fc.fills, sheetPage f.sheet ≠ page) →
      let cleared := fun (x : PageEntry) (t : State) => ended 0 e.written.toNat t ∧ others t ∧ t.entry page = (if e.written then x else e) ∧
        t.fc.lines = s.fc.lines.filter (fun y => !(linePage y.2.line == page))
      (d.opcode = 3 → Does (.zero r) s (cleared { PageEntry.none with gen := e.gen, pinned := e.pinned, written := true })) ∧
      (d.opcode = 8 → Does (.release r) s (cleared { PageEntry.none with gen := e.gen }))) ∧
    (d.opcode = 7 → s.part.persist = true → rg.tier = 0 → s.locked page = false →
      (d.opnd % 4 = 0 → e.written = true → e.pinned = false →
        (s.rd TIE_PIN_USED + 1 ≤ s.rd TIE_PIN_LIMIT * 262144 → Does (.hintPin r) s (fun t => ended 0 1 t ∧ others t ∧
          t.entry page = { e with pinned := true } ∧ t.rd TIE_PIN_USED = (s.rd TIE_PIN_USED + 1) % 2 ^ TIE_PIN_USED.w ∧ t.fc = s.fc ∧
          (s.inMedia page = true → queued (.migrate true true) t) ∧ (s.inMedia page = false → t.work = s.work))) ∧
        (s.rd TIE_PIN_LIMIT * 262144 < s.rd TIE_PIN_USED + 1 → Does (.hintPin r) s (fun t => ended 3 0 t ∧ others t ∧ t.entry page = e ∧
          t.rdBit EVT_PEND_PEND (461 % 64) (461 / 64) = true ∧ t.work = s.work ∧ RegsKept [] s t))) ∧
      (d.opnd % 4 = 1 → e.pinned = true → Does (.hintUnpin r) s (fun t => ended 0 1 t ∧ others t ∧ t.entry page = { e with pinned := false } ∧
        t.rd TIE_PIN_USED = s.rd TIE_PIN_USED - 1 ∧ t.work = s.work ∧ t.fc = s.fc)) ∧
      (d.opnd % 4 = 2 → s.inMedia page = true → s.cap.promoQ.contains page = false → s.cap.promoQ.length < 4096 →
        Does (.hintPromote r) s (fun t => ended 0 1 t ∧ t.cap.promoQ = s.cap.promoQ ++ [page] ∧ t.mem.pages = s.mem.pages ∧ t.fc = s.fc)) ∧
      (d.opnd % 4 = 3 → e.pinned = false → e.run ≠ 0 → e.tier = false → (∀ w ∈ s.work, w.page ≠ page) →
        Does (.hintDemote r) s (fun t => ended 0 1 t ∧ queued (.migrate false true) t ∧ t.mem.pages = s.mem.pages ∧ t.fc = s.fc))) ∧
    (∀ (key : KeySlot) (chk : Nat) (v : EngEnv), d.opcode = 9 → s.keys.slots.find rg.keydom = some key →
      (e.run = 0 → Does (.scrub r chk v [] [] []) s (fun t => ended 0 0 t ∧ t.mem.pages = s.mem.pages ∧ RegsKept [] s t ∧
        ∃ d', t.ring r = some { g with desc := some d' } ∧ d'.counts = d.counts)) ∧
      (e.run ≠ 0 → e.size = 8 → rg.opq = false → s.bytesFenced (e.parcel * 512) 64 = false →
        s.bytesFenced (e.parcel * 512 + sheetOffset false e 0) 256 = false → s.sheetOk false e 0 = true →
        s.tagSlot e 0 = sheetTag key page 0 rg.keydom 8 e.gen (s.sheetBytes false e 0) → v.sealBad = false → v.altered = none →
        Does (.scrub r chk v [] [] []) s (fun t => ended 0 0 t ∧ t.mem.pages = s.mem.pages ∧ RegsKept [MIL_SEAL_ENG_OPEN] s t ∧
          ∃ d', t.ring r = some { g with desc := some d' } ∧ d'.counts =
            (d.counts.zip [64, 0, 0, ((List.range 64).filter (fun i => s.readsPoison rg key (64 * page + i))).length, 0]).map
              (fun x => min (x.1 + x.2) 0xFFFFFFFF))))

/-! Regulation and the host ports. -/

/-- With no budget waiting and nothing owed, a refill of the running device leaves no token of any resource spent; no bucket falls, none rises
by more than its rate or past 8 times its rate, and where the pool and the spent tokens suffice for every rate each bucket gets all it is due.
Set Class Budget by the management route is refused with Invalid Input when it breaks a rule of admission; otherwise the six budgets wait two
refills, and a budget whose refill has come is the register's value after it. OVERDRAFT_AGE marks the request it names, at a channel or at
a slice. -/
def Obligations.RegulationWorks : Prop :=
  ∀ s : State, s.Calm →
    (s.running = true → s.qos.waits = [] → ∀ r < 3, (s.tok r).owed = 0 → Does .tokenRefill s (fun t =>
      let rate := fun key => s.rd (rateFld r) key
      let b := fun key => (s.tok r).buckets.get key 0
      (t.tok r).spent = 0 ∧ (t.tok r).total = (s.tok r).total ∧ RegsKept [] s t ∧
      (∀ key, b key ≤ (t.tok r).buckets.get key 0 ∧ (t.tok r).buckets.get key 0 ≤ b key + rate key ∧
        (t.tok r).buckets.get key 0 ≤ max (b key) (8 * rate key)) ∧
      ((List.range 64).foldl (fun a key => a + rate key) 0 ≤ (s.tok r).pool + (s.tok r).spent →
        ∀ key < 64, (t.tok r).buckets.get key 0 = b key + min (rate key) (8 * rate key - b key)))) ∧
    (∀ w : RateWait, s.running = true → s.qos.waits = [w] → w.waits ≤ 1 → Does .tokenRefill s (fun t =>
      t.rd (budgetFld w.fld) w.idx = w.value % 2 ^ (budgetFld w.fld).w ∧ t.qos.waits = [])) ∧
    (∀ (h : Head) (cls : Nat) (v : List Nat), Attends s .mgmt → cls < 4 → v.length = 6 →
      (s.admits (4 * h + cls) v = false → Ends (.setClassBudget .mgmt h cls v) s (reply .mgmt .invalidInput [] s)) ∧
      (s.admits (4 * h + cls) v = true → Does (.setClassBudget .mgmt h cls v) s (fun t => Sends s t (.mbox .mgmt .success 0 []) ∧
        (∀ i < 6, (⟨i, 4 * h + cls, (v[i]?).getD 0, 2⟩ : RateWait) ∈ t.qos.waits) ∧
        (∀ w ∈ t.qos.waits, w.idx ≠ 4 * h + cls → w ∈ s.qos.waits) ∧ t.qos.dram = s.qos.dram ∧ RegsKept [] s t))) ∧
    (∀ id : Nat,
      let age := fun (a : DAcc) => if a.id = id ∧ a.ovd then { a with aged := true } else a
      Ends (.overdraftAge 0 id) s { s with dram := { s.dram with
        rdq := s.dram.rdq.map (fun x => (x.1, x.2.map age)), wrq := s.dram.wrq.map (fun x => (x.1, x.2.map age)) } } ∧
      ∀ res ≠ 0, Ends (.overdraftAge res id) s { s with qos := { s.qos with ovd := s.qos.ovd.map (fun w =>
        if w.req = id ∧ w.resource = res then { w with aged := true } else w) } })

/-- A head in training whose link comes up shows 4 with CXL, 3 without and 6 when fenced, the lower of rate and width, and raises its event.
De-assertion of PERST starts the training of a head in reset. Within a session IDE_KM keys a stream, and with go switches CXL.cachemem to
secure; a failed check of a CXL.io stream only discards its keys. A failed check of CXL.cachemem in containment, viral, and an uncorrectable
link error each fence a head that holds no line and has nothing under way: state 6, the cause, the mask, a Fatal fault and the head's event;
the IDE failure is counted and its keys discarded. -/
def Obligations.HostLinks : Prop :=
  ∀ (s : State) (h : Head), s.Calm →
    let ev := fun (n : Nat) (t : State) => t.rdBit EVT_PEND_PEND (headEvent h n % 64) (headEvent h n / 64) = true
    (∀ (cxl lo : Bool) (rate width : Nat), s.headExists h = true → (s.rd HPT_LNK_STATE h = 2 ∨ s.rd HPT_LNK_STATE h = 5) → s.modeCode ≠ 6 → width ≠ 0 →
      Does (.linkUp h cxl rate width lo) s (fun t =>
        t.rd HPT_LNK_STATE h = (if s.headFenced h then 6 else if cxl then 4 else 3) ∧ ev 0 t ∧
        t.rd HPT_LNK_RATE h = max (rate % 4) (s.rd HPT_HCFG_MAXRATE h) ∧ t.rd HPT_LNK_WIDTH h = min width (s.quad h) ∧
        t.rd HPT_LNK_LOFLIT h = (lo && s.rdB HPT_HCFG_LOFLIT h).toNat ∧ t.home = s.home ∧
        RegsKept [HPT_LNK_STATE, HPT_LNK_RATE, HPT_LNK_WIDTH, HPT_LNK_LOFLIT] s t)) ∧
    (s.headLive h = true → s.rd HPT_LNK_STATE h = 1 → Ends (.perstDeassert h) s
      ({ s with pins := { s.pins with perstN := s.pins.perstN ||| headBit h } }.wr HPT_LNK_STATE 2 h)) ∧
    (∀ (stream key : Nat), s.linkUp h = true → stream < 4 → s.inSession (.head h) = true → s.ideStream h stream = none →
      let keyed := fun (secure : Bool) => { s with ports := { s.ports with
        ide := s.ports.ide.filter (fun x => !(x.head == h.val && x.stream == stream)) ++ [⟨h, stream, key, secure⟩] } }
      Ends (.ideKmKeyProgram h stream key false) s (keyed false) ∧
      Ends (.ideKmKeyProgram h stream key true) s (if stream = 0 then (keyed true).wr HPT_LNK_IDE 1 h else keyed true)) ∧
    (∀ stream : Nat, s.linkUp h = true → 1 ≤ stream → stream < 4 → Ends (.cxlIoIdeFailure h stream) s
      { s with ports := { s.ports with ide := s.ports.ide.filter (fun x => !(x.head == h.val && x.stream == stream)) } }) ∧
    (s.stopped = false → s.rd HPT_LNK_STATE h = 4 → s.headFenced h = false → s.rdB FLT_U_FATAL (unitIdx 1 h) = false →
      s.home.filt = [] → s.home.evt = [] → s.home.reqs = [] → s.home.snoops = [] → s.home.held = [] → s.ringsOf h = [] →
      s.fc.mops.find? (fun m => m.head == h.val) = none → s.rdB CNT_RING_B_EN = false →
      let fenced := fun (cause : Nat) (t : State) => t.rd HPT_LNK_STATE h = 6 ∧ t.rd HPT_LNK_FCAUSE h = cause ∧ t.headFenced h = true ∧
        t.home.dead = s.home.dead ||| headBit h ∧ t.rd FLT_U_FATAL (unitIdx 1 h) = 1 ∧ ev 4 t ∧
        t.rdBit EVT_PEND_PEND (26 % 64) (26 / 64) = true ∧ t.fc = s.fc ∧ t.mem.store = s.mem.store
      Does (.viralReceived h) s (fenced 3) ∧ Does (.uncorrectableLinkError h) s (fenced 4) ∧
      ∀ written read : List Nat, s.rd HPT_LNK_IDE h = 1 → s.rd HPT_HCFG_IDEMODE h ≠ 0 → Does (.ideCheckFailure h written read) s (fun t =>
        fenced 2 t ∧ t.rd HPT_LNK_IDE h = 2 ∧ t.rd HPT_ERR2_IDEFAIL h = min (s.rd HPT_ERR2_IDEFAIL h + 1) (2 ^ HPT_ERR2_IDEFAIL.w - 1) ∧
        ∀ x ∈ t.ports.ide, x.head ≠ h.val))

/-- PERST of a head that trains or is up, hot reset and loss of the data link on a link that is up, for a head with nothing under way and no
Exclusive line: the link leaves for reset or training, no filter entry names the head, its banked registers are back at reset, its IDE keys
and MSI-X table are gone, its timeout run is 0, and unless it is fenced it is not masked; no line, stored byte or page changes. Elsewhere
PERST only sets its pin. In Factory Test a quad that no head uses enters and leaves a test session with its fields and results; its counters
clear; an injection is counted and sent. -/
def Obligations.HeadResetsAndTests : Prop :=
  ∀ (s : State) (h : Head), s.Calm →
    (s.headLive h = true → s.stopped = false → s.home.evt = [] → s.home.reqs = [] → s.home.snoops = [] → s.home.held = [] →
      (∀ x ∈ s.home.filt, x.2.excl = false) → s.ringsOf h = [] → s.cou.opens = [] → s.fc.mops.find? (fun m => m.head == h.val) = none →
      s.rdB CNT_RING_B_EN = false →
      let done := fun (st : Nat) (t : State) => t.rd HPT_LNK_STATE h = st ∧ (∀ line e, t.home.filt.find line = some e → e.holders.getLsbD h = false) ∧
        (∀ f ∈ bankedFlds, t.rd f h = f.initial s.part h % 2 ^ f.w) ∧ (∀ x ∈ t.ports.ide, x.head ≠ h.val) ∧ t.rd HPT_LNK_IDE h = 0 ∧
        (∀ x ∈ t.ports.msix, x.1 / 512 ≠ h.val) ∧ t.rd HOM_HEAD_TO_RUN h = 0 ∧
        (t.headFenced h = false → t.home.dead.getLsbD h = false) ∧ t.fc = s.fc ∧ t.mem.store = s.mem.store ∧ t.mem.pages = s.mem.pages
      Does (.perstAssert h) s (fun t => done 1 t ∧ t.pins.perstN = s.pins.perstN &&& ~~~(headBit h)) ∧
      (s.linkUp h = true → Does (.hotReset h) s (done 2) ∧
        Does (.dlActiveLost h) s (fun t => done 2 t ∧ t.ports.liftPending = s.ports.liftPending))) ∧
    (s.headLive h = false → Ends (.perstAssert h) s { s with pins := { s.pins with perstN := s.pins.perstN &&& ~~~(headBit h) } }) ∧
    (∀ (dir pat lanes : Nat), s.modeCode = 0 → s.ports.testQuads.contains h.val = false → s.quadHead h = none →
      Ends (.hostTestEnter h dir pat lanes) s { ((((s.wr HPT_PG_EN 1 h).wr HPT_PG_DIR dir h).wr HPT_PG_PAT pat h).wr HPT_PG_LANES lanes h) with
        ports := { s.ports with testQuads := h.val :: s.ports.testQuads } }) ∧
    (∀ res : List Nat, s.ports.testQuads.contains h.val = true → s.quadHead h = none → Does (.hostTestExit h res) s (fun t =>
      t.rd HPT_PG_EN h = 0 ∧ t.ports.testQuads = s.ports.testQuads.filter (· ≠ h.val) ∧
      (∀ j < 4, t.rd HPT_PCNT_ERR (4 * h + j) = min (s.rd HPT_PCNT_ERR (4 * h + j) + (res[3 * j]?).getD 0) (2 ^ HPT_PCNT_ERR.w - 1)) ∧
      RegsKept [HPT_PG_EN, HPT_PCNT_ERR, HPT_PCNT_BITS, HPT_PCNT_LOCK] s t)) ∧
    Does (.hostCounterClear h) s (fun t => (∀ j < 4, t.rd HPT_PCNT_ERR (4 * h + j) = 0 ∧ t.rd HPT_PCNT_BITS (4 * h + j) = 0 ∧
      t.rd HPT_PCNT_LOCK (4 * h + j) = 0) ∧ RegsKept [HPT_PCNT_ERR, HPT_PCNT_BITS, HPT_PCNT_LOCK] s t) ∧
    (∀ lane mode blen : Nat, s.modeCode = 0 → lane < 4 → Ends (.hostErrorInject h lane mode blen) s
      (((((s.wr HPT_INJ_LANE lane h).wr HPT_INJ_MODE mode h).wr HPT_INJ_BLEN blen h).bump HPT_INJ_COUNT 1 h).emit
        (.xfer 6 [h, lane, mode, blen])))

/-! The Headrace. -/

/-- Feeds f are 0 or 1. The first contact above 20 V starts the standby logic, in the phase that the latch and the seat pins give. With both
pins asserted the delay runs; a feed that enters its window shows so with its event; after its delay a feed in window and not stuck-on is
chosen and ramped; a complete ramp waits for power-good. Before power-good a seat pin that de-asserts holds both pairs off without a latch;
of a latched Headrace, both pins' de-assertion and the next assertion of both clear the latch. One pin alone for 1 s raises event 12. The bank
at 68.0 V or more arms the Tailrace with event 51 and clears a charge fault; below 66.0 V it unarms it with event 50; at neither bound is a
change reported twice; 2 s without 68.0 V is a charge fault with event 11. -/
def Obligations.HeadraceStarts : Prop :=
  ∀ s : State, s.Calm → s.pwr.contacts.length = 2 → s.pins.seatN.length = 2 →
    let phase := fun (p : HeadPhase) (x : State) => { x with pwr := { x.pwr with phase := p } }
    let win := fun (f : Nat) => if f = 0 then PWR_STAT_A_WIN else PWR_STAT_B_WIN
    let volt := fun (f : Nat) => if f = 0 then PWR_MON_VA else PWR_MON_VB
    let pin := fun (i : Nat) (high : Bool) (x : State) =>
      { x.wrBit PWR_STAT_SEAT i (!high) with pins := { x.pins with seatN := x.pins.seatN.set i high } }
    (∀ f v : Nat, f < 2 → 200 < v → s.pwr.phase = .off → Does (.feedContactMate f v) s (fun t =>
      t.pwr = { s.pwr with
        contacts := s.pwr.contacts.set f true
        phase := if s.rdB PWR_STAT_LATCH then .latched else if s.pins.seatN = [false, false] then .insertion else .standby } ∧
      t.rd (volt f) = v % 1024 ∧ RegsKept [volt f] s t ∧ t.pins = s.pins)) ∧
    (∀ f v : Nat, (v ≤ 200 ∨ 2 ≤ f) → Ends (.feedContactMate f v) s s) ∧
    (s.pwr.phase = .standby → Ends .seatAssert s (phase .insertion (pin 1 false (pin 0 false s)))) ∧
    (s.pwr.phase = .latched → s.pwr.reseat = true → s.pwr.contacts.any id = true → Does .seatAssert s (fun t =>
      t.rd PWR_STAT_LATCH = 0 ∧ t.rd PWR_STAT_TRIES = 0 ∧ t.pwr = { s.pwr with backoff := false, reseat := false, phase := .insertion } ∧
      t.pins = { s.pins with seatN := [false, false], faultN := true, alertN := true } ∧
      RegsKept [PWR_STAT_LATCH, PWR_STAT_TRIES, PWR_STAT_SEAT] s t)) ∧
    (∀ i < 2, s.rdB PWR_STAT_PG = false →
      (s.pwr.phase = .insertion ∨ s.pwr.phase = .ramp ∨ s.pwr.phase = .ready → Ends (.seatDeassert i) s
        { (pin i true s).wr PWR_STAT_SEL 0 with pwr := { s.pwr with faultTimer := false, phase := .standby } }) ∧
      (s.pwr.phase = .latched → Ends (.seatDeassert i) s (if s.pins.seatN.set i true = [true, true] then
        { pin i true s with pwr := { s.pwr with reseat := true } } else pin i true s)) ∧
      (s.pwr.phase ≠ .off → Ends (.singleSeatTimeout i) s (pwrEvent 12 (pin (1 - i) true (pin i false s))))) ∧
    (∀ f v : Nat, f < 2 → s.pwr.contacts[f]? = some true → s.stuckOn f = false → s.rdB (win f) = false → s.rdB PWR_STAT_OVHOLD = false →
      Ends (.feedWindowEnter f v) s (pwrEvent (2 + f) ((s.wr (volt f) v).wr (win f) 1))) ∧
    (∀ f : Nat, f < 2 → s.pwr.phase = .insertion → s.rdB (win f) = true → s.stuckOn f = false → Ends (.insertionDelayExpiry f) s
      { s.wr PWR_STAT_SEL (f + 1) with pwr := { s.pwr with phase := .ramp, target := f } }) ∧
    (∀ vbus : Nat, s.pwr.phase = .ramp → Ends (.rampComplete vbus) s (phase .ready (s.wr PWR_MON_VBUS vbus))) ∧
    (∀ v ms : Nat,
      let charged := { ((s.wr TLR_STAT_BANKV v).wr PWR_BANK_CTIME (min ms 0xFFFF)).wr PWR_BANK_STATE (if v < 700 then 1 else 2) with
        pwr := { s.pwr with bankTimer := false } }
      (680 ≤ v → Ends (.tailraceArmed v ms) s (if s.rdB TLR_STAT_ARMED then charged else raise 51 (charged.wr TLR_STAT_ARMED 1))) ∧
      (v < 680 → Ends (.tailraceArmed v ms) s s)) ∧
    (∀ v : Nat,
      (v < 660 → Ends (.tailraceUnarmed v) s (if s.rdB TLR_STAT_ARMED then raise 50 ((s.wr TLR_STAT_BANKV v).wr TLR_STAT_ARMED 0)
        else s.wr TLR_STAT_BANKV v)) ∧
      (660 ≤ v → Ends (.tailraceUnarmed v) s s) ∧
      (s.pwr.bankTimer = true → v < 680 → Ends (.bankChargeTimeout v) s
        (pwrEvent 11 { (s.wr TLR_STAT_BANKV v).wr PWR_BANK_STATE 3 with pwr := { s.pwr with bankTimer := false } })))

/-- Feeds f are 0 or 1. A short during ramp, a fast trip and an expired fault timer each open both pairs, clear power-good, record cause, feed,
bus voltage and peak current, count, latch off and assert FAULT_N and ALERT_N, with a try to follow where RETRY and TRIES allow. A try clears
the latch and counts; a rearm clears it too, and without a latch is counted as rejected. A feed in use that leaves its window or is opened by
reverse current hands over to the other feed in window; else it stays in use, or is held open when too high. After the dead time the other pair
conducts if its feed is still in window. A stuck-on feed leaves its window with ALERT_N asserted. The current limit is shown and counted. Loss
of standby power clears latch and marks, keeps what is programmed, and leaves a device that is off. -/
def Obligations.HeadraceProtects : Prop :=
  ∀ s : State, s.Calm →
    let win := fun (f : Nat) => if f = 0 then PWR_STAT_A_WIN else PWR_STAT_B_WIN
    let volt := fun (f : Nat) => if f = 0 then PWR_MON_VA else PWR_MON_VB
    let handTo := fun (f : Nat) (x : State) => { x.wr PWR_STAT_SEL 3 with pwr := { x.pwr with phase := .changeover, target := f } }
    let conducts := s.rd PWR_STAT_SEL = 1 ∨ s.rd PWR_STAT_SEL = 2
    let tripped := fun (cause vout ipk : Nat) (t : State) =>
      t.rd PWR_LAST_CAUSE = cause ∧ t.rd PWR_LAST_FEED = (if s.rd PWR_STAT_SEL = 3 then 0 else s.rd PWR_STAT_SEL) ∧
      t.rd PWR_LAST_VOUT = vout % 1024 ∧ t.rd PWR_LAST_IPK = ipk % 1024 ∧ t.rd PWR_STAT_SEL = 0 ∧ t.rd PWR_STAT_PG = 0 ∧
      t.rd PWR_STAT_LATCH = 1 ∧ t.rd PWR_STAT_ILIM = 0 ∧ t.rd PWR_BANK_STATE = 0 ∧ t.rd PWR_CNT_TRIPS = min (s.rd PWR_CNT_TRIPS + 1) 255 ∧
      t.pwr.phase = .latched ∧ t.pwr.backoff = (s.rdB PWR_CFG_RETRY && decide (s.rd PWR_STAT_TRIES < 3)) ∧
      t.pins = { s.pins with faultN := false, alertN := false } ∧
      RegsKept [PWR_LAST_CAUSE, PWR_LAST_FEED, PWR_LAST_VOUT, PWR_LAST_IPK, PWR_STAT_SEL, PWR_STAT_PG, PWR_STAT_LATCH, PWR_STAT_ILIM,
        PWR_BANK_STATE, PWR_CNT_TRIPS] s t
    (∀ vout ipk : Nat,
      (∀ late : Bool, s.pwr.phase = .ramp → Does (.rampCheckTimeout late vout ipk) s (tripped (if late then 4 else 3) vout ipk)) ∧
      (conducts → Does (.fastTrip vout ipk) s (tripped 1 vout ipk) ∧
        (s.pwr.faultTimer = true → s.rdB PWR_STAT_ILIM = true → Does (.faultTimerExpiry vout ipk) s (tripped 2 vout ipk)))) ∧
    (s.pwr.phase = .latched → s.pwr.backoff = true → Ends .retryBackoffExpiry s (pwrEvent 8
      { (s.wr PWR_STAT_LATCH 0).wr PWR_STAT_TRIES (s.rd PWR_STAT_TRIES + 1) with
        pwr := { s.pwr with backoff := false, phase := if s.pins.seatN = [false, false] then .insertion else .standby } })) ∧
    (s.rdB PWR_STAT_PG = true → Ends .triesResetTimer s (s.wr PWR_STAT_TRIES 0)) ∧
    (s.pwr.phase ≠ .off → (s.rdB PWR_STAT_LATCH = false → Ends .headraceRearm s (s.bump MGT_ERR_SMBREJ 1)) ∧
      (s.rdB PWR_STAT_LATCH = true → s.pwr.contacts.any id = true → Does .headraceRearm s (fun t => t.rd PWR_STAT_LATCH = 0 ∧
        t.rd PWR_STAT_TRIES = 0 ∧ t.pins = { s.pins with faultN := true, alertN := true } ∧
        t.pwr.phase = (if s.pins.seatN = [false, false] then .insertion else .standby) ∧ RegsKept [PWR_STAT_LATCH, PWR_STAT_TRIES] s t))) ∧
    (∀ (f : Nat) (up : Bool) (v : Nat), f < 2 → s.rdB (win f) = true →
      let x := pwrEvent f ((s.wr (volt f) v).wr (win f) 0)
      (¬ (s.pwr.phase = .on ∧ s.rd PWR_STAT_SEL = f + 1) → Ends (.feedWindowExit f up v) s x) ∧
      (s.pwr.phase = .on → s.rd PWR_STAT_SEL = f + 1 → Ends (.feedWindowExit f up v) s
        (if s.rdB (win (1 - f)) then handTo (1 - f) x
         else if up then pwrEvent 13 { (x.wr PWR_STAT_OVHOLD 1).wr PWR_STAT_SEL 0 with pwr := { x.pwr with target := f } }
         else x))) ∧
    (∀ f : Nat, f < 2 → s.pwr.phase = .on → s.rd PWR_STAT_SEL = f + 1 → Ends .reverseCurrent s
      (if s.rdB (win (1 - f)) then handTo (1 - f) s else s.wr PWR_STAT_SEL 0)) ∧
    (s.pwr.phase = .on → s.rd PWR_STAT_SEL = 2 → s.rdB PWR_STAT_A_WIN = true → Ends .feedAReturnTimer s (handTo 0 s)) ∧
    (s.pwr.phase = .changeover → s.pwr.target < 2 → Ends .changeoverDeadTimeEnd s
      (let x := { s with pwr := { s.pwr with phase := .on } };
       if s.rdB (win s.pwr.target) then
         (if s.pwr.target = 0 then pwrEvent 5 ((x.wr PWR_STAT_SEL 1).bump PWR_CNT_CHGA 1)
          else pwrEvent 4 ((x.wr PWR_STAT_SEL 2).bump PWR_CNT_CHGB 1))
       else x.wr PWR_STAT_SEL 0)) ∧
    (∀ f : Nat, f < 2 → s.pwr.phase ≠ .off → s.rd PWR_STAT_SEL ≠ f + 1 → s.stuckOn f = false → Does (.stuckOnDetect f) s (fun t =>
      t.stuckOn f = true ∧ t.rdB (win f) = false ∧ t.pins = { s.pins with alertN := false } ∧
      RegsKept [PWR_STAT_A_STUCK, PWR_STAT_B_STUCK, PWR_STAT_A_WIN, PWR_STAT_B_WIN] s t ∧ t.stuckOn (1 - f) = s.stuckOn (1 - f) ∧
      t.rdB (win (1 - f)) = s.rdB (win (1 - f)))) ∧
    (∀ iin : Nat, (conducts → s.rdB PWR_STAT_ILIM = false → Does (.currentLimitEnter iin) s (fun t => t.rd PWR_STAT_ILIM = 1 ∧
        t.rd PWR_MON_IIN = iin % 1024 ∧ t.rd PWR_CNT_ILIMS = min (s.rd PWR_CNT_ILIMS + 1) 65535 ∧ t.pwr.faultTimer = true ∧ t.pins = s.pins ∧
        RegsKept [PWR_STAT_ILIM, PWR_MON_IIN, PWR_CNT_ILIMS] s t)) ∧
      Ends (.currentLimitExit iin) s ((s.wr PWR_STAT_ILIM 0).wr PWR_MON_IIN iin)) ∧
    (s.rdB PWR_STAT_ILIM = false → Ends .faultTimerClear s { s with pwr := { s.pwr with faultTimer := false } }) ∧
    (s.pwr.converters = true → Ends .downstreamConverterFault s (raise 21 s) ∧ Ends .controllerRailOutOfRegulation s (raise 22 s)) ∧
    Does .standbyPowerLoss s (fun t => t.pwr.phase = .off ∧ t.pwr.converters = false ∧ t.pwr.latched = [] ∧ t.modeCode = 1 ∧
      t.rd PWR_STAT_LATCH = 0 ∧ t.rd PWR_STAT_A_STUCK = 0 ∧ t.rd PWR_STAT_B_STUCK = 0 ∧ t.rd PWR_STAT_PG = 0 ∧
      t.rd PWR_CFG_RETRY = s.rd PWR_CFG_RETRY ∧ t.rd TLR_STAT_ARMED = s.rd TLR_STAT_ARMED ∧ t.home.filt = [] ∧ t.fc.lines = [] ∧
      t.keys.slots = [] ∧ t.mem.durable = s.mem.durable ∧ t.mem.history = s.mem.history)

/-! Modes. -/

/-- For a mailbox that is served and may ask. While a request runs another is refused Busy, RESULT 2. Enter Maintenance leads from 3 or 4 to 5;
Leave Maintenance from 5 to 3 or, with a cause of Degraded Service, 4, and is refused while NOGRADE, SHORT or STFAIL stands; Enter Stop is
refused while its conditions fail, and accepted it stops memory and waits for the requests that slices hold, as Recover does with mode 1. At
step 7 of Stop entry a link taken to L2, or disabled after L2WAIT, leaves the wait; with the last the pads are latched, the Clerks and the
rails are off, and the mode is 6 with the request done. Request Factory Test sets its flag; Initialise Media clears the extent history. -/
def Obligations.ModesMove : Prop :=
  ∀ (s : State) (rt : Route),
    let atStep7 := s.mode.stopStep = 7 ∧ s.stopped = false ∧ s.rdB TLR_STAT_ACTIVE = false ∧ s.mode.planWait = none ∧
      s.cap.auditWalk = none ∧ s.mode.wakeSrc = 0
    let asleep := fun (t : State) => t.modeCode = 6 ∧ t.rd MOD_STATE_PREV = s.modeCode ∧ t.mode.stopStep = 0 ∧ t.rd MOD_PADREL_MHELD = 1 ∧
      t.rd MOD_PADREL_SHELD = 1 ∧ t.rd MOD_CTL_BUSY = 0 ∧ t.rd MOD_CTL_RESULT = 0 ∧ t.pins.held = s.pinLevels ∧ t.post.coresUp = [] ∧
      t.pwr.converters = false ∧ t.rdBit EVT_PEND_PEND (64 % 64) (64 / 64) = true ∧ t.mem = { s.mem with rootMark := t.mem.rootMark } ∧ t.keys = s.keys
    (s.Calm → Attends s rt → s.mayAsk (.box rt) = true →
      let fine := fun (code : Nat) (t : State) => Sends s t (.mbox rt .success 0 []) ∧ t.rd MOD_CTL_REQ = code;
      let ended := fun (t : State) => t.rd MOD_CTL_BUSY = 0 ∧ t.rd MOD_CTL_RESULT = 0 ∧ t.home = s.home ∧ t.fc = s.fc ∧
        RegsKept [ MOD_CTL_REQ, MOD_CTL_BUSY, MOD_CTL_RESULT, MOD_STATE_MCMD] s t;
      let draining := fun (t : State) => t.mode.stopStep = 2 ∧ t.mode.memActive = false ∧ t.rd MOD_CTL_BUSY = 1 ∧ t.home = s.home ∧ t.fc = s.fc ∧
        t.cap.auditWalk = none;
      (s.rdB MOD_CTL_BUSY = true →
        Ends (.enterStop rt) s (reply rt .busy [] (s.wr MOD_CTL_RESULT 2)) ∧
        Ends (.enterMaintenance rt) s (reply rt .busy [] (s.wr MOD_CTL_RESULT 2)) ∧
        Ends (.leaveMaintenance rt) s (reply rt .busy [] (s.wr MOD_CTL_RESULT 2)) ∧
        ∀ e, Ends (.recover rt e) s (reply rt .busy [] (s.wr MOD_CTL_RESULT 2))) ∧
      (s.rdB MOD_CTL_BUSY = false → s.mode.halting = false →
        (s.modeCode = 3 ∨ s.modeCode = 4 → Does (.enterMaintenance rt) s (fun t => fine 2 t ∧ ended t ∧ t.modeCode = 5 ∧
          t.rd MOD_STATE_PREV = s.modeCode ∧ t.rd MOD_STATE_MCMD = 1 ∧ t.rdBit EVT_PEND_PEND (67 % 64) (67 / 64) = true)) ∧
        (s.modeCode ≠ 3 → s.modeCode ≠ 4 → Ends (.enterMaintenance rt) s (reply rt .invalidInput [] (s.wr MOD_CTL_RESULT 1))) ∧
        (s.modeCode = 5 →
          (if s.rdB MED_PLAN_NOGRADE || s.rdB TLR_PLAN_SHORT || s.rdB MOD_STATE_STFAIL then
             Ends (.leaveMaintenance rt) s (reply rt .busy [] (s.wr MOD_CTL_RESULT 3))
           else Does (.leaveMaintenance rt) s (fun t => fine 3 t ∧ ended t ∧ t.rd MOD_STATE_MCMD = 0 ∧
             t.modeCode = (if t.degraded then 4 else 3))) ∧
          ∀ e : PlanEnv,
            (s.rdB HOM_SLMAP_REBUILD = true → Ends (.recover rt e) s (reply rt .busy [] (s.wr MOD_CTL_RESULT 3))) ∧
            (s.rdB HOM_SLMAP_REBUILD = false → s.home.reqs ≠ [] → s.home.held = [] → Does (.recover rt e) s (fun t =>
              fine 4 t ∧ draining t ∧ t.modeCode = 1 ∧ t.rd MOD_STATE_PATH = 2 ∧ t.mode.planEnv = some e))) ∧
        (s.modeCode = 3 ∨ s.modeCode = 4 ∨ s.modeCode = 5 →
          (s.stopAllowed = false → Ends (.enterStop rt) s (reply rt .busy [] (s.wr MOD_CTL_RESULT 3))) ∧
          (s.stopAllowed = true → s.home.reqs ≠ [] → s.home.held = [] → Does (.enterStop rt) s (fun t => fine 1 t ∧ draining t ∧
            RegsKept [ MOD_CTL_REQ, MOD_CTL_BUSY, CAP_AUD_RESULT, CAP_AUD_BUSY] s t))))) ∧
    (atStep7 → ∀ h : Head, s.rd HPT_LNK_STATE h = 3 ∨ s.rd HPT_LNK_STATE h = 4 ∨ s.rd HPT_LNK_STATE h = 6 → Does (.linkL2Enter h) s (fun t =>
      t.rd HPT_LNK_STATE h = (if s.rd HPT_LNK_STATE h = 6 then 6 else 5) ∧ t.ports.l2.getLsbD h = true ∧
      (if s.mode.l2Left &&& ~~~(headBit h) = 0 then asleep t
       else t.mode = { s.mode with l2Left := s.mode.l2Left &&& ~~~(headBit h) } ∧ RegsKept [HPT_LNK_STATE] s t))) ∧
    (atStep7 → Does .l2WaitTimeout s (fun t => asleep t ∧ ∀ h : Head, s.mode.l2Left.getLsbD h = true → t.rd HPT_LNK_STATE h = 1)) ∧
    (s.Calm → Attends s .mgmt →
      Ends (.requestFactoryTest .mgmt false) s (refuse .mgmt 4 s) ∧
      (s.pins.logwpN = false → Ends (.requestFactoryTest .mgmt true) s (refuse .mgmt 1 s)) ∧
      (s.pins.logwpN = true → s.book.run = none → s.flt.queue = [] → s.flt.extra = [] → (writeFactory 1 s).1 = 0 → (∀ x ∈ s.partPages 0, x.2.good = true → x.2.seq ≤ s.book.seq.get 0 0) →
        Does (.requestFactoryTest .mgmt true) s (fun t => t.factoryFlag = true ∧ Sends s t (.mbox .mgmt .success 0 []))) ∧
      (s.modeCode = 0 → s.bgBusy .mgmt = false → Does (.initialiseMedia .mgmt) s (fun t => t.mem.history = [] ∧ t.mem.pages = s.mem.pages ∧
        Sends s t (.mbox .mgmt .background 0 []) ∧ Sends s t (.mbox .mgmt .success 0 [])))  ∧
      (s.modeCode ≠ 0 → Ends (.initialiseMedia .mgmt) s (refuse .mgmt 5 s)))

/-- In Stop with no wake under way. A source whose bit WAKEEN sets starts attempt 1 at step 1 with its source recorded, sources 2 to 5 with
WAKE_N asserted; a source whose bit is clear, a timer of DELAY 0, a feed event that FEEDMASK leaves out and a temperature not above TWAKE start
none. After a failed wake only PERST_N starts another, and releases FAULT_N. Of the steps, step 4 releases the media pads, step 5 has left
self-refresh, step 6 has brought the links up but for those that fail; the last brings back the mode held before Stop, memory, the Clerks and
the sideband pads, with the last-wake record and event 69. A timer that expires in steps 1 to 4 ends the attempt with its code; the next
begins at its retry; after the third the wake has failed, with FAULT_N. -/
def Obligations.WakeRuns : Prop :=
  ∀ s : State, s.Calm → s.modeCode = 6 →
    let wake := fun (src h : Nat) (x : State) => { x with
      mode := { x.mode with wakeSrc := src, wakeHead := h, wakeAt := s.standbyMs, wakeFence := [], coldWake := false, wakeFailed := false
                            wakeAttempt := 1, wakeStep := 1, retryDue := false }
      pwr := { x.pwr with converters := true }
      pins := if 2 ≤ src then { x.pins with wakeN := false } else x.pins }
    let perstPins := fun (h : Head) (p : Bool) => if p then { s.pins with perstN := s.pins.perstN ||| headBit h } else s.pins
    let allows := fun (src : Nat) => s.rdBit MOD_CFG_WAKEEN (src - 1) = true
    (s.mode.wakeAttempt = 0 → s.mode.wakeFailed = false →
      (∀ (h : Head) (p : Bool), s.headExists h = true → allows 1 → Ends (.headWake h p) s (wake 1 h { s with pins := perstPins h p })) ∧
      (allows 2 → Ends .mgmtAddressMatch s (wake 2 0 s)) ∧
      (allows 3 → s.rd MOD_WTIMER_DELAY ≠ 0 → Ends .wakeTimer s (wake 3 0 s)) ∧
      (allows 4 → ∀ e < 14, s.rdBit MOD_CFG_FEEDMASK e = true → Ends (.feedEventWake e) s (wake 4 0 s)) ∧
      (allows 5 → ∀ temp, s.rd MOD_CFG_TWAKE < temp → Ends (.thermalWake temp) s (wake 5 0 s))) ∧
    ((s.rdBit MOD_CFG_WAKEEN 1 = false → Ends .mgmtAddressMatch s s) ∧ (s.rd MOD_WTIMER_DELAY = 0 → Ends .wakeTimer s s) ∧
      (∀ e, s.rdBit MOD_CFG_FEEDMASK e = false → Ends (.feedEventWake e) s s) ∧
      (∀ temp, temp ≤ s.rd MOD_CFG_TWAKE → Ends (.thermalWake temp) s s)) ∧
    (s.mode.wakeAttempt = 0 → s.mode.wakeFailed = true → Ends .mgmtAddressMatch s s ∧
      ∀ h : Head, s.headExists h = true → allows 1 →
        Ends (.headWake h true) s (wake 1 h { s with pins := { perstPins h true with faultN := true } }) ∧ Ends (.headWake h false) s s) ∧
    (∀ (bad : List Nat) (ms : Nat), s.mode.wakeStep ≠ 0 →
      let goes := fun (n : Nat) (x : State) => Ends (.wakeStepDone bad ms) s { x with mode := { s.mode with wakeStep := n } };
      (s.mode.wakeStep = 1 → goes 2 s) ∧ (s.mode.wakeStep = 2 → goes 3 s) ∧
      (s.mode.wakeStep = 3 → s.mode.coldWake = false → goes 4 (s.wr MOD_PADREL_MHELD 0)) ∧
      (s.mode.wakeStep = 4 → goes 5 { s with dram := { s.dram with selfRefresh := false, neigh := [], tally := [] } }) ∧
      (s.mode.wakeStep = 5 → Does (.wakeStepDone bad ms) s (fun t =>
        t.mode = { s.mode with wakeStep := 6, wakeFence := s.mode.wakeFence ++ (bad.filter (· < s.part.stacks)).map (· + 16) } ∧
        (∀ k < 16, t.rd FLM_LNK_STATE k = (if s.stackOn k && !(s.stackFenced k) && !(bad.contains k) then 1 else s.rd FLM_LNK_STATE k)) ∧
        RegsKept [FLM_LNK_STATE, FLM_LNK_ATT] s t)) ∧
      (s.mode.wakeStep = 6 → s.mode.wakeFence = [] → Does (.wakeStepDone bad ms) s (fun t =>
        (t.modeCode = s.rd MOD_STATE_PREV ∨ (serviceMode (s.rd MOD_STATE_PREV) = true ∧ serviceMode t.modeCode = true)) ∧
        t.mode.memActive = true ∧ t.mode.wakeAttempt = 0 ∧ t.rd MOD_PADREL_SHELD = 0 ∧ t.rd MOD_WAKE_OUTCOME = 1 ∧
        t.rd MOD_WAKE_SRC = s.mode.wakeSrc % 8 ∧ t.rd MOD_WAKE_HEAD = s.mode.wakeHead % 16 ∧ t.rd MOD_WAKE_ATTEMPTS = s.mode.wakeAttempt % 4 ∧
        t.rd MOD_WAKE_WAKEMS = min ms 0xFFFF ∧ t.rd MOD_WAKE_T_TIME = s.mode.wakeAt % 2 ^ 48 ∧
        t.rdBit EVT_PEND_PEND (69 % 64) (69 / 64) = true ∧ t.rdBit EVT_PEND_PEND (64 % 64) (64 / 64) = true ∧
        (∀ i < 4, i ∈ t.post.coresUp ↔ i ∉ s.post.coreFence)))) ∧
    (∀ c : Nat, 1 ≤ s.mode.wakeStep → s.mode.wakeStep ≤ 4 → Does (.wakeStepTimeout c []) s (fun t =>
      t.rd MOD_WAKE_FSTEP = s.mode.wakeStep ∧
      t.rd MOD_WAKE_CODE = (if s.mode.wakeStep = 4 then (if s.rdB MOD_PADREL_MHELD then 0x30 else 0x10 + c % 16) else s.mode.wakeStep) ∧
      t.mode.wakeStep = 0 ∧ t.dram.selfRefresh = true ∧ t.pwr.converters = false ∧ t.modeCode = 6 ∧
      (if s.mode.wakeAttempt < 3 then t.mode.retryDue = true ∧ t.pwr.latched = s.pwr.latched ++ [70] ∧ t.pins = s.pins
       else t.mode.wakeFailed = true ∧ t.mode.wakeAttempt = 0 ∧ t.rd MOD_WAKE_OUTCOME = 2 ∧ t.pwr.latched = s.pwr.latched ++ [70, 71] ∧
         t.pins = { s.pins with faultN := false }))) ∧
    (s.mode.retryDue = true → Ends .wakeRetry s { s with mode := { s.mode with wakeAttempt := s.mode.wakeAttempt + 1, wakeStep := 1, retryDue := false }, pwr := { s.pwr with converters := true } })

/-- Power-good, Cold Restart outside the modes that serve, and End Factory Test run Cold Start: nothing is left in filters or front cache, STARTMS
shows the time, the mode is 1, or 0 with the factory-test flag (or already 2, when the Logbook holds the same plan); a failed lockstep check stops it
with FAULT_N. A feed-loss or seat-loss trigger of a part without persistence, or in a mode that serves no host, switches every rail off; on a
persistent part that serves, with nothing dirty but a stripe still to verify, it runs the flush to step 4 under its cause, as a Cold Restart does
under cause 0. GPF Phase 1 is answered; Phase 2 starts a flush that leaves front cache and home as they are. The bank at VABORT ends a flush before
step 6 and switches off. Configure with an acceptable image serves hosts in mode 3, 4 or 5 as its table says; without the Tailrace armed it waits. -/
def Obligations.StartsAndFlushes : Prop :=
  ∀ s : State,
    let started := fun (flag : Bool) (e : ColdEnv) (t : State) =>
      (t.modeCode = (if flag then 0 else 1) ∨ t.modeCode = 2) ∧ t.rd MOD_STATE_STARTMS = min e.ms 0xFFFF ∧ t.home.filt = [] ∧ t.home.reqs = [] ∧
      t.fc.lines = [] ∧ t.pwr.converters = true ∧ t.pins.faultN = true ∧ t.mem.history = s.mem.history
    let stuck := fun (t : State) => t.modeCode = 1 ∧ t.mode.starting = true ∧ t.pins.faultN = false ∧ t.home.filt = [] ∧ t.fc.lines = []
    let dark := fun (t : State) => t.modeCode = 1 ∧ t.rd PWR_STAT_PG = 0 ∧ t.rd PWR_STAT_SEL = 0 ∧ t.pwr.converters = false ∧ t.home.filt = [] ∧
      t.fc.lines = [] ∧ t.keys.slots = [] ∧ t.mem.durable = s.mem.durable ∧ t.mem.history = s.mem.history
    let clean := s.stopped = false ∧ s.part.persist = true ∧ s.home.reqs = [] ∧ s.work = [] ∧ s.fc.wbuf = [] ∧
      (∀ x ∈ s.fc.lines, x.2.dirty = false) ∧ ∃ x ∈ s.media.slots, x.stream = 0 ∧ x.left ≠ 0
    let waits := fun (cause : Nat) (t : State) => t.rd TLR_STAT_ACTIVE = 1 ∧ t.rd TLR_STAT_CAUSE = cause ∧ t.rd TLR_STAT_STEP = 4 ∧
      t.mode.memActive = false ∧ t.home.filt = [] ∧ t.home.snoops = [] ∧ t.rdBit EVT_PEND_PEND 48 0 = true ∧ t.mem.pages = s.mem.pages
    (s.Calm →
      (∀ e : ColdEnv, s.pwr.phase = .ready → s.rdB PWR_STAT_ILIM = false → s.pins.seatN = [false, false] →
        (e.lockstep = true → planGrade e.plan ≠ none → Does (.powerGood e) s (fun t => started s.factoryFlag e t ∧ t.rd PWR_STAT_PG = 1 ∧
          t.rd PWR_BANK_STATE = 1 ∧ t.pwr.phase = .on ∧ t.pwr.bankTimer = true)) ∧
        (e.lockstep = false → Does (.powerGood e) s stuck)) ∧
      (∀ e : ColdEnv, s.rdB PWR_STAT_PG = true → s.rdB MOD_CTL_BUSY = false → s.dead = false → s.post.coresUp ≠ [] → s.post.restarting = false →
        (s.modeCode = 1 ∨ s.modeCode = 2 ∨ s.modeCode = 7 → e.lockstep = true → planGrade e.plan ≠ none →
          Does (.coldRestart .mgmt e) s (fun t => started s.factoryFlag e t ∧ Sends s t (.mbox .mgmt .success 0 []))) ∧
        (s.modeCode = 3 ∨ s.modeCode = 4 ∨ s.modeCode = 5 → clean → Does (.coldRestart .mgmt e) s (fun t => waits 0 t ∧
          t.flush.restart = true ∧ Sends s t (.mbox .mgmt .success 0 [])))) ∧
      (∀ e : ColdEnv, Attends s .mgmt → s.modeCode = 0 → s.mode.memActive = false → s.rdB MOD_CTL_BUSY = false → s.book.run = none → (writeFactory 0 s).1 = 0 →
        (∀ x ∈ s.partPages 0, x.2.good = true → x.2.seq ≤ s.book.seq.get 0 0) → e.lockstep = true → planGrade e.plan ≠ none →
        Does (.endFactoryTest .mgmt e) s (fun t => started false e t ∧ Sends s t (.mbox .mgmt .success 0 []))) ∧
      (s.part.persist = false ∨ s.modeCode = 1 ∨ s.modeCode = 2 ∨ s.modeCode = 6 ∨ s.modeCode = 7 →
        (s.powered = true → Does .feedLossTrigger s dark) ∧ (∀ i < 2, s.rdB PWR_STAT_PG = true → Does (.seatLossTrigger i) s dark)) ∧
      (s.modeCode = 0 ∨ s.modeCode = 3 ∨ s.modeCode = 4 ∨ s.modeCode = 5 → clean →
        (s.powered = true → Does .feedLossTrigger s (fun t => waits 1 t ∧ t.rd PWR_STAT_SEL = 0 ∧ t.rd PWR_BANK_STATE = 0)) ∧
        (∀ i < 2, s.rdB PWR_STAT_PG = true → Does (.seatLossTrigger i) s (fun t => waits 2 t ∧ t.rd PWR_STAT_SEL = 0))) ∧
      (∀ h : Head, s.part.persist = true → s.stopped = false → s.rd HPT_LNK_STATE h = 4 →
        Ends (.gpfPhase1 h) s (s.emit (.gpfRsp h 1)) ∧
        (clean → Does (.gpfPhase2 (headBit h)) s (fun t => t.rd TLR_STAT_ACTIVE = 1 ∧ t.rd TLR_STAT_CAUSE = 3 ∧ t.rd TLR_STAT_STEP = 4 ∧
          t.flush.gpfHeads = headBit h ∧ t.ports.heldMem = s.ports.heldMem ||| headBit h ∧ t.home = s.home ∧ t.fc = s.fc ∧
          t.mode = s.mode ∧ t.rdBit EVT_PEND_PEND 48 0 = true))) ∧
      (∀ v : Nat, Ends (.bankVabort v) s (s.wr TLR_STAT_BANKV v)) ∧
      (s.modeCode = 2 → s.rdB TLR_STAT_ARMED = false → Ends .configureComplete s s) ∧
      (s.modeCode = 2 → s.stopped = false → s.rdB TLR_STAT_ARMED = true → s.post.applying = none → s.post.rollback = false → ∀ n, s.post.image = some n →
        let b := s.slotImage n;
        imgCheck6 b (carve b s) = 0 → compatible b false s.liveTable = true → Does .configureComplete s (fun t =>
          t.mode.memActive = true ∧ t.post.live = b ∧ t.post.image = some n ∧ t.rd MOD_STATE_MCMD = 0 ∧
          t.modeCode = (if s.rdB MED_PLAN_NOGRADE || s.rdB TLR_PLAN_SHORT || s.rdB MOD_STATE_STFAIL then 5 else if t.degraded then 4 else 3) ∧
          ∀ h : Head, t.headExists h = true → t.rd HPT_LNK_STATE h ≠ 0))) ∧
    (∀ v : Nat, s.powerFlush = true → s.flush.restart = false → s.rd TLR_STAT_STEP < 6 → v ≤ s.rd TLR_PLAN_VABORT → v < 1024 →
      s.cap.auditWalk = none → Does (.bankVabort v) s (fun t => dark t ∧ t.rd TLR_STAT_BANKV = v ∧ t.flush.lastCause = s.rd TLR_STAT_CAUSE))

/-! Tokens and counters: two rules as they stand. -/

/-- Of each token resource r, for each head h and class c. With a token in its own bucket the request takes it and is not demoted. Without, and
not of Express, it borrows one from the pool, where that has one, and is not demoted. Else it is demoted and the resource is as it was:
an Express request whose bucket is empty always is, whatever the pool holds. No other resource changes. A demoted access stands at level
4, Overdraft, and one that is not keeps the level of its class; a DRAM read enters its channel's queue so marked. -/
def Obligations.TokensAreTakenBorrowedOrDemoted : Prop :=
  ∀ (s : State) (r : Nat) (h : Head) (c : Cls), r < 3 →
    let key := 4 * h.val + c.code
    let b := (s.tok r).buckets.get key 0
    let y := (charge r h c s).2
    let demoted := (charge r h c s).1
    (0 < b → demoted = false ∧ (y.tok r).buckets.get key 0 = b - 1 ∧ (∀ k ≠ key, (y.tok r).buckets.get k 0 = (s.tok r).buckets.get k 0) ∧
      y.tok r = { s.tok r with buckets := (y.tok r).buckets, spent := (s.tok r).spent + 1 }) ∧
    (b = 0 → c ≠ .express → 0 < (s.tok r).pool → demoted = false ∧
      y.tok r = { s.tok r with pool := (s.tok r).pool - 1, spent := (s.tok r).spent + 1 }) ∧
    (b = 0 → (c = .express ∨ (s.tok r).pool = 0) → demoted = true ∧ y.tok r = s.tok r) ∧
    (c = .express → (y.tok r).pool = (s.tok r).pool) ∧
    (∀ q < 3, q ≠ r → y.tok q = s.tok q) ∧
    (∀ a : DAcc, a.aged = false → a.cls = some c → a.level = if a.ovd then 4 else c.code) ∧
    (∀ src addr : Nat, r = 0 → s.Calm → s.dramUp = true → addr < s.part.dramParcels * 512 →
      s.channelFenced (addrChannel s (addr / 64 * 64)) = false → (∀ a ∈ s.dram.held, a.src ≠ src) →
      (∀ a ∈ s.writeQ (addrChannel s (addr / 64 * 64)), a.addr ≠ addr / 64 * 64) → (s.readQ (addrChannel s (addr / 64 * 64))).length < 128 →
      Does (.dramRead src addr h c.code) s (fun t => t.tok 0 = y.tok 0 ∧ ∃ a ∈ t.readQ (addrChannel s (addr / 64 * 64)),
        a.id = s.dram.nextId ∧ a.cls = some c ∧ a.ovd = demoted ∧ a.aged = false))

/-- While FREEZE is 1 no occurrence of any event changes anything, and no cycle changes a counter that counts by itself; CLR still clears.
While it is 0, outside Stop and Halt, the one counter that counts an occurrence rises by its amount at once. By the Clerks, or on a route that
may write protected fields: FREEZE takes the value written; SNAP copies all 256 values in that one step, SNAPSEQ rises by one and SNAPTS is
the device timestamp; CLR makes every counter zero and clears every bit of CNT_SAT in that one step. The three are PST fields, and Write
Protected Field of each is that command. -/
def Obligations.FreezeSnapAndClear : Prop :=
  CNT_CTL_FREEZE.acc = .pst ∧ CNT_CTL_SNAP.acc = .pst ∧ CNT_CTL_CLR.acc = .pst ∧
  (∀ (s : State) (ev n unit i : Nat) (who : Option (Nat × Nat)),
    (s.rdB CNT_CTL_FREEZE = true → count ev who unit n s = s ∧ freeCount i s = s) ∧
    (s.rdB CNT_CTL_FREEZE = false → s.modeCode ≠ 6 → s.stopped = false → s.cnt.live = [i] → s.cntPasses i ev who unit = true →
      s.rd CNT_VAL_VALUE i + n < 2 ^ 48 → count ev who unit n s = s.wr CNT_VAL_VALUE (s.rd CNT_VAL_VALUE i + n) i)) ∧
  ∀ (s : State) (rt : Option Route),
    (match rt with | none => s.post.coresUp ≠ [] ∧ s.stopped = false | some r => Attends s r ∧ s.hostw r = true) →
    let counted := fun (x : State) => match rt with
      | some r => reply r .success [] (x.bump PST_CALLS_DONE 1)
      | none => x.bump PST_CALLS_DONE 1
    (∀ v : Bool, exec (.counterFreeze rt v) s = .next (settle (counted (s.wr CNT_CTL_FREEZE v.toNat)))) ∧
    (∃ x, exec (.counterSnapshot rt) s = .next (settle (counted x)) ∧ (∀ i < 256, x.rd CNT_SNAP_VALUE i = s.rd CNT_VAL_VALUE i) ∧
      x.rd CNT_CTL_SNAPSEQ = (s.rd CNT_CTL_SNAPSEQ + 1) % 2 ^ 32 ∧ x.rd CNT_SNAPTS_TIME = s.stamp ∧ x = { s with regs := x.regs } ∧
      ∀ (f : Fld) (i : Nat), f.id ≠ CNT_SNAP_VALUE.id → f.id ≠ CNT_CTL_SNAPSEQ.id → f.id ≠ CNT_SNAPTS_TIME.id → x.rd f i = s.rd f i) ∧
    (∃ x, exec (.counterClear rt) s = .next (settle (counted x)) ∧ (∀ i < 256, x.rd CNT_VAL_VALUE i = 0) ∧ (∀ j < 4, x.rd CNT_SAT_SAT j = 0) ∧
      x = { s with regs := x.regs } ∧
      ∀ (f : Fld) (i : Nat), f.id ≠ CNT_VAL_VALUE.id → f.id ≠ CNT_SAT_SAT.id → x.rd f i = s.rd f i) ∧
    (∀ (r : Route) (e : ColdEnv), rt = some r →
      (∀ v < 2, exec (.writeProtectedField r 0x910000 1 v e) s = exec (.counterFreeze rt (v == 1)) s) ∧
      exec (.writeProtectedField r 0x910000 2 2 e) s = exec (.counterSnapshot rt) s ∧
      exec (.writeProtectedField r 0x910000 4 4 e) s = exec (.counterClear rt) s)

/-! The Postmaster and the Clerks. -/

/-- A call of a running core is answered with its result and counted: a field write that its checks allow gives each field its new value and one
they refuse changes nothing; a mode request and a secured message act as their own rules say. A restart asked for, an exception and an expired
watchdog stop every core, abort the background commands and a transfer, and are counted; a second expiry within an hour fences the core first.
Checked firmware starts the cores that are not fenced, a failed digest leaves them off. A lockstep mismatch halts with its record held. A transfer
erases the other slot's record, takes data in order, and ends with the checks; with LOGWP_N asserted it is refused. An image of live sections only
takes effect at once; another begins its drain; a rollback takes the previous slot. The Logbook is assumed to take the writes. -/
def Obligations.PostmasterServes : Prop :=
  ∀ s : State, s.Calm → s.stopped = false →
    let on := fun (n : Nat) (t : State) => t.rdBit EVT_PEND_PEND (n % 64) (n / 64) = true
    let restarted := fun (t : State) => t.post.restarting = true ∧ t.post.coresUp = [] ∧ t.post.transfer = none ∧ t.mgt.exporting = none ∧
      t.cap.auditWalk = none ∧ t.mgt.background = [] ∧ (∀ x ∈ s.mgt.background, Sends s t (.mbox x.2 .aborted 0 [])) ∧ on 85 t ∧
      t.rd PST_STAT_RESTARTS = min (s.rd PST_STAT_RESTARTS + 1) (2 ^ PST_STAT_RESTARTS.w - 1) ∧ t.home = s.home ∧ t.fc = s.fc ∧ t.mem.pages = s.mem.pages
    let passes := fun (n : Nat) (back : Bool) => s.rdB MOD_CTL_BUSY = false ∧ s.pins.logwpN = true ∧ n < 2 ∧
      (s.slotState n = 3 ∨ (s.slotState n = 1 ∧ back = false)) ∧ imgCheck6 (s.slotImage n) s = 0 ∧ compatible (s.slotImage n) back s.liveTable = true
    let liveOk := fun (n : Nat) => s.serving = true ∧ s.post.image ≠ none ∧ liveOnly s.post.live (s.slotImage n) = true ∧ (makeCurrent n s).1 = true ∧
      sect s.post.live 0x20 = sect (s.slotImage n) 0x20
    let applied := fun (n : Nat) (t : State) => t.post.live = s.slotImage n ∧ t.post.image = some n ∧ on 81 t ∧ t.mem.pages = s.mem.pages ∧ t.home = s.home
    (∀ core ∈ s.post.coresUp,
      let answers := fun (res : Nat) (x : State) =>
        (if res = 0 then x.bump PST_CALLS_DONE 1 else x.bump PST_CALLS_REFUSED 1).emit (.mgmt 3 [core, res]);
      (∀ (off mask v i : Nat) (e : ColdEnv) (d : RegDef), regAt off = some (d, i, 0) → d.banked = false → s.regAbsent d i = false →
        (∀ r, s.pstRefusal d i mask v = some r → Ends (.callWriteField core none off mask v e) s (answers r s)) ∧
        (∀ rt, s.hostw rt = false → Ends (.callWriteField core (some rt) off mask v e) s (answers 1 s)) ∧
        (let hit := d.fields.filter (fun f => f.part mask != 0);
         s.pstRefusal d i mask v = none → hit.all (fun f => !(f.among actionFlds) && f.budget.isNone) = true → d.name ≠ "FLM_TAP" →
          Does (.callWriteField core none off mask v e) s (fun t => (∀ f ∈ hit, t.rd f i = s.newValue f i mask v % 2 ^ f.w) ∧
            Sends s t (.mgmt 3 [core, 0]) ∧ ∀ (f : Fld) (j : Nat), closingFlds.contains f.id = false → f.id ≠ PST_CALLS_DONE.id →
              (j ≠ i ∨ ∀ g ∈ hit, g.id ≠ f.id) → t.rd f j = s.rd f j))) ∧
      (∀ (e : ColdEnv) (code : Nat), (code = 0 ∨ 5 < code → Ends (.callModeRequest core none code e) s (answers 2 s)) ∧
        (s.modeCode = 3 ∨ s.modeCode = 4 → s.rdB MOD_CTL_BUSY = false → Does (.callModeRequest core none 2 e) s (fun t => t.modeCode = 5 ∧
          t.rd MOD_STATE_MCMD = 1 ∧ Sends s t (.mgmt 3 [core, 0])))) ∧
      (∀ side : Route, Ends (.callSecuredMessage core side) s (if s.inSession side then
        answers 0 ({ s with free := s.free + 1 }.emit (.mgmt 4 [Config.freeValue s.free])) else answers 1 s)) ∧
      (∀ (off : Nat) (data : List Byte) (tr : Transfer), s.post.transfer = some tr → s.pins.logwpN = true → data.length ≤ 4096 →
        off + data.length ≤ 786432 → (logWriteNow (1 + tr.slot) (256 + off) data s).1 = 0 → Does (.callStageImage core off data) s (fun t =>
          t.post.transfer = some { tr with offset := off + data.length } ∧ Sends s t (.mgmt 3 [core, 0]))) ∧
      (∀ n, passes n false → liveOk n → Does (.callApplyImage core none (some n)) s (fun t => applied n t ∧ Sends s t (.mgmt 3 [core, 0]))) ∧
      Does (.callClerkRestart core) s (fun t => restarted t ∧ Sends s t (.mgmt 3 [core, 0])) ∧
      (s.post.restarting = false → Does (.clerkException core) s restarted ∧
        Ends (.clerkWatchdogRefresh core) s { s with post := { s.post with watchdog := s.post.watchdog.put core s.standbyMs } } ∧
        ((∀ x, s.post.lastExpiry.find core = some x → x + 3600000 ≤ s.standbyMs) → Does (.clerkWatchdogExpiry core) s (fun t => restarted t ∧
          t.post.lastExpiry.find core = some s.standbyMs ∧ t.post.coreFence = s.post.coreFence)) ∧
        (∀ x, s.post.lastExpiry.find core = some x → s.standbyMs < x + 3600000 → s.rdB FLT_U_FATAL (unitIdx 8 core) = false →
          Does (.clerkWatchdogExpiry core) s (fun t => restarted t ∧ core ∈ t.post.coreFence ∧ t.rd FLT_U_FATAL (unitIdx 8 core) = 1 ∧ on 86 t)))) ∧
    (s.post.restarting = true → Ends (.clerkFirmwareLoaded false) s (raise 86 { s with post := { s.post with restarting := false } }) ∧
      Does (.clerkFirmwareLoaded true) s (fun t => t.post.restarting = false ∧ (∀ i < 4, i ∈ t.post.coresUp ↔ i ∉ s.post.coreFence) ∧
        RegsKept [PST_FW_CLVER] s t)) ∧
    (s.modeCode ≠ 6 → s.pwr.converters = true → s.post.heldHalt = none → Does .lockstepMismatch s (fun t => t.modeCode = 7 ∧
      t.pins = { s.pins with faultN := false } ∧ t.keys.slots = [] ∧ t.keys.metaKey = none ∧ t.mode.memActive = false ∧ t.rd MIL_HALT_A_CAUSE = 4 ∧
      t.post.heldHalt ≠ none ∧ on 76 t ∧ t.mem.pages = s.mem.pages ∧ t.mem.store = s.mem.store ∧
      ∀ h : Head, s.headFenced h = false → s.rd HPT_LNK_STATE h ≠ 0 → Sends s t (.viral h))) ∧
    (∀ rt : Route, Attends s rt → s.hostw rt = true →
      (∀ (act off : Nat) (data : List Byte),
        (s.pins.logwpN = false → Ends (.transferImage rt act off data) s (refuse rt 1 (raise 83 (s.wr PST_STAT_RESULT 8)))) ∧
        (s.pins.logwpN = true → s.post.transfer = none → s.post.applying = none → (transferStart (some rt) false s).1 = 0 →
          (stage 0 data (transferStart (some rt) false s).2).1 = 0 → Does (.transferImage rt 0 0 data) s (fun t =>
            t.post.transfer = some ⟨s.otherSlot, data.length, some rt, false⟩ ∧ t.rd PST_STAT_STAGING = 1 ∧ Sends s t (.mbox rt .success 0 []))) ∧
        (∀ slot offset : Nat, s.pins.logwpN = true → s.post.transfer = some ⟨slot, offset, some rt, false⟩ →
          Does (.transferImage rt 3 off data) s (fun t => t.post.transfer = none ∧ t.rd PST_STAT_STAGING = 0 ∧ Sends s t (.mbox rt .success 0 [])) ∧
          (act = 1 ∨ act = 2 → off ≠ offset → Ends (.transferImage rt act off data) s (reply rt .dataTransferOutOfOrder [] s)) ∧
          ((stage offset data s).1 = 0 → (transferEnd ((stage offset data s).2.bump PST_CALLS_DONE 1)).1 = 0 →
            Does (.transferImage rt 2 offset data) s (fun t => t.post.transfer = none ∧ on 80 t ∧ Sends s t (.mbox rt .success 0 []))))) ∧
      (∀ n, passes n false →
        (liveOk n → Does (.applyImage rt n) s (fun t => applied n t ∧ Sends s t (.mbox rt .success 0 []))) ∧
        (liveOnly s.post.live (s.slotImage n) = false → s.modeCode = 3 ∨ s.modeCode = 4 ∨ s.modeCode = 5 → s.stopAllowed = true →
          s.home.reqs ≠ [] → s.home.held = [] → Does (.applyImage rt n) s (fun t => t.post.applying = some n ∧ t.modeCode = 2 ∧
            t.mode.stopStep = 2 ∧ t.mode.memActive = false ∧ t.rd MOD_CTL_BUSY = 1 ∧ t.rd PST_STAT_APPLYING = 1 ∧ Sends s t (.mbox rt .success 0 [])))) ∧
      (∀ n, [0, 1].find? (fun k => s.slotState k == 3) = some n → passes n true → liveOk n →
        Does (.rollBackImage rt) s (fun t => applied n t ∧ on 84 t ∧ Sends s t (.mbox rt .success 0 []))) ∧
      ([0, 1].find? (fun k => s.slotState k == 3) = none →
        Ends (.rollBackImage rt) s (reply rt .invalidInput [] ((raise 83 (s.wr PST_STAT_RESULT 9)).bump PST_CALLS_REFUSED 1)))) ∧
    (Attends s .mgmt →
      (∀ comp ≠ 1, Ends (.pldmRequestUpdate comp) s (s.emit (.mgmt 2 [2]))) ∧
      (s.post.transfer = none → s.post.applying = none → s.pins.logwpN = true → (transferStart none true s).1 = 0 → Does (.pldmRequestUpdate 1) s (fun t =>
        t.post.transfer = some ⟨s.otherSlot, 0, none, true⟩ ∧ Sends s t (.mgmt 2 [0]))) ∧
      (∀ (data : List Byte) (slot offset : Nat), s.post.transfer = some ⟨slot, offset, none, true⟩ → (stage offset data s).1 = 0 →
        Does (.pldmFwData data false) s (fun t => t.post.transfer = some ⟨slot, offset + data.length, none, true⟩ ∧ Sends s t (.mgmt 2 [0]) ∧
          (offset = 0 → on 994 t))) ∧
      Ends (.pldmActivateFirmware true) s (s.emit (.mgmt 2 [2])) ∧
      (s.slotState s.otherSlot = 1 → liveOnly s.post.live (s.slotImage s.otherSlot) = false →
        Ends (.pldmActivateFirmware false) s (s.emit (.mgmt 2 [3]))) ∧
      (s.slotState s.otherSlot = 1 → passes s.otherSlot false → liveOk s.otherSlot → Does (.pldmActivateFirmware false) s (fun t =>
        applied s.otherSlot t ∧ Sends s t (.mgmt 2 [0]))))

/-! Faults, poison, event logs, the Logbook. -/

/-- An acknowledgement clears the flags it names in that unit alone; of FATAL while the unit's fence steps run it is refused. A fence whose FATAL is
acknowledged and that no further cause joined is lifted: mask and run cleared, event 28. A bucket above 0 drains by one unless its unit is fenced. An
export begins as a background command on the DMA channel, and with its last line written ends with event 998. The poison list is the records in
the view; injection, in Factory Test, poisons a cached line with a record of cause 13, and a clear writes it whole and removes the record; outside it
both are Unsupported. Event records read oldest first, clear as asked, and their policy reads as set. A tier engine state error halts at once. -/
def Obligations.FaultCommandsAct : Prop :=
  ∀ s : State, s.Calm →
    let on := fun (n : Nat) (t : State) => t.rdBit EVT_PEND_PEND (n % 64) (n / 64) = true
    (∀ (rt : Option Route) (kind i m : Nat),
      (match rt with | none => s.post.coresUp ≠ [] ∧ s.stopped = false | some r => Attends s r ∧ s.hostw r = true) →
      let u := unitIdx kind i;
      let clear := fun (b : Nat) (f : Fld) (x : State) => if m.testBit b then x.wr f 0 u else x;
      let ok := fun (x : State) => match rt with | some r => reply r .success [] (x.bump PST_CALLS_DONE 1) | none => x.bump PST_CALLS_DONE 1;
      let no := fun (x : State) => match rt with | some r => reply r .invalidInput [] (x.bump PST_CALLS_REFUSED 1) | none => x.bump PST_CALLS_REFUSED 1;
      (m.testBit 2 = false ∨ s.fencing u = false → Ends (.faultAcknowledge rt kind i m) s
        (ok (clear 2 FLT_U_FATAL (clear 1 FLT_U_CONT (clear 0 FLT_U_CORR s))))) ∧
      (m.testBit 2 = true → s.fencing u = true → Ends (.faultAcknowledge rt kind i m) s (no s))) ∧
    (∀ (rt : Route) (h : Head), Attends s rt → s.hostw rt = true →
      (s.headFenced h = true → s.rdB FLT_U_FATAL (unitIdx 1 h) = false → s.ports.moreCause.getLsbD h = false → Ends (.liftHeadFence rt h) s
        (raise 28 (reply rt .success [] { (s.wr HOM_HEAD_DEAD 0 h).wr HOM_HEAD_TO_RUN 0 h with
          home := { s.home with dead := s.home.dead &&& ~~~(headBit h) }
          ports := { s.ports with liftPending := s.ports.liftPending ||| headBit h } }))) ∧
      (s.headFenced h = false ∨ s.rdB FLT_U_FATAL (unitIdx 1 h) = true ∨ s.ports.moreCause.getLsbD h = true →
        Ends (.liftHeadFence rt h) s (reply rt .invalidInput [] s)) ∧
      (∀ addr : Nat, s.bgBusy rt = false → s.mgt.exporting = none → s.serving = true → addr % 64 = 0 → s.headExists h = true → s.headFenced h = false →
        s.postOk h addr 65600 = true → Does (.exportDeadLetters rt h addr) s (fun t => t.mgt.exporting = some (rt, ⟨h, addr, s.exportBytes⟩) ∧
          t.mgt.background = s.mgt.background ++ [(0xC021, rt)] ∧ Sends s t (.mbox rt .background 0 []) ∧
          (s.cnt.dump = none → t.rd MGT_DMA_USER = 1 ∧ t.rd MGT_DMA_HEAD = h) ∧ t.flt.dead = s.flt.dead))) ∧
    (∀ (rt : Route) (d : Dma) (rg : Region) (line k : Nat) (l : FcLine), s.stopped = false → s.cnt.dump = none → s.cnt.due = none →
      s.mgt.exporting = some (rt, d) → (0xC021, rt) ∈ s.mgt.background → s.headFenced d.head = false → d.addr % 64 = 0 → d.data.length = 64 →
      s.postOk d.head d.addr 64 = true → rg.typ ≠ 1 → LineAtHand s d.head (d.addr / 64) rg line k l → Does .exportComplete s (fun t =>
        t.mgt.exporting = none ∧ Sends s t (.mbox rt .success 0 []) ∧ on 998 t ∧ t.rd MGT_DMA_USER = 0 ∧
        ∃ l', t.fc.lines.find k = some l' ∧ l'.dirty = true ∧ l'.poison = false ∧ l'.data = regionRound rg fullMask (bytesLine d.data))) ∧
    (∀ b < 609,
      let u := if b < 64 then unitIdx 3 (b / 4) else if b < 592 then unitIdx 4 ((b - 64) / 33) else unitIdx 2 (b - 592);
      Ends (.bucketDrain b) s (if s.rdB FLT_U_FENCED u then s else s.wr FLT_BKT_LVL_LEVEL (s.rd FLT_BKT_LVL_LEVEL b - 1) b)) ∧
    (∀ (h : Head), Attends s (.head h) →
      let rt := Route.head h;
      (∀ skip : Nat, let l := (s.flt.dead.filter (fun d => s.inHeadView h d.line)).drop skip;
        l.length ≤ 254 → Ends (.getPoisonList rt skip) s (reply rt .success ([0, s.rd FLT_DLS_OVF, s.rd FLT_DLS_OVT_TIME, l.length] ++
          l.flatMap (fun d => [s.headLine h d.line, if d.page then 64 else 1, poisonSource d.cause])) s)) ∧
      (∀ (haddr : Nat) (data : Line),
        (s.modeCode ≠ 0 → Ends (.injectPoison rt haddr) s (reply rt .unsupported [] s) ∧ Ends (.clearPoison rt haddr data) s (reply rt .unsupported [] s)) ∧
        (s.modeCode = 0 → ∀ (r : Region) (line k : Nat) (l : FcLine), s.view h haddr = some (r, line) → s.fcFind line = some k →
          s.fc.lines.find k = some l →
          Does (.injectPoison rt haddr) s (fun t => t.fc.lines.find k = some { l with dirty := true, poison := true, mask := fullMask, data := 0 } ∧
            (s.flt.dead.any (fun d => d.covers line) = false → s.flt.dead.length < 4096 → t.flt.dead = s.flt.dead ++ [⟨line, false, 13, 0, s.stamp⟩]) ∧
            Sends s t (.mbox rt .success 0 [])) ∧
          Does (.clearPoison rt haddr data) s (fun t => (∃ l', t.fc.lines.find k = some l' ∧ l'.dirty = true ∧ l'.poison = false ∧
              l'.mask = l.mask ||| fullMask ∧ l'.data = regionRound r (l.mask ||| fullMask) (mergeLine l.data data fullMask)) ∧
            t.flt.dead = s.flt.dead.filter (fun d => d.page || d.line ≠ line) ∧ Sends s t (.mbox rt .success 0 [])))) ∧
      (∀ n < 4,
        let log := s.evt.logs.get (h * 4 + n) [];
        (log.length ≤ 31 → Ends (.getEventRecords rt n) s (reply rt .success ([0, s.evt.overflow.get (h * 4 + n) 0, log.length] ++
          log.flatMap (fun r => [r.src, r.unit, r.count])) s)) ∧
        (∀ count : Nat, log.length < count → Ends (.clearEventRecords rt n count false) s (reply rt .invalidHandle [] s)) ∧
        (∀ (count : Nat) (all : Bool), all = true ∨ count ≤ log.length → Ends (.clearEventRecords rt n count all) s (reply rt .success []
          { s with evt := { s.evt with logs := s.evt.logs.put (h * 4 + n) (if all then [] else log.drop count)
                                       overflow := s.evt.overflow.put (h * 4 + n) 0 } }))) ∧
      Ends (.getEventInterruptPolicy rt) s (reply rt .success ((List.range 4).map (fun n => s.evt.policy.get (h * 4 + n) 0)) s) ∧
      (∀ pols : List Nat, pols.length = 4 → (∀ p ∈ pols, p % 16 ≤ 2 ∧ p / 16 < 128) → Does (.setEventInterruptPolicy rt pols) s (fun t =>
        (∀ n < 4, some (t.evt.policy.get (h * 4 + n) 0) = pols[n]?) ∧ Sends s t (.mbox rt .success 0 []) ∧ RegsKept [] s t)) ∧
      (∀ pols : List Nat, pols.length ≠ 4 → Ends (.setEventInterruptPolicy rt pols) s (reply rt .invalidInput [] s))) ∧
    (s.stopped = false → s.modeCode ≠ 6 → s.pwr.converters = true → Does .tierEngineStateError s (fun t => t.stopped = true ∧ t.keys.slots = [] ∧
      t.rd MIL_HALT_A_CAUSE = 4 ∧ t.mem.pages = s.mem.pages ∧ t.mem.store = s.mem.store ∧
      ∀ h : Head, s.headFenced h = false → s.rd HPT_LNK_STATE h ≠ 0 → Sends s t (.viral h)))

/-- With nothing waiting or running. A page write that fits, whose partition is not protected or LOGWP_N is high, and with the Tailrace armed,
takes the shadow as its page: erased, WEAR one more, the image the current copy with the data laid in. One to a protected partition with
LOGWP_N low ends Write Protected, one without energy Busy and waits for its retry; neither touches a page. The Clerks' firewall keeps them out of
partitions 0 to 3. The end of a single page commits it under the next SEQ with its MARK and CRC; a failed verify retires its page with
event 977. A retry starts what was refused. A change of LOGWP_N raises event 980, and while asserted ends a transfer. A read gives the bytes of a
partition that may be read, and of another is refused. -/
def Obligations.LogbookWrites : Prop :=
  ∀ s : State, s.Calm → s.pwr.converters = true → s.modeCode ≠ 6 →
    let on := fun (n : Nat) (t : State) => t.rdBit EVT_PEND_PEND (n % 64) (n / 64) = true
    let blank := fun (w : Nat) => (⟨0xFFFF, 0, w + 1, false, 0, false, []⟩ : LogPage)
    let quietLog := s.book.queue = [] ∧ s.flt.queue = [] ∧ s.flt.extra = []
    (∀ (clerk : Bool) (part off : Nat) (data : List Byte), part < 8 → (clerk = true → s.post.coresUp ≠ [] ∧ 4 ≤ part) → quietLog → s.book.run = none →
      off + data.length ≤ 256 * s.rd LOG_PART_DATA part →
      let w : LogWrite := ⟨s.book.nextId, 2, part, .bytes off data, true⟩;
      let refused := fun (res : Nat) (t : State) => t.rd LOG_STAT_LASTRES = res ∧ t.book.pages = s.book.pages ∧ t.book.run = none ∧ t.book.queue = [];
      (s.rdB LOG_PART_PROT part = true → s.pins.logwpN = false → Does (.logbookPageWrite clerk part off data) s (fun t => refused 2 t ∧
        t.book.refused = s.book.refused)) ∧
      (s.rdB LOG_PART_PROT part = false ∨ s.pins.logwpN = true →
        (s.rdB TLR_STAT_ARMED = false → Does (.logbookPageWrite clerk part off data) s (fun t => refused 1 t ∧ t.book.refused = s.book.refused ++ [w])) ∧
        (s.rdB TLR_STAT_ARMED = true → ∀ k wear : Nat, s.shadow part = some (k, wear) → wear + 1 < 1000000 →
          Does (.logbookPageWrite clerk part off data) s (fun t => t.book.pages = s.book.pages.put k (blank wear) ∧
            t.book.run = some ⟨w, off / 256, patch (s.logPage part (off / 256)) (off % 256) (data.take (256 - off % 256)), k, 0, []⟩)))) ∧
    (∀ (part off : Nat) (data : List Byte), part < 4 → s.post.coresUp ≠ [] → Ends (.logbookPageWrite true part off data) s (raise 88 s)) ∧
    (∀ (r : LogRun) (page : LogPage), s.book.run = some r → s.book.pages.find r.shadow = some page → quietLog →
      (r.req.job.rest = none → Does (.logbookPageWriteDone true) s (fun t => t.book.run = none ∧
        (let q := s.book.seq.get r.req.part 0 + 1;
         t.book.pages = s.book.pages.put r.shadow ⟨r.lpage, q, page.wear, true, tagCrc r.image r.lpage q page.wear, false, r.image⟩ ∧
         t.book.seq = s.book.seq.put r.req.part q))) ∧
      Does (.logbookPageWriteDone false) s (fun t => (t.book.pages.find r.shadow).map (·.retired) = some true ∧ on 977 t)) ∧
    (s.book.run = none → Ends (.logbookPageWriteDone true) s s) ∧
    (∀ (w : LogWrite) (k wear : Nat), s.mode.halting = false → s.book.run = none → s.book.queue = [] → s.book.refused = [w] → s.writeTest w = none →
      s.shadow w.part = some (k, wear) → wear + 1 < 1000000 → Does .logbookWriteRetry s (fun t => t.book.refused = [] ∧
        t.book.run.map (fun r => (r.req, r.shadow)) = some (w, k))) ∧
    (∀ level : Bool,
      (s.pins.logwpN = level → Ends (.logwpChange level) s s) ∧
      (s.pins.logwpN ≠ level → level = true ∨ s.post.transfer = none → Ends (.logwpChange level) s (raise 980 { s with pins := { s.pins with logwpN := level } })) ∧
      (s.pins.logwpN = true → level = false → s.post.transfer ≠ none → Ends (.logwpChange level) s (raise 980
        { (s.wr PST_STAT_RESULT 8).wr PST_STAT_STAGING 0 with pins := { s.pins with logwpN := false }, post := { s.post with transfer := none } }))) ∧
    (∀ (rt : Route) (part off n : Nat), Attends s rt → s.hostw rt = true →
      (part ∈ [0, 4, 5, 6, 7] → n ≤ 4096 → off + n ≤ 256 * s.rd LOG_PART_DATA part →
        Ends (.readLogbook rt part off n) s (reply rt .success ((s.logRead part off n).map (·.toNat)) s)) ∧
      (part ∉ [0, 4, 5, 6, 7] ∨ 4096 < n ∨ 256 * s.rd LOG_PART_DATA part < off + n →
        Ends (.readLogbook rt part off n) s (reply rt .invalidInput [] s)))

/-! Register accesses and counters. -/

/-- Of a requester that reaches the window. A read of a whole word or half answers the register's value, the head's own instance of a banked one, and
clears the RC fields it covers and nothing else; a write without triggers gives RW fields the bits written, clears W1C bits written 1, leaves every other
field, and where it covers a PST field drops it, counts it with its offset and raises event 87. A hole reads zero and takes no write; an access of another
width or alignment reads zero, has no effect and is a management fault. A doorbell write acts as its own row. User pages show visible counters, zero
elsewhere, and ignore writes. MSI-X words keep what is written; a pending vector that is masked no more sends its message. An access of a Clerk outside
its firewall raises event 88. -/
def Obligations.RegisterAccessesAct : Prop :=
  ∀ s : State, s.Calm →
    let on := fun (n : Nat) (t : State) => t.rdBit EVT_PEND_PEND (n % 64) (n / 64) = true
    let told := fun (who : Requester) (v : Nat) => match who with | .head h => Out.io h v | .clerk => Out.mgmt 1 [v]
    (∀ who : Requester, s.reaches who = true →
      (∀ read : Bool, Ends (.misalignedAccess who read) s (mgmtFault 2 31 (if read then s.emit (told who 0) else s))) ∧
      (∀ (off : Nat) (wide : Bool), 0x800000 ≤ off →
        (regAt off = none → Ends (.registerWrite (.reg who off wide none)) s (s.emit (told who 0)) ∧
          ∀ v, Ends (.registerWrite (.reg who off wide (some v))) s s) ∧
        (∀ (d : RegDef) (j r : Nat), regAt off = some (d, j, r) →
          (off % (if wide then 8 else 4) ≠ 0 ∨ (wide = true ∧ d.width = 32) →
            Ends (.registerWrite (.reg who off wide none)) s (mgmtFault 2 31 (s.emit (told who 0))) ∧
            ∀ v, Ends (.registerWrite (.reg who off wide (some v))) s (mgmtFault 2 31 s)) ∧
          (off % (if wide then 8 else 4) = 0 → (wide = true → d.width ≠ 32) → (d.banked = true → who ≠ .clerk) →
            let i := match who with | .head h => if d.banked then h.val else j | .clerk => j
            let mask := if wide then 2 ^ 64 - 1 else (2 ^ 32 - 1) * 2 ^ (8 * r)
            let covers := fun (f : Fld) => f.part mask ≠ 0
            s.regAbsent d i = false →
              Does (.registerWrite (.reg who off wide none)) s (fun t =>
                Sends s t (told who (s.regWord d i / 2 ^ (8 * r) % 2 ^ (if wide then 64 else 32))) ∧
                (∀ f ∈ d.fields, f.acc = .rc → covers f → closingFlds.contains f.id = false → t.rd f i = 0) ∧
                ∀ (f : Fld) (n : Nat), closingFlds.contains f.id = false → (n ≠ i ∨ ∀ g ∈ d.fields, g.id = f.id → g.acc ≠ .rc ∨ ¬ covers g) →
                  t.rd f n = s.rd f n) ∧
              (∀ v : Nat, let w := v * 2 ^ (8 * r);
                (∀ f ∈ d.fields, f.acc = .wo → (f.part mask &&& f.part w) ≠ 1) →
                Does (.registerWrite (.reg who off wide (some v))) s (fun t =>
                  (∀ f ∈ d.fields, closingFlds.contains f.id = false → f.acc = .rw →
                    t.rd f i = ((s.rd f i &&& (2 ^ f.w - 1 - f.part mask)) ||| (f.part w &&& f.part mask)) % 2 ^ f.w) ∧
                  (∀ f ∈ d.fields, closingFlds.contains f.id = false → f.acc = .w1c →
                    t.rd f i = s.rd f i &&& (2 ^ f.w - 1 - (f.part w &&& f.part mask))) ∧
                  (∀ (f : Fld) (n : Nat), closingFlds.contains f.id = false → [ PST_PROT_DROPS, PST_PROT_LAST, PST_PROT_HEAD,
                      PST_PROT_CLERK].all (fun g => g.id != f.id) = true → (n ≠ i ∨ ∀ g ∈ d.fields, g.id = f.id → g.acc ≠ .rw ∧ g.acc ≠ .w1c ∧ g.acc ≠ .w1s) →
                    t.rd f n = s.rd f n) ∧
                  ((∃ f ∈ d.fields, f.acc = .pst ∧ covers f) → on 87 t ∧ t.rd PST_PROT_LAST = off % 2 ^ 24 ∧
                    t.rd PST_PROT_DROPS = min (s.rd PST_PROT_DROPS + 1) (2 ^ 24 - 1)))))))) ∧
    (∀ (h : Head) (w : Bool), s.routeUp (.head h) = true →
      (∀ r v : Nat, exec (.registerWrite (.bell h (64 * r) w (some v))) s = exec (.doorbellTailWrite h r (v % 2 ^ 32)) s) ∧
      (∀ (r : Nat) (g : Ring), s.ring r = some g → g.head = h → Ends (.registerWrite (.bell h (64 * r + 8) false none)) s (s.emit (.io h g.hd))) ∧
      (∀ off v : Nat, Ends (.registerWrite (.user h off w (some v))) s s) ∧
      (let user := fun (off v : Nat) => Ends (.registerWrite (.user h off true none)) s (s.emit (.io h v))
       let seen := fun (i : Nat) => s.rdBit CNT_UREN_UREN h = true ∧ (s.rd CNT_SEL_HFILT i = 2 ^ h.val ∨ s.rd CNT_SEL_PUBLIC i = 1)
       (∀ i < 256, (seen i → user (8 * i) (s.rd CNT_VAL_VALUE i) ∧ user (0x800 + 8 * i) (s.rd CNT_SNAP_VALUE i)) ∧
         (¬ seen i → user (8 * i) 0 ∧ user (0x800 + 8 * i) 0)) ∧
       user 0x1000 (s.rd CNT_CTL_SNAPSEQ) ∧ user 0x1008 (s.rd CNT_SNAPTS_TIME) ∧ user 0x1010 (s.rd CNT_CTL_FREEZE) ∧
       ∀ n : Nat, user (0x1018 + 8 * n) 0) ∧
      (∀ n v : Nat, n < 512 → Does (.registerWrite (.reg (.head h) (0x20000 + 4 * n) false (some v))) s (fun t =>
        t.msixWord h n = v % 2 ^ 32 ∧ (∀ m, m ≠ n → t.msixWord h m = s.msixWord h m) ∧ RegsKept [] s t)) ∧
      (∀ masked : Bool, Does (.registerWrite (.fnMask h masked)) s (fun t =>
        t.ports.fnMask.getLsbD h = masked ∧ RegsKept [] s t ∧ ∀ vec < 128, t.msixMasked h vec = false → h * 128 + vec ∈ s.ports.msixPend →
          Sends s t (.msix h vec)))) ∧
    (s.reaches .clerk = true → Ends (.registerWrite (.outside none)) s (raise 88 (s.emit (.mgmt 1 [0]))) ∧
      ∀ v, Ends (.registerWrite (.outside (some v))) s (raise 88 s))

/-- A defined event is selected with its filters and counts or not as EN says, other counters stay; an undefined one is refused. Enabling the ring
checks it, starts PROD at 0 or sets ERR; disabling clears EN. A period takes the snapshot, and its record of 2,112 bytes becomes due at its place in the ring, or
is dropped, counted with event 961 where the ring is full or a record is under way. With the last line of a record written PROD advances, event 960. The
catalogue is given on every route that is served. -/
def Obligations.CounterRingRuns : Prop :=
  ∀ s : State, s.Calm →
    let on := fun (n : Nat) (t : State) => t.rdBit EVT_PEND_PEND (n % 64) (n / 64) = true
    (∀ rt : Route, Attends s rt → Ends (.getCounterCatalogue rt) s (reply rt .success catalogue s)) ∧
    (∀ rt : Option Route, (match rt with | none => s.post.coresUp ≠ [] ∧ s.stopped = false | some r => Attends s r ∧ s.hostw r = true) →
      let ok := fun (x : State) => match rt with | some r => reply r .success [] (x.bump PST_CALLS_DONE 1) | none => x.bump PST_CALLS_DONE 1;
      let no := fun (x : State) => match rt with | some r => reply r .invalidInput [] (x.bump PST_CALLS_REFUSED 1) | none => x.bump PST_CALLS_REFUSED 1;
      (∀ (i ev heads classes unit : Nat) (pub en : Bool), i < 256 →
        (eventDefined (ev % 4096) = false → Ends (.counterSelectWrite rt i ev heads classes unit pub en) s (no s)) ∧
        (eventDefined (ev % 4096) = true → Does (.counterSelectWrite rt i ev heads classes unit pub en) s (fun t =>
          t.rd CNT_SEL_EVENT i = ev % 4096 ∧ t.rd CNT_SEL_HFILT i = heads % 65536 ∧ t.rd CNT_SEL_CFILT i = classes % 32 ∧
          t.rd CNT_SEL_UNIT i = unit % 32 ∧ t.rd CNT_SEL_PUBLIC i = pub.toNat ∧ (i ∈ t.cnt.live ↔ en = true) ∧
          (∀ j < 256, j ≠ i → (j ∈ t.cnt.live ↔ j ∈ s.cnt.live)) ∧
          RegsKept [ CNT_SEL_EVENT, CNT_SEL_HFILT, CNT_SEL_CFILT, CNT_SEL_UNIT, CNT_SEL_PUBLIC, PST_CALLS_DONE] s t))) ∧
      Ends (.counterRingEnable rt false) s (ok (s.wr CNT_RING_B_EN 0)) ∧
      (let inRange := CNT_RING_A_LOGSZ.inRange (s.rd CNT_RING_A_LOGSZ) = true ∧ CNT_RING_B_PERIOD.inRange (s.rd CNT_RING_B_PERIOD) = true
       let fits := s.postOk (s.rd CNT_RING_A_HEAD) (64 * s.rd CNT_RING_A_BASE) (2112 * 2 ^ s.rd CNT_RING_A_LOGSZ)
       (¬ inRange → Ends (.counterRingEnable rt true) s (ok ((s.wr CNT_RING_B_EN 0).wr CNT_RING_B_ERR 1))) ∧
       (inRange → fits = false → Ends (.counterRingEnable rt true) s (ok ((s.wr CNT_RING_B_EN 0).wr CNT_RING_B_ERR 2))) ∧
       (inRange → fits = true →
         Ends (.counterRingEnable rt true) s (ok (((s.wr CNT_RING_B_EN 1).wr CNT_RING_B_ERR 0).wr CNT_RING_C_PROD 0))))) ∧
    (s.rd CNT_RING_B_EN = 0 → Ends .counterDumpPeriod s s) ∧
    (s.rd CNT_RING_B_EN = 1 → s.modeCode ≠ 6 → s.stopped = false → s.pwr.converters = true →
      let snapped := fun (t : State) => (∀ i < 256, t.rd CNT_SNAP_VALUE i = s.rd CNT_VAL_VALUE i) ∧
        t.rd CNT_CTL_SNAPSEQ = (s.rd CNT_CTL_SNAPSEQ + 1) % 2 ^ 32 ∧ t.rd CNT_SNAPTS_TIME = s.stamp % 2 ^ 64
      let full := (s.rd CNT_RING_C_PROD + 2 ^ 32 - s.rd CNT_RING_C_CONS) % 2 ^ 32 = 2 ^ s.rd CNT_RING_A_LOGSZ
      (full ∨ s.cnt.dump ≠ none ∨ s.cnt.due ≠ none → Does .counterDumpPeriod s (fun t => snapped t ∧ on 961 t ∧
        t.rd CNT_RING_B_DROPS = min (s.rd CNT_RING_B_DROPS + 1) (2 ^ 32 - 1) ∧ t.cnt = { s.cnt with dropped := true })) ∧
      (¬ full → s.cnt.dump = none → s.cnt.due = none → Does .counterDumpPeriod s (fun t => snapped t ∧ t.cnt.dropped = false ∧
        ∃ d : Dma, d.head = s.rd CNT_RING_A_HEAD ∧
          d.addr = 64 * s.rd CNT_RING_A_BASE + 2112 * (s.rd CNT_RING_C_PROD % 2 ^ s.rd CNT_RING_A_LOGSZ) ∧ d.data.length = 2112 ∧
          d.data.take 8 = leBytes 8 ((s.rd CNT_CTL_SNAPSEQ + 1) % 2 ^ 32) ∧
          (∀ i < 256, (d.data.drop (64 + 8 * i)).take 8 =
            leBytes 8 (s.rd CNT_VAL_VALUE i + (s.rdBit CNT_SAT_SAT (i % 64) (i / 64)).toNat * 2 ^ 63)) ∧
          (s.mgt.exporting = none → t.cnt.dump = some d ∧ t.cnt.due = none ∧ t.rd MGT_DMA_USER = 2 ∧ t.rd MGT_DMA_HEAD = d.head) ∧
          (s.mgt.exporting ≠ none → t.cnt.dump = none ∧ t.cnt.due = some d)))) ∧
    (s.cnt.dump = none → Ends .dumpRecordWritten s s) ∧
    (∀ (d : Dma) (rg : Region) (line k : Nat) (l : FcLine), s.stopped = false → s.modeCode ≠ 6 → s.cnt.dump = some d → s.cnt.due = none →
      s.mgt.exporting = none → s.headFenced d.head = false → d.addr % 64 = 0 → d.data.length = 64 → s.postOk d.head d.addr 64 = true → rg.typ ≠ 1 →
      LineAtHand s d.head (d.addr / 64) rg line k l → Does .dumpRecordWritten s (fun t =>
        t.cnt.dump = none ∧ t.rd CNT_RING_C_PROD = (s.rd CNT_RING_C_PROD + 1) % 2 ^ 32 ∧ on 960 t ∧ t.rd MGT_DMA_USER = 0 ∧
        ∃ l', t.fc.lines.find k = some l' ∧ l'.dirty = true ∧ l'.poison = false ∧ l'.data = regionRound rg fullMask (bytesLine d.data)))

/-! The management plane. -/

/-- With standby power. An SMBus transaction with its PEC sets the address or reads the register there and advances by 8; without one it is counted, a
management fault with event 995. An endpoint ID is assigned. A KEY_EXCHANGE of a supported version opens a session while its side has room, event 992, and is else
answered Busy; its end raises event 993; measurements 1 to 6 are given. A sensor that is served reads; the rest is unavailable. A reading that rises over its
threshold raises the event and tells the receiver once, and arms it again two degrees below. The standard commands give capacities, the Dirty Shutdown Count, logs,
time, slots and alert settings; others are Unsupported. Indicator pins move; JTAG gives the IDCODE and pins, and debug reads stay within the rights of master 0x31. -/
def Obligations.ManagementPlaneAnswers : Prop :=
  ∀ s : State, s.Calm → s.pwr.phase ≠ .off →
    let on := fun (n : Nat) (t : State) => t.rdBit EVT_PEND_PEND (n % 64) (n / 64) = true
    (∀ speed : Nat,
      let x := s.wr MGT_SMB_SPEED (max (s.rd MGT_SMB_SPEED) (min speed 2));
      (∀ off : Nat, Ends (.smbusSetAddress off true speed) s { x with mgt := { s.mgt with smbAddr := off % 2 ^ 32 } }) ∧
      (∀ (d : RegDef) (i r : Nat), regAt s.mgt.smbAddr = some (d, i, r) → s.railsOn = true ∨ standbyBlock s.mgt.smbAddr = true →
        Ends (.smbusBlockRead true speed) s ({ x with mgt := { s.mgt with smbAddr := (s.mgt.smbAddr + 8) % 2 ^ 32 } }.emit
          (.mgmt 0 [if d.banked then 0 else x.regWord d i / 2 ^ (8 * r)]))) ∧
      (regAt s.mgt.smbAddr = none ∨ (s.railsOn = false ∧ standbyBlock s.mgt.smbAddr = false) →
        Ends (.smbusBlockRead true speed) s ({ x with mgt := { s.mgt with smbAddr := (s.mgt.smbAddr + 8) % 2 ^ 32 } }.emit (.mgmt 0 [0]))) ∧
      (∀ off : Nat, Ends (.smbusSetAddress off false speed) s (mgmtFault 0 995 (raise 995 (x.bump MGT_ERR_SMBERR 1)))) ∧
      Ends (.smbusBlockRead false speed) s (mgmtFault 0 995 (raise 995 (x.bump MGT_ERR_SMBERR 1)))) ∧
    (∀ eid : Nat, (0 < eid ∧ eid < 255 → Ends (.setEndpointId eid) s ((s.wr MGT_MCTP_AEID eid).emit (.mgmt 5 [eid]))) ∧
      (eid = 0 ∨ 255 ≤ eid → Ends (.setEndpointId eid) s s)) ∧
    (∀ side : Route, s.routeUp side = true → s.clerksUp = true →
      let code := Route.code side
      let mine := (s.mgt.sessions.filter (fun x => x.side == side)).length
      let failed := fun (c : Nat) => (s.bump MGT_ERR_SPDMERR 1).emit (.mgmt 6 [code, c])
      (∀ v : Nat, (v = 0x12 ∨ v = 0x13 → mine < (if side = .mgmt then 4 else 1) → Ends (.spdmKeyExchange side v) s (raise 992
          ({ s with mgt := { s.mgt with sessions := s.mgt.sessions ++ [(⟨s.mgt.nextSession, side⟩ : Session)], nextSession := s.mgt.nextSession + 1 } }.emit
            (.mgmt 6 [code, 0, s.mgt.nextSession])))) ∧
        (v = 0x12 ∨ v = 0x13 → (if side = .mgmt then 4 else 1) ≤ mine → Ends (.spdmKeyExchange side v) s (failed 1)) ∧
        (v ≠ 0x12 → v ≠ 0x13 → Ends (.spdmKeyExchange side v) s (failed 2))) ∧
      (∀ i : Nat, 1 ≤ i → i ≤ 6 → Ends (.spdmGetMeasurements side i) s (s.emit (.mgmt 6 [code, 0, s.measurement i]))) ∧
      s.measurement 3 = (Config.sha384 (sect s.post.live 0x20)).toNat ∧
      (∀ i : Nat, 6 < i → i ≠ 255 → Ends (.spdmGetMeasurements side i) s (failed 2)) ∧
      (∀ id : Nat, ((⟨id, side⟩ : Session) ∈ s.mgt.sessions → Ends (.spdmEndSession side id) s (raise 993
          ({ s with mgt := { s.mgt with sessions := s.mgt.sessions.filter (· ≠ (⟨id, side⟩ : Session)) } }.emit (.mgmt 6 [code, 0])))) ∧
        ((⟨id, side⟩ : Session) ∉ s.mgt.sessions → Ends (.spdmEndSession side id) s (failed 2)))) ∧
    (let reads := fun (id : Nat) (l : List Nat) => Ends (.pldmGetSensorReading id) s (s.emit (.mgmt 7 (id :: l)))
     reads 100 [1, s.modeCode] ∧ reads 20 [1, s.rd PWR_MON_VA] ∧ reads 21 [1, s.rd PWR_MON_VB] ∧ reads 22 [1, s.rd PWR_MON_IIN] ∧
     reads 24 [1, s.rd TLR_STAT_BANKV] ∧ (∀ id : Nat, s.hasSensor id = false → reads id [2]) ∧
     (∀ id ∈ [1, 2, 23], ∀ v, s.mgt.sensors.find id = some v → reads id [1, v]) ∧
     (∀ id : Nat, 3 ≤ id → id ≤ 19 → s.hasSensor id = true →
       (s.modeCode = 6 ∨ s.clerksUp = false → reads id [0]) ∧
       (s.modeCode ≠ 6 → s.clerksUp = true → ∀ v, s.mgt.sensors.find id = some v → reads id [1, v]))) ∧
    (∀ (id v : Nat) (warn crit : Nat × Option Nat), sensorLimits id = some (warn, crit) → s.hasSensor id = true →
      s.railsOn = true ∨ standbySensor id = true → 2 * id + 2 ∉ s.mgt.alarmed → v ≤ crit.1 →
      let m := { s.mgt with sensors := s.mgt.sensors.put id v };
      (2 * id + 1 ∉ s.mgt.alarmed → v ≤ warn.1 → Ends (.sensorThresholdCrossing id v) s { s with mgt := m }) ∧
      (2 * id + 1 ∉ s.mgt.alarmed → warn.1 < v → Does (.sensorThresholdCrossing id v) s (fun t =>
        t.mgt = { m with alarmed := s.mgt.alarmed ++ [2 * id + 1] } ∧ (∀ e, warn.2 = some e → s.railsOn = true → on e t) ∧
        ∀ eid, s.mgt.receiver = some eid → s.clerksUp = true → s.modeCode ≠ 6 → Sends s t (.mgmt 9 [eid, id, 1, v]))) ∧
      (2 * id + 1 ∈ s.mgt.alarmed → warn.1 < v + 2 → Ends (.sensorThresholdCrossing id v) s { s with mgt := m }) ∧
      (2 * id + 1 ∈ s.mgt.alarmed → v + 2 ≤ warn.1 → Ends (.sensorThresholdCrossing id v) s
        { s with mgt := { m with alarmed := s.mgt.alarmed.filter (· ≠ 2 * id + 1) } })) ∧
    (Attends s .mgmt →
      (∀ eid : Nat, Ends (.pldmSetEventReceiver eid) s
        ({ s with mgt := { s.mgt with receiver := if eid = 0 then none else some eid } }.emit (.mgmt 8 [eid]))) ∧
      (∀ b : Bool, Ends (.pldmLocateRequest b) s
        ({ s with mgt := { s.mgt with locate := b }, pins := { s.pins with locate := if b then s.pins.locate else true } }.emit
          (.mgmt 10 [b.toNat])))) ∧
    (∀ rt : Route, Attends s rt →
      let gives := fun (c : Instr) (l : List Nat) => Ends c s (reply rt .success l s)
      let total := fun (l : List Region) => (l.map (fun r => r.size)).sum
      let mine := match rt with | .head h => s.headRegions h | .mgmt => s.regions
      gives (.identifyMemoryDevice rt) [total mine, total (mine.filter (fun r => r.typ != 1)), total (mine.filter (fun r => r.typ == 1))] ∧
      Ends (.getHealthInfo rt) s (reply rt .success [s.rd TLR_CNT_DSC, Config.freeValue s.free] { s with free := s.free + 1 }) ∧
      gives (.getSupportedLogs rt) [0, 4 * (s.cel rt).length] ∧
      (∀ log off n : Nat, (log ≠ 0 → Ends (.getLog rt log off n) s (reply rt .invalidLog [] s)) ∧
        (4 * (s.cel rt).length < off + n → Ends (.getLog rt 0 off n) s (reply rt .invalidInput [] s))) ∧
      gives (.getLog rt 0 0 (4 * (s.cel rt).length)) ((s.cel rt).map (fun o => o + 65536 * (Config.commandEffects o % 65536))) ∧
      gives (.getTimestamp rt) [s.stamp] ∧
      (∀ ns : Nat, Does (.setTimestamp rt ns) s (fun t => t.stamp = ns % 2 ^ 64 ∧ Sends s t (.mbox rt .success 0 []) ∧ RegsKept [] s t)) ∧
      gives (.getFwInfo rt) [2, (s.currentSlot.map (· + 1)).getD 0,
        if s.slotState 0 = 1 then 1 else if s.slotState 1 = 1 then 2 else 0, s.rd PST_SLOT_A_VERSION 0, s.rd PST_SLOT_A_VERSION 1] ∧
      gives (.getAlertConfiguration rt) ((List.range 5).map (fun i => s.mgt.alerts.get (8 * Route.code rt + i) 0)) ∧
      (∀ n v : Nat, (n < 5 → v < 65536 → Does (.setAlertConfiguration rt [(n, v)]) s (fun t =>
          t.mgt.alerts.get (8 * Route.code rt + n) 0 = v ∧ (∀ j, j ≠ 8 * Route.code rt + n → t.mgt.alerts.get j 0 = s.mgt.alerts.get j 0) ∧
          Sends s t (.mbox rt .success 0 []) ∧ RegsKept [] s t)) ∧
        (5 ≤ n ∨ 65536 ≤ v → Ends (.setAlertConfiguration rt [(n, v)]) s (reply rt .invalidInput [] s))) ∧
      Ends (.unsupportedCommand rt) s (reply rt .unsupported [] s)) ∧
    Ends .activityTimer s { s with pins := { s.pins with activity := true } } ∧
    (s.mgt.locate = true → s.railsOn = true → Ends .locateToggle s { s with pins := { s.pins with locate := !s.pins.locate } }) ∧
    (s.mgt.locate = false ∨ s.railsOn = false → Ends .locateToggle s s) ∧
    (∀ i : Jtag, s.railsOn = false → Ends (.jtagInstruction i) s s) ∧
    (s.railsOn = true →
      let ir := fun (n : Nat) => { s with pins := { s.pins with jtag := n } }
      Ends (.jtagInstruction .bypass) s (ir 0) ∧
      Ends (.jtagInstruction .idcode) s ((ir 1).emit (.mgmt 11 [0x20000000 + (match s.part with | .c960f => 0xC960 | .c960d => 0xC961 | .c480f => 0xC480) * 0x1000 + 0x56F])) ∧
      Does (.jtagInstruction .sample) s (fun t => ∃ l, l.length = 16 ∧ Sends s t (.mgmt 11 l) ∧ RegsKept [] s t) ∧
      (∀ cells : Nat, Ends (.jtagInstruction (.preload cells)) s { s with pins := { s.pins with cells := cells, jtag := 3 } }) ∧
      ((∀ h < 16, s.linkUp h = false) → Ends (.jtagInstruction .extest) s (ir 4) ∧ Ends (.jtagInstruction .clamp) s (ir 5) ∧
        Ends (.jtagInstruction .highz) s (ir 6)) ∧
      (∀ (page n : Nat) (v : EngEnv) (r : Region), s.pageRegion page = some r →
        (s.rd MIL_KD_JTAG r.keydom = 0 ∨ s.keyed r.keydom = false → Ends (.jtagInstruction (.debug page n v)) s (raise 394 (ir 7))) ∧
        (s.rd MIL_KD_JTAG r.keydom = 1 → s.keyed r.keydom = true → Ends (.jtagInstruction (.debug page n v)) s
          ((ir 7).emit (.mgmt 12 ((s.sheetBytes r.opq (s.entry page) n).map (·.toNat)))))))
end

