-- ==== Sys2Proof/Laws/State.lean ====
section
/-! SUPPORT. What a field of the state is after a small update: the updates of registers, of the output and of time leave every other field
alone. -/
namespace Sys2Proof.Machine

@[simp] theorem State.wr_part (s : State) (f : Fld) (v i : Nat) : (s.wr f v i).part = s.part := rfl
@[simp] theorem State.unset_part (s : State) (f : Fld) (i : Nat) : (s.unset f i).part = s.part := rfl
@[simp] theorem State.wrB_part (s : State) (f : Fld) (b : Bool) (i : Nat) : (s.wrB f b i).part = s.part := rfl
@[simp] theorem State.bump_part (s : State) (f : Fld) (n i : Nat) : (s.bump f n i).part = s.part := rfl
@[simp] theorem State.wrBit_part (s : State) (f : Fld) (b : Nat) (v : Bool) (i : Nat) : (s.wrBit f b v i).part = s.part := rfl
@[simp] theorem State.emit_part (s : State) (o : Out) : (s.emit o).part = s.part := rfl
@[simp] theorem tick_part (s : State) : (tick s).part = s.part := rfl
@[simp] theorem State.emit_regs (s : State) (o : Out) : (s.emit o).regs = s.regs := rfl
@[simp] theorem tick_regs (s : State) : (tick s).regs = s.regs := rfl
@[simp] theorem State.wr_mem (s : State) (f : Fld) (v i : Nat) : (s.wr f v i).mem = s.mem := rfl
@[simp] theorem State.unset_mem (s : State) (f : Fld) (i : Nat) : (s.unset f i).mem = s.mem := rfl
@[simp] theorem State.wrB_mem (s : State) (f : Fld) (b : Bool) (i : Nat) : (s.wrB f b i).mem = s.mem := rfl
@[simp] theorem State.bump_mem (s : State) (f : Fld) (n i : Nat) : (s.bump f n i).mem = s.mem := rfl
@[simp] theorem State.wrBit_mem (s : State) (f : Fld) (b : Nat) (v : Bool) (i : Nat) : (s.wrBit f b v i).mem = s.mem := rfl
@[simp] theorem State.emit_mem (s : State) (o : Out) : (s.emit o).mem = s.mem := rfl
@[simp] theorem tick_mem (s : State) : (tick s).mem = s.mem := rfl
@[simp] theorem State.wr_home (s : State) (f : Fld) (v i : Nat) : (s.wr f v i).home = s.home := rfl
@[simp] theorem State.unset_home (s : State) (f : Fld) (i : Nat) : (s.unset f i).home = s.home := rfl
@[simp] theorem State.wrB_home (s : State) (f : Fld) (b : Bool) (i : Nat) : (s.wrB f b i).home = s.home := rfl
@[simp] theorem State.bump_home (s : State) (f : Fld) (n i : Nat) : (s.bump f n i).home = s.home := rfl
@[simp] theorem State.wrBit_home (s : State) (f : Fld) (b : Nat) (v : Bool) (i : Nat) : (s.wrBit f b v i).home = s.home := rfl
@[simp] theorem State.emit_home (s : State) (o : Out) : (s.emit o).home = s.home := rfl
@[simp] theorem tick_home (s : State) : (tick s).home = s.home := rfl
@[simp] theorem State.wr_fc (s : State) (f : Fld) (v i : Nat) : (s.wr f v i).fc = s.fc := rfl
@[simp] theorem State.unset_fc (s : State) (f : Fld) (i : Nat) : (s.unset f i).fc = s.fc := rfl
@[simp] theorem State.wrB_fc (s : State) (f : Fld) (b : Bool) (i : Nat) : (s.wrB f b i).fc = s.fc := rfl
@[simp] theorem State.bump_fc (s : State) (f : Fld) (n i : Nat) : (s.bump f n i).fc = s.fc := rfl
@[simp] theorem State.wrBit_fc (s : State) (f : Fld) (b : Nat) (v : Bool) (i : Nat) : (s.wrBit f b v i).fc = s.fc := rfl
@[simp] theorem State.emit_fc (s : State) (o : Out) : (s.emit o).fc = s.fc := rfl
@[simp] theorem tick_fc (s : State) : (tick s).fc = s.fc := rfl
@[simp] theorem State.wr_keys (s : State) (f : Fld) (v i : Nat) : (s.wr f v i).keys = s.keys := rfl
@[simp] theorem State.unset_keys (s : State) (f : Fld) (i : Nat) : (s.unset f i).keys = s.keys := rfl
@[simp] theorem State.wrB_keys (s : State) (f : Fld) (b : Bool) (i : Nat) : (s.wrB f b i).keys = s.keys := rfl
@[simp] theorem State.bump_keys (s : State) (f : Fld) (n i : Nat) : (s.bump f n i).keys = s.keys := rfl
@[simp] theorem State.wrBit_keys (s : State) (f : Fld) (b : Nat) (v : Bool) (i : Nat) : (s.wrBit f b v i).keys = s.keys := rfl
@[simp] theorem State.emit_keys (s : State) (o : Out) : (s.emit o).keys = s.keys := rfl
@[simp] theorem tick_keys (s : State) : (tick s).keys = s.keys := rfl
@[simp] theorem State.wr_cap (s : State) (f : Fld) (v i : Nat) : (s.wr f v i).cap = s.cap := rfl
@[simp] theorem State.unset_cap (s : State) (f : Fld) (i : Nat) : (s.unset f i).cap = s.cap := rfl
@[simp] theorem State.wrB_cap (s : State) (f : Fld) (b : Bool) (i : Nat) : (s.wrB f b i).cap = s.cap := rfl
@[simp] theorem State.bump_cap (s : State) (f : Fld) (n i : Nat) : (s.bump f n i).cap = s.cap := rfl
@[simp] theorem State.wrBit_cap (s : State) (f : Fld) (b : Nat) (v : Bool) (i : Nat) : (s.wrBit f b v i).cap = s.cap := rfl
@[simp] theorem State.emit_cap (s : State) (o : Out) : (s.emit o).cap = s.cap := rfl
@[simp] theorem tick_cap (s : State) : (tick s).cap = s.cap := rfl
@[simp] theorem State.wr_work (s : State) (f : Fld) (v i : Nat) : (s.wr f v i).work = s.work := rfl
@[simp] theorem State.unset_work (s : State) (f : Fld) (i : Nat) : (s.unset f i).work = s.work := rfl
@[simp] theorem State.wrB_work (s : State) (f : Fld) (b : Bool) (i : Nat) : (s.wrB f b i).work = s.work := rfl
@[simp] theorem State.bump_work (s : State) (f : Fld) (n i : Nat) : (s.bump f n i).work = s.work := rfl
@[simp] theorem State.wrBit_work (s : State) (f : Fld) (b : Nat) (v : Bool) (i : Nat) : (s.wrBit f b v i).work = s.work := rfl
@[simp] theorem State.emit_work (s : State) (o : Out) : (s.emit o).work = s.work := rfl
@[simp] theorem tick_work (s : State) : (tick s).work = s.work := rfl
@[simp] theorem State.wr_nextWork (s : State) (f : Fld) (v i : Nat) : (s.wr f v i).nextWork = s.nextWork := rfl
@[simp] theorem State.unset_nextWork (s : State) (f : Fld) (i : Nat) : (s.unset f i).nextWork = s.nextWork := rfl
@[simp] theorem State.wrB_nextWork (s : State) (f : Fld) (b : Bool) (i : Nat) : (s.wrB f b i).nextWork = s.nextWork := rfl
@[simp] theorem State.bump_nextWork (s : State) (f : Fld) (n i : Nat) : (s.bump f n i).nextWork = s.nextWork := rfl
@[simp] theorem State.wrBit_nextWork (s : State) (f : Fld) (b : Nat) (v : Bool) (i : Nat) : (s.wrBit f b v i).nextWork = s.nextWork := rfl
@[simp] theorem State.emit_nextWork (s : State) (o : Out) : (s.emit o).nextWork = s.nextWork := rfl
@[simp] theorem tick_nextWork (s : State) : (tick s).nextWork = s.nextWork := rfl
@[simp] theorem State.wr_flt (s : State) (f : Fld) (v i : Nat) : (s.wr f v i).flt = s.flt := rfl
@[simp] theorem State.unset_flt (s : State) (f : Fld) (i : Nat) : (s.unset f i).flt = s.flt := rfl
@[simp] theorem State.wrB_flt (s : State) (f : Fld) (b : Bool) (i : Nat) : (s.wrB f b i).flt = s.flt := rfl
@[simp] theorem State.bump_flt (s : State) (f : Fld) (n i : Nat) : (s.bump f n i).flt = s.flt := rfl
@[simp] theorem State.wrBit_flt (s : State) (f : Fld) (b : Nat) (v : Bool) (i : Nat) : (s.wrBit f b v i).flt = s.flt := rfl
@[simp] theorem State.emit_flt (s : State) (o : Out) : (s.emit o).flt = s.flt := rfl
@[simp] theorem tick_flt (s : State) : (tick s).flt = s.flt := rfl
@[simp] theorem State.wr_evt (s : State) (f : Fld) (v i : Nat) : (s.wr f v i).evt = s.evt := rfl
@[simp] theorem State.unset_evt (s : State) (f : Fld) (i : Nat) : (s.unset f i).evt = s.evt := rfl
@[simp] theorem State.wrB_evt (s : State) (f : Fld) (b : Bool) (i : Nat) : (s.wrB f b i).evt = s.evt := rfl
@[simp] theorem State.bump_evt (s : State) (f : Fld) (n i : Nat) : (s.bump f n i).evt = s.evt := rfl
@[simp] theorem State.wrBit_evt (s : State) (f : Fld) (b : Nat) (v : Bool) (i : Nat) : (s.wrBit f b v i).evt = s.evt := rfl
@[simp] theorem State.emit_evt (s : State) (o : Out) : (s.emit o).evt = s.evt := rfl
@[simp] theorem tick_evt (s : State) : (tick s).evt = s.evt := rfl
@[simp] theorem State.wr_qos (s : State) (f : Fld) (v i : Nat) : (s.wr f v i).qos = s.qos := rfl
@[simp] theorem State.unset_qos (s : State) (f : Fld) (i : Nat) : (s.unset f i).qos = s.qos := rfl
@[simp] theorem State.wrB_qos (s : State) (f : Fld) (b : Bool) (i : Nat) : (s.wrB f b i).qos = s.qos := rfl
@[simp] theorem State.bump_qos (s : State) (f : Fld) (n i : Nat) : (s.bump f n i).qos = s.qos := rfl
@[simp] theorem State.wrBit_qos (s : State) (f : Fld) (b : Nat) (v : Bool) (i : Nat) : (s.wrBit f b v i).qos = s.qos := rfl
@[simp] theorem State.emit_qos (s : State) (o : Out) : (s.emit o).qos = s.qos := rfl
@[simp] theorem tick_qos (s : State) : (tick s).qos = s.qos := rfl
@[simp] theorem State.wr_ports (s : State) (f : Fld) (v i : Nat) : (s.wr f v i).ports = s.ports := rfl
@[simp] theorem State.unset_ports (s : State) (f : Fld) (i : Nat) : (s.unset f i).ports = s.ports := rfl
@[simp] theorem State.wrB_ports (s : State) (f : Fld) (b : Bool) (i : Nat) : (s.wrB f b i).ports = s.ports := rfl
@[simp] theorem State.bump_ports (s : State) (f : Fld) (n i : Nat) : (s.bump f n i).ports = s.ports := rfl
@[simp] theorem State.wrBit_ports (s : State) (f : Fld) (b : Nat) (v : Bool) (i : Nat) : (s.wrBit f b v i).ports = s.ports := rfl
@[simp] theorem State.emit_ports (s : State) (o : Out) : (s.emit o).ports = s.ports := rfl
@[simp] theorem tick_ports (s : State) : (tick s).ports = s.ports := rfl
@[simp] theorem State.wr_flush (s : State) (f : Fld) (v i : Nat) : (s.wr f v i).flush = s.flush := rfl
@[simp] theorem State.unset_flush (s : State) (f : Fld) (i : Nat) : (s.unset f i).flush = s.flush := rfl
@[simp] theorem State.wrB_flush (s : State) (f : Fld) (b : Bool) (i : Nat) : (s.wrB f b i).flush = s.flush := rfl
@[simp] theorem State.bump_flush (s : State) (f : Fld) (n i : Nat) : (s.bump f n i).flush = s.flush := rfl
@[simp] theorem State.wrBit_flush (s : State) (f : Fld) (b : Nat) (v : Bool) (i : Nat) : (s.wrBit f b v i).flush = s.flush := rfl
@[simp] theorem State.emit_flush (s : State) (o : Out) : (s.emit o).flush = s.flush := rfl
@[simp] theorem tick_flush (s : State) : (tick s).flush = s.flush := rfl
@[simp] theorem State.wr_book (s : State) (f : Fld) (v i : Nat) : (s.wr f v i).book = s.book := rfl
@[simp] theorem State.unset_book (s : State) (f : Fld) (i : Nat) : (s.unset f i).book = s.book := rfl
@[simp] theorem State.wrB_book (s : State) (f : Fld) (b : Bool) (i : Nat) : (s.wrB f b i).book = s.book := rfl
@[simp] theorem State.bump_book (s : State) (f : Fld) (n i : Nat) : (s.bump f n i).book = s.book := rfl
@[simp] theorem State.wrBit_book (s : State) (f : Fld) (b : Nat) (v : Bool) (i : Nat) : (s.wrBit f b v i).book = s.book := rfl
@[simp] theorem State.emit_book (s : State) (o : Out) : (s.emit o).book = s.book := rfl
@[simp] theorem tick_book (s : State) : (tick s).book = s.book := rfl
@[simp] theorem State.wr_dram (s : State) (f : Fld) (v i : Nat) : (s.wr f v i).dram = s.dram := rfl
@[simp] theorem State.unset_dram (s : State) (f : Fld) (i : Nat) : (s.unset f i).dram = s.dram := rfl
@[simp] theorem State.wrB_dram (s : State) (f : Fld) (b : Bool) (i : Nat) : (s.wrB f b i).dram = s.dram := rfl
@[simp] theorem State.bump_dram (s : State) (f : Fld) (n i : Nat) : (s.bump f n i).dram = s.dram := rfl
@[simp] theorem State.wrBit_dram (s : State) (f : Fld) (b : Nat) (v : Bool) (i : Nat) : (s.wrBit f b v i).dram = s.dram := rfl
@[simp] theorem State.emit_dram (s : State) (o : Out) : (s.emit o).dram = s.dram := rfl
@[simp] theorem tick_dram (s : State) : (tick s).dram = s.dram := rfl
@[simp] theorem State.wr_media (s : State) (f : Fld) (v i : Nat) : (s.wr f v i).media = s.media := rfl
@[simp] theorem State.unset_media (s : State) (f : Fld) (i : Nat) : (s.unset f i).media = s.media := rfl
@[simp] theorem State.wrB_media (s : State) (f : Fld) (b : Bool) (i : Nat) : (s.wrB f b i).media = s.media := rfl
@[simp] theorem State.bump_media (s : State) (f : Fld) (n i : Nat) : (s.bump f n i).media = s.media := rfl
@[simp] theorem State.wrBit_media (s : State) (f : Fld) (b : Nat) (v : Bool) (i : Nat) : (s.wrBit f b v i).media = s.media := rfl
@[simp] theorem State.emit_media (s : State) (o : Out) : (s.emit o).media = s.media := rfl
@[simp] theorem tick_media (s : State) : (tick s).media = s.media := rfl
@[simp] theorem State.wr_flume (s : State) (f : Fld) (v i : Nat) : (s.wr f v i).flume = s.flume := rfl
@[simp] theorem State.unset_flume (s : State) (f : Fld) (i : Nat) : (s.unset f i).flume = s.flume := rfl
@[simp] theorem State.wrB_flume (s : State) (f : Fld) (b : Bool) (i : Nat) : (s.wrB f b i).flume = s.flume := rfl
@[simp] theorem State.bump_flume (s : State) (f : Fld) (n i : Nat) : (s.bump f n i).flume = s.flume := rfl
@[simp] theorem State.wrBit_flume (s : State) (f : Fld) (b : Nat) (v : Bool) (i : Nat) : (s.wrBit f b v i).flume = s.flume := rfl
@[simp] theorem State.emit_flume (s : State) (o : Out) : (s.emit o).flume = s.flume := rfl
@[simp] theorem tick_flume (s : State) : (tick s).flume = s.flume := rfl
@[simp] theorem State.wr_cou (s : State) (f : Fld) (v i : Nat) : (s.wr f v i).cou = s.cou := rfl
@[simp] theorem State.unset_cou (s : State) (f : Fld) (i : Nat) : (s.unset f i).cou = s.cou := rfl
@[simp] theorem State.wrB_cou (s : State) (f : Fld) (b : Bool) (i : Nat) : (s.wrB f b i).cou = s.cou := rfl
@[simp] theorem State.bump_cou (s : State) (f : Fld) (n i : Nat) : (s.bump f n i).cou = s.cou := rfl
@[simp] theorem State.wrBit_cou (s : State) (f : Fld) (b : Nat) (v : Bool) (i : Nat) : (s.wrBit f b v i).cou = s.cou := rfl
@[simp] theorem State.emit_cou (s : State) (o : Out) : (s.emit o).cou = s.cou := rfl
@[simp] theorem tick_cou (s : State) : (tick s).cou = s.cou := rfl
@[simp] theorem State.wr_pwr (s : State) (f : Fld) (v i : Nat) : (s.wr f v i).pwr = s.pwr := rfl
@[simp] theorem State.unset_pwr (s : State) (f : Fld) (i : Nat) : (s.unset f i).pwr = s.pwr := rfl
@[simp] theorem State.wrB_pwr (s : State) (f : Fld) (b : Bool) (i : Nat) : (s.wrB f b i).pwr = s.pwr := rfl
@[simp] theorem State.bump_pwr (s : State) (f : Fld) (n i : Nat) : (s.bump f n i).pwr = s.pwr := rfl
@[simp] theorem State.wrBit_pwr (s : State) (f : Fld) (b : Nat) (v : Bool) (i : Nat) : (s.wrBit f b v i).pwr = s.pwr := rfl
@[simp] theorem State.emit_pwr (s : State) (o : Out) : (s.emit o).pwr = s.pwr := rfl
@[simp] theorem tick_pwr (s : State) : (tick s).pwr = s.pwr := rfl
@[simp] theorem State.wr_mode (s : State) (f : Fld) (v i : Nat) : (s.wr f v i).mode = s.mode := rfl
@[simp] theorem State.unset_mode (s : State) (f : Fld) (i : Nat) : (s.unset f i).mode = s.mode := rfl
@[simp] theorem State.wrB_mode (s : State) (f : Fld) (b : Bool) (i : Nat) : (s.wrB f b i).mode = s.mode := rfl
@[simp] theorem State.bump_mode (s : State) (f : Fld) (n i : Nat) : (s.bump f n i).mode = s.mode := rfl
@[simp] theorem State.wrBit_mode (s : State) (f : Fld) (b : Nat) (v : Bool) (i : Nat) : (s.wrBit f b v i).mode = s.mode := rfl
@[simp] theorem State.emit_mode (s : State) (o : Out) : (s.emit o).mode = s.mode := rfl
@[simp] theorem tick_mode (s : State) : (tick s).mode = s.mode := rfl
@[simp] theorem State.wr_post (s : State) (f : Fld) (v i : Nat) : (s.wr f v i).post = s.post := rfl
@[simp] theorem State.unset_post (s : State) (f : Fld) (i : Nat) : (s.unset f i).post = s.post := rfl
@[simp] theorem State.wrB_post (s : State) (f : Fld) (b : Bool) (i : Nat) : (s.wrB f b i).post = s.post := rfl
@[simp] theorem State.bump_post (s : State) (f : Fld) (n i : Nat) : (s.bump f n i).post = s.post := rfl
@[simp] theorem State.wrBit_post (s : State) (f : Fld) (b : Nat) (v : Bool) (i : Nat) : (s.wrBit f b v i).post = s.post := rfl
@[simp] theorem State.emit_post (s : State) (o : Out) : (s.emit o).post = s.post := rfl
@[simp] theorem tick_post (s : State) : (tick s).post = s.post := rfl
@[simp] theorem State.wr_cnt (s : State) (f : Fld) (v i : Nat) : (s.wr f v i).cnt = s.cnt := rfl
@[simp] theorem State.unset_cnt (s : State) (f : Fld) (i : Nat) : (s.unset f i).cnt = s.cnt := rfl
@[simp] theorem State.wrB_cnt (s : State) (f : Fld) (b : Bool) (i : Nat) : (s.wrB f b i).cnt = s.cnt := rfl
@[simp] theorem State.bump_cnt (s : State) (f : Fld) (n i : Nat) : (s.bump f n i).cnt = s.cnt := rfl
@[simp] theorem State.wrBit_cnt (s : State) (f : Fld) (b : Nat) (v : Bool) (i : Nat) : (s.wrBit f b v i).cnt = s.cnt := rfl
@[simp] theorem State.emit_cnt (s : State) (o : Out) : (s.emit o).cnt = s.cnt := rfl
@[simp] theorem tick_cnt (s : State) : (tick s).cnt = s.cnt := rfl
@[simp] theorem State.wr_mgt (s : State) (f : Fld) (v i : Nat) : (s.wr f v i).mgt = s.mgt := rfl
@[simp] theorem State.unset_mgt (s : State) (f : Fld) (i : Nat) : (s.unset f i).mgt = s.mgt := rfl
@[simp] theorem State.wrB_mgt (s : State) (f : Fld) (b : Bool) (i : Nat) : (s.wrB f b i).mgt = s.mgt := rfl
@[simp] theorem State.bump_mgt (s : State) (f : Fld) (n i : Nat) : (s.bump f n i).mgt = s.mgt := rfl
@[simp] theorem State.wrBit_mgt (s : State) (f : Fld) (b : Nat) (v : Bool) (i : Nat) : (s.wrBit f b v i).mgt = s.mgt := rfl
@[simp] theorem State.emit_mgt (s : State) (o : Out) : (s.emit o).mgt = s.mgt := rfl
@[simp] theorem tick_mgt (s : State) : (tick s).mgt = s.mgt := rfl
@[simp] theorem State.wr_pins (s : State) (f : Fld) (v i : Nat) : (s.wr f v i).pins = s.pins := rfl
@[simp] theorem State.unset_pins (s : State) (f : Fld) (i : Nat) : (s.unset f i).pins = s.pins := rfl
@[simp] theorem State.wrB_pins (s : State) (f : Fld) (b : Bool) (i : Nat) : (s.wrB f b i).pins = s.pins := rfl
@[simp] theorem State.bump_pins (s : State) (f : Fld) (n i : Nat) : (s.bump f n i).pins = s.pins := rfl
@[simp] theorem State.wrBit_pins (s : State) (f : Fld) (b : Nat) (v : Bool) (i : Nat) : (s.wrBit f b v i).pins = s.pins := rfl
@[simp] theorem State.emit_pins (s : State) (o : Out) : (s.emit o).pins = s.pins := rfl
@[simp] theorem tick_pins (s : State) : (tick s).pins = s.pins := rfl
@[simp] theorem State.wr_time (s : State) (f : Fld) (v i : Nat) : (s.wr f v i).time = s.time := rfl
@[simp] theorem State.unset_time (s : State) (f : Fld) (i : Nat) : (s.unset f i).time = s.time := rfl
@[simp] theorem State.wrB_time (s : State) (f : Fld) (b : Bool) (i : Nat) : (s.wrB f b i).time = s.time := rfl
@[simp] theorem State.bump_time (s : State) (f : Fld) (n i : Nat) : (s.bump f n i).time = s.time := rfl
@[simp] theorem State.wrBit_time (s : State) (f : Fld) (b : Nat) (v : Bool) (i : Nat) : (s.wrBit f b v i).time = s.time := rfl
@[simp] theorem State.emit_time (s : State) (o : Out) : (s.emit o).time = s.time := rfl
@[simp] theorem State.wr_upsets (s : State) (f : Fld) (v i : Nat) : (s.wr f v i).upsets = s.upsets := rfl
@[simp] theorem State.unset_upsets (s : State) (f : Fld) (i : Nat) : (s.unset f i).upsets = s.upsets := rfl
@[simp] theorem State.wrB_upsets (s : State) (f : Fld) (b : Bool) (i : Nat) : (s.wrB f b i).upsets = s.upsets := rfl
@[simp] theorem State.bump_upsets (s : State) (f : Fld) (n i : Nat) : (s.bump f n i).upsets = s.upsets := rfl
@[simp] theorem State.wrBit_upsets (s : State) (f : Fld) (b : Nat) (v : Bool) (i : Nat) : (s.wrBit f b v i).upsets = s.upsets := rfl
@[simp] theorem State.emit_upsets (s : State) (o : Out) : (s.emit o).upsets = s.upsets := rfl
@[simp] theorem tick_upsets (s : State) : (tick s).upsets = s.upsets := rfl
@[simp] theorem State.wr_free (s : State) (f : Fld) (v i : Nat) : (s.wr f v i).free = s.free := rfl
@[simp] theorem State.unset_free (s : State) (f : Fld) (i : Nat) : (s.unset f i).free = s.free := rfl
@[simp] theorem State.wrB_free (s : State) (f : Fld) (b : Bool) (i : Nat) : (s.wrB f b i).free = s.free := rfl
@[simp] theorem State.bump_free (s : State) (f : Fld) (n i : Nat) : (s.bump f n i).free = s.free := rfl
@[simp] theorem State.wrBit_free (s : State) (f : Fld) (b : Nat) (v : Bool) (i : Nat) : (s.wrBit f b v i).free = s.free := rfl
@[simp] theorem State.emit_free (s : State) (o : Out) : (s.emit o).free = s.free := rfl
@[simp] theorem tick_free (s : State) : (tick s).free = s.free := rfl
@[simp] theorem State.wr_out (s : State) (f : Fld) (v i : Nat) : (s.wr f v i).out = s.out := rfl
@[simp] theorem State.unset_out (s : State) (f : Fld) (i : Nat) : (s.unset f i).out = s.out := rfl
@[simp] theorem State.wrB_out (s : State) (f : Fld) (b : Bool) (i : Nat) : (s.wrB f b i).out = s.out := rfl
@[simp] theorem State.bump_out (s : State) (f : Fld) (n i : Nat) : (s.bump f n i).out = s.out := rfl
@[simp] theorem State.wrBit_out (s : State) (f : Fld) (b : Nat) (v : Bool) (i : Nat) : (s.wrBit f b v i).out = s.out := rfl
@[simp] theorem tick_out (s : State) : (tick s).out = s.out := rfl
@[simp] theorem State.wr_pending (s : State) (f : Fld) (v i : Nat) : (s.wr f v i).pending = s.pending := rfl
@[simp] theorem State.unset_pending (s : State) (f : Fld) (i : Nat) : (s.unset f i).pending = s.pending := rfl
@[simp] theorem State.wrB_pending (s : State) (f : Fld) (b : Bool) (i : Nat) : (s.wrB f b i).pending = s.pending := rfl
@[simp] theorem State.bump_pending (s : State) (f : Fld) (n i : Nat) : (s.bump f n i).pending = s.pending := rfl
@[simp] theorem State.wrBit_pending (s : State) (f : Fld) (b : Nat) (v : Bool) (i : Nat) : (s.wrBit f b v i).pending = s.pending := rfl
@[simp] theorem State.emit_pending (s : State) (o : Out) : (s.emit o).pending = s.pending := rfl
@[simp] theorem tick_pending (s : State) : (tick s).pending = s.pending := rfl
@[simp] theorem State.emit_out (s : State) (o : Out) : (s.emit o).out = s.out ++ [o] := rfl

end Sys2Proof.Machine
end

