-- ==== Sys2Proof/Laws/Regs.lean ====
section
/-! SUPPORT. Finite maps and register fields: what a read gives after a write. -/
namespace Sys2Proof

theorem Map.find_put {α : Type} (m : Map α) (k : Nat) (v : α) (j : Nat) :
    (m.put k v).find j = if j = k then some v else m.find j := by
  induction m with
  | nil => simp [Map.put, Map.find, eq_comm]
  | cons x m ih =>
    obtain ⟨a, w⟩ := x
    simp only [Map.put]
    by_cases h1 : k < a
    · by_cases h2 : j = k
      · subst h2; simp [h1, Map.find]
      · simp [h1, Map.find, h2, Ne.symm h2]
    · by_cases h3 : k = a
      · subst h3
        by_cases h2 : j = k
        · subst h2; simp [Map.find]
        · simp [Map.find, h2, Ne.symm h2]
      · by_cases h4 : a = j
        · subst h4; simp [h1, h3, Map.find, Ne.symm h3]
        · simp [h1, h3, Map.find, ih, h4]

theorem Map.find_del {α : Type} (m : Map α) (k j : Nat) : (m.del k).find j = if j = k then none else m.find j := by
  induction m with
  | nil => simp [Map.del, Map.find]
  | cons x m ih =>
    obtain ⟨a, w⟩ := x
    simp only [Map.del]
    split
    · subst_vars; rw [ih]; split
      · rfl
      · simp only [Map.find]; rw [if_neg (by omega)]
    · simp only [Map.find, ih]; split <;> split <;> simp_all

theorem Map.get_put {α : Type} (m : Map α) (k : Nat) (v : α) (j : Nat) (d : α) :
    (m.put k v).get j d = if j = k then v else m.get j d := by
  unfold Map.get; rw [Map.find_put]; split <;> rfl

theorem Map.get_del {α : Type} (m : Map α) (k j : Nat) (d : α) : (m.del k).get j d = if j = k then d else m.get j d := by
  unfold Map.get; rw [Map.find_del]; split <;> rfl

theorem Map.mem_put {α : Type} {m : Map α} {k : Nat} {v : α} {x : Nat × α} (h : x ∈ m.put k v) : x = (k, v) ∨ x ∈ m := by
  induction m with
  | nil => simpa [Map.put] using h
  | cons y m ih =>
    obtain ⟨a, w⟩ := y
    simp only [Map.put] at h
    split at h
    · simpa using h
    · split at h
      · rcases List.mem_cons.1 h with h | h
        · exact .inl h
        · exact .inr (List.mem_cons_of_mem _ h)
      · rcases List.mem_cons.1 h with h | h
        · exact .inr (by simp [h])
        · rcases ih h with h | h
          · exact .inl h
          · exact .inr (List.mem_cons_of_mem _ h)

theorem Map.mem_del {α : Type} {m : Map α} {k : Nat} {x : Nat × α} (h : x ∈ m.del k) : x ∈ m := by
  induction m with
  | nil => simp [Map.del] at h
  | cons y m ih =>
    obtain ⟨a, w⟩ := y
    simp only [Map.del] at h
    split at h
    · exact List.mem_cons_of_mem _ (ih h)
    · rcases List.mem_cons.1 h with h | h
      · simp [h]
      · exact List.mem_cons_of_mem _ (ih h)

/-- Setting a key keeps the canonical form. -/
theorem Map.wf_put {α : Type} {m : Map α} (h : m.wf) (k : Nat) (v : α) : (m.put k v).wf := by
  induction m with
  | nil => simp [Map.put, Map.wf]
  | cons y m ih =>
    obtain ⟨a, w⟩ := y
    have hp := List.pairwise_cons.1 h
    simp only [Map.put]
    split
    · refine List.pairwise_cons.2 ⟨?_, h⟩
      intro x hx
      rcases List.mem_cons.1 hx with rfl | hx
      · assumption
      · have := hp.1 x hx; simp at this ⊢; omega
    · split
      · subst_vars; exact List.pairwise_cons.2 ⟨hp.1, hp.2⟩
      · refine List.pairwise_cons.2 ⟨?_, ih hp.2⟩
        intro x hx
        rcases Map.mem_put hx with rfl | hx
        · simp; omega
        · exact hp.1 x hx

/-- Removing a key keeps the canonical form. -/
theorem Map.wf_del {α : Type} {m : Map α} (h : m.wf) (k : Nat) : (m.del k).wf := by
  induction m with
  | nil => simp [Map.del, Map.wf]
  | cons y m ih =>
    obtain ⟨a, w⟩ := y
    have hp := List.pairwise_cons.1 h
    simp only [Map.del]
    split
    · exact ih hp.2
    · exact List.pairwise_cons.2 ⟨fun x hx => hp.1 x (Map.mem_del hx), ih hp.2⟩

namespace Machine

theorem Fld.key_inj {f g : Fld} {i j : Nat} : f.key i = g.key j ↔ f.id = g.id ∧ i = j := Nat.pair_eq_pair

/-- A field is as wide as its table says. -/
theorem State.rd_lt (s : State) (f : Fld) (i : Nat) : s.rd f i < 2 ^ f.w := Nat.mod_lt _ (Nat.two_pow_pos _)

/-- A field reads as what it was set to, cut to its width. -/
theorem State.rd_wr_same (s : State) (f : Fld) (v i : Nat) : (s.wr f v i).rd f i = v % 2 ^ f.w := by
  unfold State.rd State.wr
  simp only [Map.get_put, if_true, Nat.mod_mod]

/-- A field of another place reads as before. -/
theorem State.rd_wr_of (s : State) (f : Fld) (v i : Nat) (g : Fld) (j : Nat) (h : ¬(g.id = f.id ∧ j = i)) :
    (s.wr f v i).rd g j = s.rd g j := by
  unfold State.rd State.wr
  simp only [Map.get_put, Fld.key_inj, if_neg h]

/-- What a field reads as after it is set at some index. -/
theorem State.rd_wr (s : State) (f : Fld) (v i j : Nat) :
    (s.wr f v i).rd f j = if j = i then v % 2 ^ f.w else s.rd f j := by
  split
  · subst_vars; exact State.rd_wr_same _ _ _ _
  · rename_i h; exact State.rd_wr_of _ _ _ _ _ _ (fun e => h e.2)

/-- Setting one field leaves another alone. -/
theorem State.rd_wr_ne (s : State) (f : Fld) (v i : Nat) (g : Fld) (j : Nat) (h : g.id ≠ f.id) : (s.wr f v i).rd g j = s.rd g j := by
  exact State.rd_wr_of _ _ _ _ _ _ (fun e => h e.1)

@[simp] theorem State.emit_rd (s : State) (o : Out) (f : Fld) (i : Nat) : (s.emit o).rd f i = s.rd f i := rfl
@[simp] theorem tick_rd (s : State) (f : Fld) (i : Nat) : (tick s).rd f i = s.rd f i := rfl

theorem State.rd_bump_ne (s : State) (f : Fld) (n i : Nat) (g : Fld) (j : Nat) (h : g.id ≠ f.id) : (s.bump f n i).rd g j = s.rd g j :=
  State.rd_wr_ne _ _ _ _ _ _ h
theorem State.rd_wrB_ne (s : State) (f : Fld) (b : Bool) (i : Nat) (g : Fld) (j : Nat) (h : g.id ≠ f.id) :
    (s.wrB f b i).rd g j = s.rd g j := State.rd_wr_ne _ _ _ _ _ _ h
theorem State.rd_wrBit_ne (s : State) (f : Fld) (b : Nat) (v : Bool) (i : Nat) (g : Fld) (j : Nat) (h : g.id ≠ f.id) :
    (s.wrBit f b v i).rd g j = s.rd g j := State.rd_wr_ne _ _ _ _ _ _ h

/-- A state with the same registers and part reads the same. -/
theorem State.rd_congr {s t : State} (hr : t.regs = s.regs) (hp : t.part = s.part) (f : Fld) (i : Nat) : t.rd f i = s.rd f i := by
  unfold State.rd; rw [hr, hp]

end Machine
end Sys2Proof
end

