-- ==== Sys2Proof/Laws/Keeps.lean ====
section
/-! SUPPORT. The closing work of a command: what raising events, counting and queueing records leave alone. -/
namespace Sys2Proof.Machine

theorem Keeps.refl (s : State) : Keeps s s where
  part := rfl
  regs _ _ _ := rfl
  pend _ h := h
  modes := .inl rfl
  mem := rfl
  home := rfl
  fc := rfl
  keys := rfl
  cap := rfl
  work := rfl
  nextWork := rfl
  flt := rfl
  policy := rfl
  dcLog := rfl
  qos := rfl
  ports := rfl
  flush := rfl
  dram := rfl
  media := rfl
  flume := rfl
  cou := rfl
  pwr := rfl
  mode := rfl
  post := rfl
  cnt := rfl
  mgt := rfl
  pins := rfl
  time := rfl
  upsets := rfl
  free := rfl
  out := ⟨[], by simp⟩
  pending := rfl

theorem Keeps.trans {a b c : State} (h : Keeps a b) (k : Keeps b c) : Keeps a c where
  part := k.part.trans h.part
  regs f i e := (k.regs f i e).trans (h.regs f i e)
  pend src e := k.pend src (h.pend src e)
  modes := by
    rcases k.modes with e | ⟨e1, e2⟩
    · rcases h.modes with d | ⟨d1, d2⟩
      · exact .inl (e.trans d)
      · exact .inr ⟨d1, by rw [e]; exact d2⟩
    · rcases h.modes with d | ⟨d1, d2⟩
      · exact .inr ⟨by rw [← d]; exact e1, e2⟩
      · exact .inr ⟨d1, e2⟩
  mem := by rw [k.mem, h.mem]
  home := k.home.trans h.home
  fc := k.fc.trans h.fc
  keys := k.keys.trans h.keys
  cap := by rw [k.cap, h.cap]
  work := k.work.trans h.work
  nextWork := k.nextWork.trans h.nextWork
  flt := by rw [k.flt, h.flt]
  policy := k.policy.trans h.policy
  dcLog := k.dcLog.trans h.dcLog
  qos := k.qos.trans h.qos
  ports := by rw [k.ports, h.ports]
  flush := k.flush.trans h.flush
  dram := k.dram.trans h.dram
  media := k.media.trans h.media
  flume := k.flume.trans h.flume
  cou := k.cou.trans h.cou
  pwr := k.pwr.trans h.pwr
  mode := k.mode.trans h.mode
  post := k.post.trans h.post
  cnt := k.cnt.trans h.cnt
  mgt := k.mgt.trans h.mgt
  pins := k.pins.trans h.pins
  time := k.time.trans h.time
  upsets := k.upsets.trans h.upsets
  free := k.free.trans h.free
  out := by
    obtain ⟨l, hl⟩ := h.out
    obtain ⟨m, hm⟩ := k.out
    exact ⟨l ++ m, by rw [hm, hl, List.append_assoc]⟩
  pending := k.pending.trans h.pending

/-- A fold of operations that each keep a state keeps it. -/
theorem Keeps.forAll {α : Type} (l : List α) (f : α → State → State) (h : ∀ a ∈ l, ∀ s, Keeps s (f a s)) (s : State) :
    Keeps s (Sys2Proof.Machine.forAll l f s) := by
  unfold Sys2Proof.Machine.forAll
  induction l generalizing s with
  | nil => exact .refl s
  | cons a l ih =>
    exact (h a (by simp) s).trans (ih (fun b hb => h b (by simp [hb])) _)

theorem Keeps.foldl {α : Type} (l : List α) (f : State → α → State) (h : ∀ a s, Keeps s (f s a)) (s : State) :
    Keeps s (l.foldl f s) := by
  induction l generalizing s with
  | nil => exact .refl s
  | cons a l ih => exact (h a s).trans (ih _)

theorem Keeps.ite {p : Prop} [Decidable p] {s a b : State} (h : Keeps s a) (k : Keeps s b) : Keeps s (if p then a else b) := by
  split <;> assumption

/-- A field of the closing work that is neither the mode nor a pending bit. -/
theorem Keeps.wr (s : State) (f : Fld) (v i : Nat) (h : closingFlds.contains f.id = true) (hm : f.id ≠ MOD_STATE_STATE.id)
    (hp : f.id ≠ EVT_PEND_PEND.id) : Keeps s (s.wr f v i) :=
  { Keeps.refl s with
    regs := fun g j e => State.rd_wr_ne s f v i g j (fun e' => by rw [e', h] at e; cases e)
    pend := fun src e => by
      unfold State.rdBit at e ⊢; rw [State.rd_wr_ne _ _ _ _ _ _ (Ne.symm hp)]; exact e
    modes := .inl (by unfold State.modeCode; exact State.rd_wr_ne _ _ _ _ _ _ (Ne.symm hm)) }

theorem Keeps.bump (s : State) (f : Fld) (n i : Nat) (h : closingFlds.contains f.id = true) (hm : f.id ≠ MOD_STATE_STATE.id)
    (hp : f.id ≠ EVT_PEND_PEND.id) : Keeps s (s.bump f n i) := Keeps.wr s f _ i h hm hp

theorem Keeps.wrBit (s : State) (f : Fld) (b : Nat) (v : Bool) (i : Nat) (h : closingFlds.contains f.id = true)
    (hm : f.id ≠ MOD_STATE_STATE.id) (hp : f.id ≠ EVT_PEND_PEND.id) : Keeps s (s.wrBit f b v i) := Keeps.wr s f _ i h hm hp

theorem Keeps.wrB (s : State) (f : Fld) (v : Bool) (i : Nat) (h : closingFlds.contains f.id = true)
    (hm : f.id ≠ MOD_STATE_STATE.id) (hp : f.id ≠ EVT_PEND_PEND.id) : Keeps s (s.wrB f v i) := Keeps.wr s f _ i h hm hp

theorem Keeps.emit (s : State) (o : Out) : Keeps s (s.emit o) :=
  { Keeps.refl s with
    regs := fun _ _ _ => rfl
    pend := fun _ e => e
    modes := .inl rfl
    out := ⟨[o], rfl⟩ }

/-- Changes to the delivery records of events. -/
theorem Keeps.evt (s : State) (e : Evt) (hp : e.policy = s.evt.policy) (hd : e.dcLog = s.evt.dcLog) : Keeps s { s with evt := e } :=
  { Keeps.refl s with
    regs := fun _ _ _ => rfl
    pend := fun _ e => e
    modes := .inl rfl
    policy := hp
    dcLog := hd }

theorem Keeps.msixPend (s : State) (l : List Nat) : Keeps s { s with ports := { s.ports with msixPend := l } } :=
  { Keeps.refl s with
    regs := fun _ _ _ => rfl
    pend := fun _ e => e
    ports := rfl
    modes := .inl rfl }

theorem Keeps.book (s : State) (b : Book) : Keeps s (setBook b s) :=
  { Keeps.refl s with
    regs := fun _ _ _ => rfl
    pend := fun _ e => e
    modes := .inl rfl }

theorem Keeps.queue (s : State) (q x : List FaultRec) : Keeps s { s with flt := { s.flt with queue := q, extra := x } } :=
  { Keeps.refl s with
    regs := fun _ _ _ => rfl
    pend := fun _ e => e
    flt := rfl
    modes := .inl rfl }

theorem Keeps.rootMark (s : State) (n : Nat) : Keeps s { s with mem := { s.mem with rootMark := n } } :=
  { Keeps.refl s with
    regs := fun _ _ _ => rfl
    pend := fun _ e => e
    mem := rfl
    modes := .inl rfl }

theorem Keeps.debt (s : State) (m : Map Nat) : Keeps s { s with cap := { s.cap with debt := m } } :=
  { Keeps.refl s with
    regs := fun _ _ _ => rfl
    pend := fun _ e => e
    cap := rfl
    modes := .inl rfl }

/-! Events. -/

/-- A pending bit that is set. -/
theorem pend_set (s : State) (src : Nat) :
    (s.wrBit EVT_PEND_PEND (src % 64) true (src / 64)).rdBit EVT_PEND_PEND (src % 64) (src / 64) = true := by
  unfold State.rdBit State.wrBit
  rw [State.rd_wr_same]
  have hw : EVT_PEND_PEND.w = 64 := rfl
  simp only [if_true, hw, Nat.testBit_mod_two_pow, Nat.testBit_or, Nat.testBit_two_pow_self]
  simp; omega

theorem Keeps.pendBit (s : State) (b i : Nat) : Keeps s (s.wrBit EVT_PEND_PEND b true i) :=
  { Keeps.refl s with
    regs := fun g j e => State.rd_wr_ne s _ _ i g j (fun e' => by rw [e'] at e; exact absurd e (by decide))
    pend := fun src e => by
      unfold State.rdBit State.wrBit at *
      rw [State.rd_wr]
      have hw : EVT_PEND_PEND.w = 64 := rfl
      split
      · rename_i h
        rw [h] at e
        simp only [if_true, hw, Nat.testBit_mod_two_pow, Nat.testBit_or, e]
        simp; omega
      · exact e
    modes := .inl (State.rd_wr_ne _ _ _ _ _ _ (by decide)) }

theorem Keeps.msixSend (h v : Nat) (s : State) : Keeps s (msixSend h v s) := by
  unfold Sys2Proof.Machine.msixSend
  split
  · exact .msixPend _ _
  · exact .emit _ _

theorem Keeps.logEvent (src unit h l : Nat) (s : State) : Keeps s (logEvent src unit h l s) := by
  unfold Sys2Proof.Machine.logEvent
  dsimp only
  split
  · split
    · refine Keeps.trans ?_ (.msixSend _ _ _)
      exact .evt s _ rfl rfl
    · exact .evt s _ rfl rfl
  · exact (Keeps.bump s EVT_CNT_LOGOVF 1 0 (by decide) (by decide) (by decide)).trans (.evt _ _ rfl rfl)

theorem Keeps.clerkEvent (src : Nat) (s : State) : Keeps s (clerkEvent src s) := by
  unfold Sys2Proof.Machine.clerkEvent
  split
  · exact .bump _ _ _ _ (by decide) (by decide) (by decide)
  · split
    · exact .evt s _ rfl rfl
    · exact .bump _ _ _ _ (by decide) (by decide) (by decide)

theorem Keeps.forHeads (m : Heads) (f : Nat → State → State) (h : ∀ i s, Keeps s (f i s)) (s : State) :
    Keeps s (Sys2Proof.Machine.forHeads m f s) := by
  unfold Sys2Proof.Machine.forHeads
  exact .foldl _ _ (fun a s => by split <;> [exact h a s; exact .refl s]) s

theorem Keeps.raiseCore_from (src unit vec : Nat) (s : State) (hr : sourceReserved src = false) :
    Keeps (s.wrBit EVT_PEND_PEND (src % 64) true (src / 64)) (raiseCore src unit vec s) := by
  unfold Sys2Proof.Machine.raiseCore
  rw [if_neg (by simp [hr])]
  dsimp only
  have h1 := Keeps.bump (s.wrBit EVT_PEND_PEND (src % 64) true (src / 64)) EVT_CNT_RAISED 1 0 (by decide) (by decide) (by decide)
  have h2 := h1.trans (Keeps.evt ((s.wrBit EVT_PEND_PEND (src % 64) true (src / 64)).bump EVT_CNT_RAISED 1)
      { s.evt with since := s.evt.since.put (Nat.pair 0 src) (s.evt.since.get (Nat.pair 0 src) 0 + 1) } rfl rfl)
  have h3 := h2.trans (Keeps.forHeads (eventHeads s src) (fun h s => Sys2Proof.Machine.msixSend h vec s) (fun i s => .msixSend i vec s) _)
  refine h3.trans ?_
  split <;> split
  · exact (Keeps.forHeads _ _ (fun i s => .logEvent _ _ _ _ s) _).trans (.clerkEvent _ _)
  · exact Keeps.forHeads _ _ (fun i s => .logEvent _ _ _ _ s) _
  · exact .clerkEvent _ _
  · exact .refl _

theorem Keeps.raiseCore (src unit vec : Nat) (s : State) : Keeps s (raiseCore src unit vec s) := by
  by_cases hr : sourceReserved src
  · unfold Sys2Proof.Machine.raiseCore; rw [if_pos hr]; exact .refl s
  · exact (Keeps.pendBit s _ _).trans (.raiseCore_from src unit vec s (by simpa using hr))

theorem Keeps.addCount (again : State → State) (h : ∀ s, Keeps s (again s)) (i n : Nat) (s : State) :
    Keeps s (addCount again i n s) := by
  unfold Sys2Proof.Machine.addCount
  dsimp only
  split
  · exact .wr _ _ _ _ (by decide) (by decide) (by decide)
  · have h1 := Keeps.wr s CNT_VAL_VALUE (2 ^ 48 - 1) i (by decide) (by decide) (by decide)
    split
    · exact h1
    · exact ((h1.trans (.wrBit _ CNT_SAT_SAT _ _ _ (by decide) (by decide) (by decide))).trans (.raiseCore _ _ _ _)).trans (h _)

theorem Keeps.countEvent (fuel ev : Nat) (who : Option (Nat × Nat)) (unit n : Nat) (s : State) :
    Keeps s (countEvent fuel ev who unit n s) := by
  induction fuel generalizing ev who unit n s with
  | zero => exact .refl s
  | succ fuel ih =>
    unfold Sys2Proof.Machine.countEvent
    split
    · exact .refl s
    · exact .foldl _ _ (fun a s => by split <;> [exact .addCount _ (fun s => ih _ _ _ _ s) _ _ _; exact .refl s]) s

theorem Keeps.count (ev : Nat) (who : Option (Nat × Nat)) (unit n : Nat) (s : State) : Keeps s (count ev who unit n s) :=
  .countEvent _ _ _ _ _ s

theorem Keeps.raiseVec (src unit vec : Nat) (s : State) : Keeps s (raiseVec src unit vec s) := by
  unfold Sys2Proof.Machine.raiseVec
  split
  · exact .refl s
  · exact (Keeps.raiseCore _ _ _ s).trans (.count _ _ _ _ _)

theorem Keeps.raiseUnit (src unit : Nat) (s : State) : Keeps s (raiseUnit src unit s) := .raiseVec _ _ _ s

/-- Raising an event changes nothing but its delivery (R439). -/
theorem Keeps.raise (src : Nat) (s : State) : Keeps s (raise src s) := .raiseUnit _ _ s

theorem Keeps.raiseLimited (src key : Nat) (s : State) : Keeps s (raiseLimited src key s) := by
  unfold Sys2Proof.Machine.raiseLimited
  split
  · split
    · exact .refl s
    · refine Keeps.trans ?_ (.raise _ _)
      exact .evt s _ rfl rfl
  · refine Keeps.trans ?_ (.raise _ _)
    exact .evt s _ rfl rfl

/-- An event that is raised has its pending bit set (R439). -/
theorem raise_pend (src : Nat) (s : State) (hr : sourceReserved src = false) :
    (raise src s).rdBit EVT_PEND_PEND (src % 64) (src / 64) = true := by
  unfold Sys2Proof.Machine.raise Sys2Proof.Machine.raiseUnit Sys2Proof.Machine.raiseVec
  rw [if_neg (by simp [hr])]
  exact (Keeps.count _ _ _ _ _).pend src ((Keeps.raiseCore_from src _ _ s hr).pend src (pend_set s src))

/-! Records. -/

theorem Keeps.queueRec (r : FaultRec) (s : State) : Keeps s (queueRec r s) := by
  unfold Sys2Proof.Machine.queueRec
  have q : ∀ l, Keeps s { s with flt := { s.flt with queue := l } } := fun l => .queue s l s.flt.extra
  have x : ∀ l, Keeps s { s with flt := { s.flt with extra := l } } := fun l => .queue s s.flt.queue l
  split
  · exact q _
  · split
    · exact ((q _).trans (.bump _ FLT_CNT_QDROP 1 0 (by decide) (by decide) (by decide))).trans (.raise _ _)
    · split
      · exact x _
      · exact (Keeps.bump s FLT_CNT_QDROP 1 0 (by decide) (by decide) (by decide)).trans (.raise _ _)

theorem Keeps.noteRec (src d1 d2 : Nat) (s : State) : Keeps s (noteRec src d1 d2 s) := .queueRec _ s

theorem Keeps.mgmtFault (idx src : Nat) (s : State) : Keeps s (mgmtFault idx src s) := by
  unfold Sys2Proof.Machine.mgmtFault
  dsimp only
  have h := (((Keeps.wr s FLT_LAST_UNIT (11 * 256 + idx) 0 (by decide) (by decide) (by decide)).trans
    (.wr _ FLT_LAST_CLASS 3 0 (by decide) (by decide) (by decide))).trans
    (.wr _ FLT_LAST_ESC 0 0 (by decide) (by decide) (by decide))).trans
    (.wr _ FLT_LAST_SRC src 0 (by decide) (by decide) (by decide))
  exact ((h.trans (.queueRec _ _)).trans (.bump _ FLT_CNT_MGT 1 0 (by decide) (by decide) (by decide))).trans (.raiseLimited _ _ _)

end Sys2Proof.Machine
end

