-- ==== Sys2Proof/Laws/Events.lean ====
section
/-! SUPPORT. What raising an event writes (R439, R459): the registers of event delivery and of the counters, and nothing of the parcel
accounting. -/
namespace Sys2Proof.Machine

/-- The registers that raising an event may write. -/
def eventFlds : List Nat := [EVT_PEND_PEND, EVT_CNT_RAISED, EVT_CNT_LOGOVF, EVT_CNT_CLKDROP, PST_CALLS_EVDROP, CNT_VAL_VALUE, CNT_SAT_SAT].map Fld.id

/-- A state is another but for event delivery. -/
structure Delivered (s t : State) : Prop where
  regs : ∀ (f : Fld) (i : Nat), eventFlds.contains f.id = false → t.rd f i = s.rd f i
  cap : t.cap = s.cap
  post : t.post = s.post

theorem Delivered.refl (s : State) : Delivered s s := ⟨fun _ _ _ => rfl, rfl, rfl⟩
theorem Delivered.trans {a b c : State} (h : Delivered a b) (k : Delivered b c) : Delivered a c :=
  ⟨fun f i e => (k.regs f i e).trans (h.regs f i e), k.cap.trans h.cap, k.post.trans h.post⟩

theorem Delivered.wr (s : State) (f : Fld) (v i : Nat) (h : eventFlds.contains f.id = true) : Delivered s (s.wr f v i) :=
  ⟨fun g j e => State.rd_wr_ne s f v i g j (fun e' => by rw [e', h] at e; cases e), rfl, rfl⟩

theorem Delivered.foldl {α : Type} (l : List α) (f : State → α → State) (h : ∀ a s, Delivered s (f s a)) (s : State) :
    Delivered s (l.foldl f s) := by
  induction l generalizing s with
  | nil => exact .refl s
  | cons a l ih => exact (h a s).trans (ih _)

theorem Delivered.forHeads (m : Heads) (f : Nat → State → State) (h : ∀ i s, Delivered s (f i s)) (s : State) :
    Delivered s (Sys2Proof.Machine.forHeads m f s) := by
  unfold Sys2Proof.Machine.forHeads
  exact .foldl _ _ (fun a s => by split <;> [exact h a s; exact .refl s]) s

theorem Delivered.msixSend (h v : Nat) (s : State) : Delivered s (msixSend h v s) := by
  unfold Sys2Proof.Machine.msixSend
  split <;> exact ⟨fun _ _ _ => rfl, rfl, rfl⟩

theorem Delivered.logEvent (src unit h l : Nat) (s : State) : Delivered s (logEvent src unit h l s) := by
  unfold Sys2Proof.Machine.logEvent
  dsimp only
  split
  · split
    · refine Delivered.trans ?_ (.msixSend _ _ _)
      exact ⟨fun _ _ _ => rfl, rfl, rfl⟩
    · exact ⟨fun _ _ _ => rfl, rfl, rfl⟩
  · exact (Delivered.wr s EVT_CNT_LOGOVF (min (s.rd EVT_CNT_LOGOVF 0 + 1) (2 ^ EVT_CNT_LOGOVF.w - 1)) 0 (by decide)).trans
      ⟨fun _ _ _ => rfl, rfl, rfl⟩

theorem Delivered.clerkEvent (src : Nat) (s : State) : Delivered s (clerkEvent src s) := by
  unfold Sys2Proof.Machine.clerkEvent
  split
  · exact .wr s PST_CALLS_EVDROP _ 0 (by decide)
  · split
    · exact ⟨fun _ _ _ => rfl, rfl, rfl⟩
    · exact .wr s EVT_CNT_CLKDROP _ 0 (by decide)

theorem Delivered.raiseCore (src unit vec : Nat) (s : State) : Delivered s (raiseCore src unit vec s) := by
  unfold Sys2Proof.Machine.raiseCore
  split
  · exact .refl s
  · dsimp only
    have h1 := (Delivered.wr s EVT_PEND_PEND _ (src / 64) (by decide)).trans
      (.wr (s.wrBit EVT_PEND_PEND (src % 64) true (src / 64)) EVT_CNT_RAISED
        (min ((s.wrBit EVT_PEND_PEND (src % 64) true (src / 64)).rd EVT_CNT_RAISED 0 + 1) (2 ^ EVT_CNT_RAISED.w - 1)) 0 (by decide))
    have h2 : Delivered s { (s.wrBit EVT_PEND_PEND (src % 64) true (src / 64)).bump EVT_CNT_RAISED 1 with
        evt := { s.evt with since := s.evt.since.put (Nat.pair 0 src) (s.evt.since.get (Nat.pair 0 src) 0 + 1) } } :=
      h1.trans ⟨fun _ _ _ => rfl, rfl, rfl⟩
    have h3 := h2.trans (Delivered.forHeads (eventHeads s src) (fun h s => Sys2Proof.Machine.msixSend h vec s)
      (fun i s => .msixSend i vec s) _)
    refine h3.trans ?_
    split <;> split
    · exact (Delivered.forHeads _ _ (fun i s => .logEvent _ _ _ _ s) _).trans (.clerkEvent _ _)
    · exact Delivered.forHeads _ _ (fun i s => .logEvent _ _ _ _ s) _
    · exact .clerkEvent _ _
    · exact .refl _

theorem Delivered.addCount (again : State → State) (h : ∀ s, Delivered s (again s)) (i n : Nat) (s : State) :
    Delivered s (addCount again i n s) := by
  unfold Sys2Proof.Machine.addCount
  dsimp only
  split
  · exact .wr _ _ _ _ (by decide)
  · have h1 := Delivered.wr s CNT_VAL_VALUE (2 ^ 48 - 1) i (by decide)
    split
    · exact h1
    · exact ((h1.trans (.wr _ CNT_SAT_SAT _ _ (by decide))).trans (.raiseCore _ _ _ _)).trans (h _)

theorem Delivered.countEvent (fuel ev : Nat) (who : Option (Nat × Nat)) (unit n : Nat) (s : State) :
    Delivered s (countEvent fuel ev who unit n s) := by
  induction fuel generalizing ev who unit n s with
  | zero => exact .refl s
  | succ fuel ih =>
    unfold Sys2Proof.Machine.countEvent
    split
    · exact .refl s
    · exact .foldl _ _ (fun a s => by split <;> [exact .addCount _ (fun s => ih _ _ _ _ s) _ _ _; exact .refl s]) s

/-- Counting an occurrence writes the counters alone. -/
theorem Delivered.count (ev : Nat) (who : Option (Nat × Nat)) (unit n : Nat) (s : State) : Delivered s (count ev who unit n s) :=
  .countEvent _ _ _ _ _ s

theorem Delivered.raiseVec (src unit vec : Nat) (s : State) : Delivered s (raiseVec src unit vec s) := by
  unfold Sys2Proof.Machine.raiseVec
  split
  · exact .refl s
  · exact (Delivered.raiseCore _ _ _ s).trans (.count _ _ _ _ _)

/-- Raising an event writes nothing but its delivery. -/
theorem Delivered.raise (src : Nat) (s : State) : Delivered s (raise src s) := .raiseVec _ _ _ s

/-- A field that no event delivery writes reads as before a raise. -/
theorem raise_rd (src : Nat) (s : State) (f : Fld) (i : Nat) (h : eventFlds.contains f.id = false) : (raise src s).rd f i = s.rd f i :=
  (Delivered.raise src s).regs f i h

end Sys2Proof.Machine
end

