-- ==== Sys2Proof/Laws/Settle.lean ====
section
/-! SUPPORT. The end of a command: what it leaves alone in a calm state, and what holds after it in every state. -/
namespace Sys2Proof.Machine

/-! The Logbook's requests. -/

theorem Keeps.retirePage (p k : Nat) (s : State) : Keeps s (retirePage p k s) := by
  unfold Sys2Proof.Machine.retirePage
  dsimp only
  split
  · refine Keeps.trans ?_ (.raise _ _)
    refine Keeps.trans ?_ (.book _ _)
    exact (Keeps.book s _).trans (.raise 977 _)
  · refine Keeps.trans ?_ (.book _ _)
    exact (Keeps.book s _).trans (.raise 977 _)

theorem Keeps.chooseShadow (p n : Nat) (s : State) : Keeps s (chooseShadow p n s).2 := by
  induction n generalizing s with
  | zero => exact .refl s
  | succ n ih =>
    unfold Sys2Proof.Machine.chooseShadow
    split
    · exact .refl s
    · split
      · exact (Keeps.retirePage _ _ s).trans (ih _)
      · exact .refl s

theorem Keeps.refuseWrite (w : LogWrite) (res : Nat) (s : State) : Keeps s (refuseWrite w res s) := by
  unfold Sys2Proof.Machine.refuseWrite
  dsimp only
  have h1 := Keeps.wr s LOG_STAT_LASTRES res 0 (by decide) (by decide) (by decide)
  have h2 : Keeps s (if res = 1 then Sys2Proof.Machine.raiseLimited 976 0 ((s.wr LOG_STAT_LASTRES res).bump LOG_CNT_BUSY 1)
      else s.wr LOG_STAT_LASTRES res) := by
    split
    · exact (h1.trans (.bump _ LOG_CNT_BUSY 1 0 (by decide) (by decide) (by decide))).trans (.raiseLimited _ _ _)
    · exact h1
  generalize (if res = 1 then Sys2Proof.Machine.raiseLimited 976 0 ((s.wr LOG_STAT_LASTRES res).bump LOG_CNT_BUSY 1)
      else s.wr LOG_STAT_LASTRES res) = u at h2 ⊢
  have h3 : Keeps s (if res = 5 then Sys2Proof.Machine.mgmtFault 3 31 u else u) := by
    split
    · exact h2.trans (.mgmtFault _ _ _)
    · exact h2
  generalize (if res = 5 then Sys2Proof.Machine.mgmtFault 3 31 u else u) = v at h3 ⊢
  split
  · exact h3.trans (.book _ _)
  · exact h3

theorem Keeps.logPump (n : Nat) (s : State) : Keeps s (logPump n s) := by
  induction n generalizing s with
  | zero => exact .refl s
  | succ n ih =>
    unfold Sys2Proof.Machine.logPump
    split
    · exact .refl s
    · split
      · exact .refl s
      · rename_i w _
        dsimp only
        have h1 := Keeps.book s { s.book with queue := s.book.queue.filter (· ≠ w) }
        generalize setBook { s.book with queue := s.book.queue.filter (· ≠ w) } s = u at h1 ⊢
        split
        · exact (h1.trans (.refuseWrite _ _ _)).trans (ih _)
        · have h2 := h1.trans (Keeps.chooseShadow w.part 4096 u)
          split
          · rename_i v e
            rw [e] at h2
            exact ((h2.trans (.raise _ _)).trans (.refuseWrite _ _ _)).trans (ih _)
          · rename_i k wear v e
            rw [e] at h2
            dsimp only at h2
            refine Keeps.trans ?_ (.book _ _)
            have h3 : Keeps s (if w.job = .ring then { v with flt := { v.flt with
                queue := v.flt.queue.drop (v.jobPage w.part w.job).2.2.length,
                extra := v.flt.extra.drop ((v.jobPage w.part w.job).2.2.length - v.flt.queue.length) } } else v) := by
              split
              · exact h2.trans (.queue _ _ _)
              · exact h2
            generalize (if w.job = .ring then { v with flt := { v.flt with
                queue := v.flt.queue.drop (v.jobPage w.part w.job).2.2.length,
                extra := v.flt.extra.drop ((v.jobPage w.part w.job).2.2.length - v.flt.queue.length) } } else v) = x at h3 ⊢
            split
            · exact h3.trans (.rootMark _ _)
            · exact h3

theorem Keeps.logSend (prio p : Nat) (job : LogJob) (r : Bool) (s : State) : Keeps s (logSend prio p job r s) := by
  unfold Sys2Proof.Machine.logSend
  exact (Keeps.book s _).trans (.logPump _ _)

theorem Keeps.pumpRing (s : State) : Keeps s (pumpRing s) := by
  unfold Sys2Proof.Machine.pumpRing
  exact .ite (.refl s) (.logSend _ _ _ _ s)

/-! The pressure level. -/

theorem Keeps.fallLevel (n : Nat) (s : State) : Keeps s (fallLevel n s) := by
  induction n generalizing s with
  | zero => exact .refl s
  | succ n ih =>
    unfold Sys2Proof.Machine.fallLevel
    dsimp only
    split
    · exact ((Keeps.wr s CAP_GPOOL_LEVEL _ 0 (by decide) (by decide) (by decide)).trans (.raise _ _)).trans (ih _)
    · exact .refl s

theorem Keeps.repayHead (h : Nat) (s : State) : Keeps s (repayHead h s) := by
  unfold Sys2Proof.Machine.repayHead
  dsimp only
  split
  · exact .refl s
  · exact .debt s _

theorem Keeps.riseLevel (s : State) : Keeps s (riseLevel s) := by
  unfold Sys2Proof.Machine.riseLevel
  dsimp only
  refine Keeps.trans ?_ (.wr _ CAP_GPOOL_LEVEL _ 0 (by decide) (by decide) (by decide))
  have step : ∀ (c : Bool) (e : Nat) (u : State), Keeps s u → Keeps s (if c = true then Sys2Proof.Machine.raise e u else u) := by
    intro c e u h
    split
    · exact h.trans (.raise _ _)
    · exact h
  exact step _ _ _ (step _ _ _ (step _ _ _ (.refl s)))

theorem Keeps.settleLevel (s : State) : Keeps s (settleLevel s) := by
  unfold Sys2Proof.Machine.settleLevel
  dsimp only
  split
  · refine Keeps.trans ?_ (.riseLevel _)
    split
    · exact (Keeps.fallLevel 3 s).trans (.forAll _ _ (fun a _ s => .repayHead a s) _)
    · exact .fallLevel 3 s
  · exact .refl s

/-! The mode. -/

theorem Keeps.setService (s : State) (m : Nat) (hs : serviceMode s.modeCode = true) (hm : serviceMode m = true) :
    Keeps s (setMode m s) := by
  unfold Sys2Proof.Machine.setMode
  refine Keeps.trans (b := (s.wr MOD_STATE_PREV s.modeCode).wr MOD_STATE_STATE m) ?_ (.raise _ _)
  have hmm : ((s.wr MOD_STATE_PREV s.modeCode).wr MOD_STATE_STATE m).modeCode = m := by
    unfold State.modeCode
    rw [State.rd_wr_same]
    have : m = 3 ∨ m = 4 := by simpa [serviceMode] using hm
    rcases this with rfl | rfl <;> rfl
  exact { Keeps.refl s with
    regs := fun f i e => by
      rw [State.rd_wr_ne _ _ _ _ _ _ (fun h => by rw [h] at e; exact absurd e (by decide)),
        State.rd_wr_ne _ _ _ _ _ _ (fun h => by rw [h] at e; exact absurd e (by decide))]
    pend := fun src e => by
      unfold State.rdBit at e ⊢
      rw [State.rd_wr_ne _ _ _ _ _ _ (by decide), State.rd_wr_ne _ _ _ _ _ _ (by decide)]
      exact e
    modes := .inr ⟨hs, by rw [hmm]; exact hm⟩ }

theorem Keeps.settleMode (s : State) : Keeps s (settleMode s) := by
  unfold Sys2Proof.Machine.settleMode
  dsimp only
  have h := (Keeps.wrB s MOD_STATE_DEG_FENCE s.anyFence 0 (by decide) (by decide) (by decide)).trans
    (.wrB _ MOD_STATE_DEG_SUB (s.rdB HOM_SLMAP_REBUILD) 0 (by decide) (by decide) (by decide))
  generalize (s.wrB MOD_STATE_DEG_FENCE s.anyFence).wrB MOD_STATE_DEG_SUB (s.rdB HOM_SLMAP_REBUILD) = u at h ⊢
  split
  · rename_i c
    have h1 := h.trans (.bump u MOD_CNT_DEGR 1 0 (by decide) (by decide) (by decide))
    have h2 := Keeps.raise 65 (u.bump MOD_CNT_DEGR 1)
    have hm : (Sys2Proof.Machine.raise 65 (u.bump MOD_CNT_DEGR 1)).modeCode = 3 ∨
        serviceMode (Sys2Proof.Machine.raise 65 (u.bump MOD_CNT_DEGR 1)).modeCode = true := by
      rcases h2.modes with e | e
      · left; rw [e]; unfold State.modeCode; rw [State.rd_bump_ne _ _ _ _ _ _ (by decide)]; exact c.1
      · exact .inr e.2
    refine (h1.trans h2).trans (.setService _ 4 ?_ rfl)
    rcases hm with e | e
    · rw [e]; rfl
    · exact e
  · split
    · rename_i c
      have h2 := Keeps.raise 66 u
      refine (h.trans h2).trans (.setService _ 3 ?_ rfl)
      rcases h2.modes with e | e
      · rw [e, c.1]; rfl
      · exact e.2
    · exact h

/-! A calm state. -/

theorem advanceOnce_calm (s : State) (h : s.Calm) : advanceOnce s = s := by
  unfold Sys2Proof.Machine.advanceOnce
  have hp : s.powerFlush = false := by unfold State.powerFlush; rw [h.flush]; rfl
  rw [hp, h.flush]
  have hd : drainStep s = s := by unfold drainStep; rw [h.drain]; rfl
  have hpl : planStep s = s := by unfold planStep; rw [h.plan]
  simp [hd, hpl]

/-- Nothing moves on by itself in a calm state. -/
theorem advance_calm (n : Nat) (s : State) (h : s.Calm) : advance n s = s := by
  induction n with
  | zero => rfl
  | succ n ih => unfold advance; rw [advanceOnce_calm s h, ih]

theorem Keeps.serving {s t : State} (h : Keeps s t) : t.serving = s.serving := by
  unfold State.serving
  dsimp only
  rcases h.modes with e | ⟨e1, e2⟩
  · rw [e, h.mode]
  · have a : s.modeCode = 3 ∨ s.modeCode = 4 := by simpa [serviceMode] using e1
    have b : t.modeCode = 3 ∨ t.modeCode = 4 := by simpa [serviceMode] using e2
    rcases a with a | a <;> rcases b with b | b <;> simp [a, b]

/-- A state that a calm one is kept as is calm. -/
theorem Keeps.calm {s t : State} (h : Keeps s t) (c : s.Calm) : t.Calm where
  drain := by rw [h.mode]; exact c.drain
  flush := by unfold State.rdB; rw [h.regs _ _ (by decide)]; exact c.flush
  plan := by rw [h.mode]; exact c.plan
  audit := by
    rcases c.audit with e | e
    · left; rw [h.cap]; exact e
    · right; rw [h.serving]; exact e

theorem settleAudit_calm (s : State) (h : s.Calm) : settleAudit s = s := by
  unfold settleAudit
  rcases h.audit with e | e
  · rw [e]
  · split
    · rfl
    · rw [e, h.drain]; rfl

/-- The end of a command in a calm state is its closing work alone. -/
theorem Keeps.settle (s : State) (h : s.Calm) : Keeps s (settle s) := by
  unfold Sys2Proof.Machine.settle
  rw [advance_calm 8 s h]
  have h1 := Keeps.pumpRing s
  rw [settleAudit_calm _ (h1.calm h)]
  exact (h1.trans (.settleLevel _)).trans (.settleMode _)

/-- A command whose effect leaves a calm state ends in that state, but for the closing work. -/
theorem Keeps.next {s x : State} (h : Keeps s x) (c : s.Calm) : Keeps s (Sys2Proof.Machine.settle x) := h.trans (.settle x (h.calm c))

/-! What holds after every command. -/

/-- A state is another but for event delivery and some registers. -/
structure But (l : List Nat) (s t : State) : Prop where
  regs : ∀ (f : Fld) (i : Nat), eventFlds.contains f.id = false → l.contains f.id = false → t.rd f i = s.rd f i
  cap : t.cap = s.cap
  post : t.post = s.post

theorem Delivered.but {s t : State} (h : Delivered s t) (l : List Nat) : But l s t := ⟨fun f i e _ => h.regs f i e, h.cap, h.post⟩

theorem But.trans {l : List Nat} {a b c : State} (h : But l a b) (k : But l b c) : But l a c :=
  ⟨fun f i e e' => (k.regs f i e e').trans (h.regs f i e e'), k.cap.trans h.cap, k.post.trans h.post⟩

theorem But.wr {l : List Nat} (s : State) (f : Fld) (v i : Nat) (h : l.contains f.id = true) : But l s (s.wr f v i) :=
  ⟨fun g j _ e => State.rd_wr_ne s f v i g j (fun e' => by rw [e', h] at e; cases e), rfl, rfl⟩

theorem But.wrB {l : List Nat} (s : State) (f : Fld) (v : Bool) (i : Nat) (h : l.contains f.id = true) : But l s (s.wrB f v i) :=
  But.wr s f _ i h

theorem But.bump {l : List Nat} (s : State) (f : Fld) (n i : Nat) (h : l.contains f.id = true) : But l s (s.bump f n i) :=
  But.wr s f _ i h

theorem But.levelOf {l : List Nat} {s t : State} (h : But l s t) (h1 : l.contains CAP_WM_CRIT.id = false)
    (h2 : l.contains CAP_WM_LOW.id = false) (n : Int) : t.levelOf n = s.levelOf n := by
  unfold State.levelOf
  rw [h.regs CAP_WM_CRIT 0 (by decide) h1, h.regs CAP_WM_LOW 0 (by decide) h2]

theorem But.pool {l : List Nat} {s t : State} (h : But l s t)
    (hl : ∀ f ∈ [CAP_RGN_A_VALID, CAP_RGN_A_TYPE, CAP_RGN_A_COHER, CAP_RGN_A_CLASS, CAP_RGN_A_TIER, CAP_RGN_A_OPAQUE, CAP_RGN_A_ELASTIC,
      CAP_RGN_A_KEYDOM, CAP_RGN_A_ELEM, CAP_RGN_A_KEEP, CAP_RGN_A_HEADS, CAP_RGN_B_BASE_EXT, CAP_RGN_B_SIZE_EXT],
      l.contains f.id = false) : t.pool = s.pool := by
  have hr : t.region = s.region := by
    funext n
    unfold State.region State.rdB
    rw [h.regs CAP_RGN_A_VALID n (by decide) (hl _ (by simp)), h.regs CAP_RGN_A_TYPE n (by decide) (hl _ (by simp)),
      h.regs CAP_RGN_A_COHER n (by decide) (hl _ (by simp)), h.regs CAP_RGN_A_CLASS n (by decide) (hl _ (by simp)),
      h.regs CAP_RGN_A_TIER n (by decide) (hl _ (by simp)), h.regs CAP_RGN_A_OPAQUE n (by decide) (hl _ (by simp)),
      h.regs CAP_RGN_A_ELASTIC n (by decide) (hl _ (by simp)), h.regs CAP_RGN_A_KEYDOM n (by decide) (hl _ (by simp)),
      h.regs CAP_RGN_A_ELEM n (by decide) (hl _ (by simp)), h.regs CAP_RGN_A_KEEP n (by decide) (hl _ (by simp)),
      h.regs CAP_RGN_A_HEADS n (by decide) (hl _ (by simp)), h.regs CAP_RGN_B_BASE_EXT n (by decide) (hl _ (by simp)),
      h.regs CAP_RGN_B_SIZE_EXT n (by decide) (hl _ (by simp))]
  unfold State.pool State.headroom State.reserveLeft State.debts State.regions
  rw [hr, h.cap]

theorem levelOf_le (s : State) (n : Int) : s.levelOf n ≤ 3 := by
  unfold State.levelOf; split <;> [omega; (split <;> [omega; (split <;> omega)])]

/-- The level after it has risen is at least what N demands. -/
theorem riseLevel_level (s : State) :
    (riseLevel s).levelOf (riseLevel s).pool ≤ (riseLevel s).rd CAP_GPOOL_LEVEL := by
  have step : ∀ (c : Bool) (e : Nat) (u : State), But [CAP_GPOOL_LEVEL.id] s u →
      But [CAP_GPOOL_LEVEL.id] s (if c = true then Sys2Proof.Machine.raise e u else u) := by
    intro c e u h
    split
    · exact h.trans ((Delivered.raise e u).but _)
    · exact h
  have hb : But [CAP_GPOOL_LEVEL.id] s (riseLevel s) := by
    unfold riseLevel
    exact (step _ _ _ (step _ _ _ (step _ _ _ ⟨fun _ _ _ _ => rfl, rfl, rfl⟩))).trans (.wr _ _ _ _ (by decide))
  rw [hb.levelOf (by decide) (by decide), hb.pool (by decide)]
  have hv : (riseLevel s).rd CAP_GPOOL_LEVEL = max (s.rd CAP_GPOOL_LEVEL) (s.levelOf s.pool) := by
    unfold riseLevel
    dsimp only
    rw [State.rd_wr_same]
    have h4 : max (s.rd CAP_GPOOL_LEVEL) (s.levelOf s.pool) < 2 ^ CAP_GPOOL_LEVEL.w := by
      have h3 := levelOf_le s s.pool
      have hl := State.rd_lt s CAP_GPOOL_LEVEL 0
      have : (2 : Nat) ^ CAP_GPOOL_LEVEL.w = 4 := rfl
      omega
    exact Nat.mod_eq_of_lt h4
  rw [hv]
  omega

theorem settleLevel_level (s : State) (h : s.serving = true) :
    (settleLevel s).levelOf (settleLevel s).pool ≤ (settleLevel s).rd CAP_GPOOL_LEVEL := by
  unfold settleLevel
  rw [if_pos h]
  exact riseLevel_level _

/-- The fields that the move between Service and Degraded Service writes. -/
def modeFlds : List Nat := [ MOD_STATE_DEG_FENCE, MOD_STATE_DEG_SUB, MOD_CNT_DEGR, MOD_STATE_STATE, MOD_STATE_PREV].map Fld.id

theorem But.setMode {s : State} (m : Nat) : But modeFlds s (setMode m s) := by
  unfold Sys2Proof.Machine.setMode
  exact ((But.wr s MOD_STATE_PREV _ 0 (by decide)).trans (.wr _ MOD_STATE_STATE _ 0 (by decide))).trans ((Delivered.raise _ _).but _)

theorem setMode_code (m : Nat) (s : State) (h : m < 8) : (setMode m s).modeCode = m := by
  unfold Sys2Proof.Machine.setMode State.modeCode
  rw [raise_rd _ _ _ _ (by decide), State.rd_wr_same]
  exact Nat.mod_eq_of_lt h

theorem setMode_rd (m : Nat) (s : State) (f : Fld) (i : Nat) (h : eventFlds.contains f.id = false) (h1 : f.id ≠ MOD_STATE_PREV.id)
    (h2 : f.id ≠ MOD_STATE_STATE.id) : (setMode m s).rd f i = s.rd f i := by
  unfold Sys2Proof.Machine.setMode
  rw [raise_rd _ _ _ _ h, State.rd_wr_ne _ _ _ _ _ _ h2, State.rd_wr_ne _ _ _ _ _ _ h1]

theorem setMode_degraded (m : Nat) (s : State) : (setMode m s).degraded = s.degraded := by
  unfold State.degraded State.rdB
  rw [setMode_rd _ _ _ _ (by decide) (by decide) (by decide), setMode_rd _ _ _ _ (by decide) (by decide) (by decide),
    setMode_rd _ _ _ _ (by decide) (by decide) (by decide)]

theorem raise_degraded (e : Nat) (s : State) : (raise e s).degraded = s.degraded := by
  unfold State.degraded State.rdB
  rw [raise_rd _ _ _ _ (by decide), raise_rd _ _ _ _ (by decide), raise_rd _ _ _ _ (by decide)]

/-- The mode after a command (R374, R380). -/
theorem settleMode_modes (s : State) :
    ((settleMode s).modeCode = 3 → (settleMode s).degraded = false) ∧ ((settleMode s).modeCode = 4 → (settleMode s).degraded = true) := by
  unfold settleMode
  dsimp only
  generalize (s.wrB MOD_STATE_DEG_FENCE s.anyFence).wrB MOD_STATE_DEG_SUB (s.rdB HOM_SLMAP_REBUILD) = u
  split
  · rename_i c
    have hd : (u.bump MOD_CNT_DEGR 1).degraded = u.degraded := by
      unfold State.degraded State.rdB
      rw [State.rd_bump_ne _ _ _ _ _ _ (by decide), State.rd_bump_ne _ _ _ _ _ _ (by decide), State.rd_bump_ne _ _ _ _ _ _ (by decide)]
    rw [setMode_code _ _ (by decide), setMode_degraded, raise_degraded, hd, c.2]
    simp
  · rename_i c
    split
    · rename_i d
      rw [setMode_code _ _ (by decide), setMode_degraded, raise_degraded]
      exact ⟨fun _ => by simpa using d.2, fun h => absurd h (by decide)⟩
    · rename_i d
      refine ⟨fun h => ?_, fun h => ?_⟩
      · by_contra e; exact c ⟨h, by simpa using e⟩
      · by_contra e; exact d ⟨h, by simpa using e⟩

theorem But.settleMode (s : State) : But modeFlds s (settleMode s) := by
  unfold Sys2Proof.Machine.settleMode
  dsimp only
  have h : But modeFlds s ((s.wrB MOD_STATE_DEG_FENCE s.anyFence).wrB MOD_STATE_DEG_SUB (s.rdB HOM_SLMAP_REBUILD)) :=
    (But.wrB s MOD_STATE_DEG_FENCE s.anyFence 0 (by decide)).trans (.wrB _ MOD_STATE_DEG_SUB _ 0 (by decide))
  generalize (s.wrB MOD_STATE_DEG_FENCE s.anyFence).wrB MOD_STATE_DEG_SUB (s.rdB HOM_SLMAP_REBUILD) = u at h ⊢
  split
  · exact ((h.trans (.bump u MOD_CNT_DEGR 1 0 (by decide))).trans ((Delivered.raise _ _).but _)).trans (.setMode _)
  · split
    · exact (h.trans ((Delivered.raise _ _).but _)).trans (.setMode _)
    · exact h

/-- What holds at the end of every command, whatever the state it began in. -/
theorem settled (s : State) : (settle s).Settled := by
  unfold settle
  generalize settleAudit (pumpRing (advance 8 s)) = v
  have hb := But.settleMode (settleLevel v)
  have hk := Keeps.settleMode (settleLevel v)
  refine ⟨fun h => ?_, (settleMode_modes _).1, (settleMode_modes _).2⟩
  rw [hk.serving, (Keeps.settleLevel v).serving] at h
  rw [hb.levelOf (by decide) (by decide), hb.pool (by decide), hb.regs CAP_GPOOL_LEVEL 0 (by decide) (by decide)]
  exact settleLevel_level v h

end Sys2Proof.Machine
end

