-- ==== Sys2Proof/Laws/Step.lean ====
section
/-! SUPPORT. What a step can do: run a command that ends in the closing work, or let a cycle pass. -/
namespace Sys2Proof.Machine

/-- Every command ends in the closing work. -/
theorem exec_settles (c : Instr) (s : State) : ∃ x, exec c s = .next (settle x) := by
  cases c
  all_goals exact ⟨_, rfl⟩

/-- A step with a command at the front runs it on the rest. -/
theorem step_cons (s : State) (c : Instr) (rest : List Instr) (h : s.pending = c :: rest) :
    step s = exec c { s with pending := rest } := by unfold step; rw [h]

/-- A step on an empty queue is a cycle. -/
theorem step_nil (s : State) (h : s.pending = []) : step s = .next (idle s) := by unfold step; rw [h]

end Sys2Proof.Machine
end

