-- ==== Sys2Proof/Laws/Home.lean ====
section
/-! SUPPORT. What the operations of the coherence home do to a request of a line on which nothing else is under way: its way to its data
stage, the data stage of a hit, the completion of every kind of request, a write's place in the front cache. -/
namespace Sys2Proof.Machine

theorem State.Calm.of {s t : State} (c : s.Calm) (h1 : t.mode = s.mode) (h2 : RegsKept [] s t) (h3 : t.cap.auditWalk = s.cap.auditWalk) (h4 : t.serving = s.serving) : t.Calm where
  drain := by rw [h1]; exact c.drain
  flush := by unfold State.rdB; rw [h2 _ _ (by decide) (by decide)]; exact c.flush
  plan := by rw [h1]; exact c.plan
  audit := by rw [h3, h4]; exact c.audit

theorem Ends.of {c : Instr} {s x : State} (h : exec c s = .next (settle x)) (k : x.Calm) : Ends c s x := ⟨_, h, Keeps.settle x k⟩

theorem State.Calm.bump {s : State} (c : s.Calm) (f : Fld) (n i : Nat) (h1 : f.id ≠ TLR_STAT_ACTIVE.id) (h2 : f.id ≠ MOD_STATE_STATE.id) : (s.bump f n i).Calm where
  drain := c.drain
  flush := by unfold State.rdB; rw [State.rd_bump_ne _ _ _ _ _ _ (Ne.symm h1)]; exact c.flush
  plan := c.plan
  audit := by unfold State.serving State.modeCode; rw [State.rd_bump_ne _ _ _ _ _ _ (Ne.symm h2)]; exact c.audit

theorem State.Calm.wr {s : State} (c : s.Calm) (f : Fld) (n i : Nat) (h1 : f.id ≠ TLR_STAT_ACTIVE.id) (h2 : f.id ≠ MOD_STATE_STATE.id) : (s.wr f n i).Calm where
  drain := c.drain
  flush := by unfold State.rdB; rw [State.rd_wr_ne _ _ _ _ _ _ (Ne.symm h1)]; exact c.flush
  plan := c.plan
  audit := by unfold State.serving State.modeCode; rw [State.rd_wr_ne _ _ _ _ _ _ (Ne.symm h2)]; exact c.audit

theorem State.Calm.emit {s : State} (c : s.Calm) (o : Out) : (s.emit o).Calm := ⟨c.drain, c.flush, c.plan, c.audit⟩



theorem gate_stopped {s : State} {h : Nat} {k haddr r line} (g : s.gate h k haddr = .serve r line) : s.stopped = false := by
  unfold State.gate at g
  by_cases e : s.stopped = true
  · rw [e] at g; split at g
    · cases g
    · simp at g
  · simpa using e

theorem find_append_fresh (l : List Req) (q : Req) (h : ∀ p ∈ l, p.id ≠ q.id) : (l ++ [q]).find? (fun p => p.id == q.id) = some q := by
  rw [List.find?_append]
  have : l.find? (fun p => p.id == q.id) = none := by
    rw [List.find?_eq_none]; intro x hx; simpa using h x hx
  rw [this]; simp

theorem addUpsets_nil (s : State) : addUpsets [] s = s := by unfold addUpsets; simp

theorem releaseHeld_nil (s : State) (h : s.home.held = []) : releaseHeld s = s := by
  unfold releaseHeld
  rw [h]
  show ({ s with home := { s.home with held := [] } } : State) = s
  rw [← h]

theorem checkLine_nil (line : Nat) (s : State) (h : s.upsets = []) : checkLine line s = s := by
  unfold checkLine; rw [h]; rfl

theorem RK.region {s t : State} (h : RegsKept [] s t) : t.region = s.region := by
  funext n
  unfold State.region State.rdB
  rw [h CAP_RGN_A_VALID n (by decide) (by decide), h CAP_RGN_A_TYPE n (by decide) (by decide), h CAP_RGN_A_COHER n (by decide) (by decide), h CAP_RGN_A_CLASS n (by decide) (by decide),
    h CAP_RGN_A_TIER n (by decide) (by decide), h CAP_RGN_A_OPAQUE n (by decide) (by decide), h CAP_RGN_A_ELASTIC n (by decide) (by decide),
    h CAP_RGN_A_KEYDOM n (by decide) (by decide), h CAP_RGN_A_ELEM n (by decide) (by decide), h CAP_RGN_A_KEEP n (by decide) (by decide),
    h CAP_RGN_A_HEADS n (by decide) (by decide), h CAP_RGN_B_BASE_EXT n (by decide) (by decide), h CAP_RGN_B_SIZE_EXT n (by decide) (by decide)]
theorem RK.regionOf {s t : State} (h : RegsKept [] s t) (x : Nat) : t.regionOf x = s.regionOf x := by
  unfold State.regionOf State.regions; rw [RK.region h]
theorem RK.sliceOf {s t : State} (h : RegsKept [] s t) (x : Nat) : sliceOf t x = sliceOf s x := by
  unfold Sys2Proof.Machine.sliceOf physSlice logicalSlice
  rw [h HOM_CFG_HASH 0 (by decide) (by decide), h HOM_SLMAP_SUB 0 (by decide) (by decide)]
theorem RK.isDB {s t : State} (h : RegsKept [] s t) (x : Nat) : t.isDB x = s.isDB x := by
  unfold State.isDB; rw [RK.regionOf h]
theorem RK.trackers {s t : State} (h : RegsKept [] s t) (hh : t.home.reqs = s.home.reqs) (x : Nat) : t.trackers x = s.trackers x := by
  unfold State.trackers; rw [hh]; congr 1; funext q; rw [RK.sliceOf h]
theorem RK.fcFind {s t : State} (h : RegsKept [] s t) (hh : t.fc.lines = s.fc.lines) (x : Nat) : t.fcFind x = s.fcFind x := by
  unfold State.fcFind lineSlots; rw [hh, RK.sliceOf h]
theorem RK.fcLine {s t : State} (h : RegsKept [] s t) (hh : t.fc.lines = s.fc.lines) (x : Nat) : t.fcLine x = s.fcLine x := by
  unfold State.fcLine; rw [RK.fcFind h hh, hh]
theorem RK.trans {s t u : State} (h : RegsKept [] s t) (k : RegsKept [] t u) : RegsKept [] s u := fun f i a b => (k f i a b).trans (h f i a b)
theorem RK.of {s t : State} (h : Keeps s t) : RegsKept [] s t := fun f i a _ => h.regs f i a
theorem RK.same {s t : State} (h : t.regs = s.regs) (hp : t.part = s.part) : RegsKept [] s t := fun f i _ _ => State.rd_congr h hp f i

theorem Around.refl (s : State) : Around s s := ⟨fun _ _ _ _ => rfl, rfl, rfl, rfl, rfl, rfl, rfl, rfl, rfl, rfl, rfl, rfl, rfl, rfl⟩
theorem Around.trans {s t u : State} (h : Around s t) (k : Around t u) : Around s u :=
  ⟨RK.trans h.regs k.regs, k.pages.trans h.pages, k.store.trans h.store, k.backPoison.trans h.backPoison, k.keys.trans h.keys, k.pmap.trans h.pmap,
   k.work.trans h.work, k.dead.trans h.dead, k.media.trans h.media, k.dram.trans h.dram, k.cou.trans h.cou, k.mode.trans h.mode,
   k.held.trans h.held, k.snoops.trans h.snoops⟩
theorem Keeps.around {s t : State} (h : Keeps s t) : Around s t :=
  ⟨RK.of h, by rw [h.mem], by rw [h.mem], by rw [h.mem], h.keys, by rw [h.cap], h.work, by rw [h.flt], h.media, h.dram, h.cou, h.mode, by rw [h.home], by rw [h.home]⟩

/-- what every part of a served request leaves alone, the home aside -/
structure Calmly (s t : State) : Prop where
  around : Around s t
  home : t.home = s.home
  lines : t.fc.lines = s.fc.lines
  out : ∃ l, t.out = s.out ++ l
  flush : t.rdB TLR_STAT_ACTIVE = s.rdB TLR_STAT_ACTIVE
  walk : t.cap.auditWalk = s.cap.auditWalk
  serving : t.serving = s.serving

theorem Calmly.refl (s : State) : Calmly s s := ⟨.refl s, rfl, rfl, ⟨[], by simp⟩, rfl, rfl, rfl⟩
theorem Calmly.trans {s t u : State} (h : Calmly s t) (k : Calmly t u) : Calmly s u :=
  ⟨h.around.trans k.around, k.home.trans h.home, k.lines.trans h.lines, by
    obtain ⟨a, ha⟩ := h.out; obtain ⟨b, hb⟩ := k.out; exact ⟨a ++ b, by rw [hb, ha, List.append_assoc]⟩,
   k.flush.trans h.flush, k.walk.trans h.walk, k.serving.trans h.serving⟩
theorem Keeps.calmly {s t : State} (h : Keeps s t) : Calmly s t :=
  ⟨Keeps.around h, h.home, by rw [h.fc], h.out, by unfold State.rdB; rw [h.regs _ _ (by decide)], by rw [h.cap], h.serving⟩

theorem useEntry_calmly (p : Nat) (s : State) : Calmly s (useEntry p s) := by
  unfold useEntry
  split
  · unfold cacheEntry
    exact ⟨⟨fun _ _ _ _ => rfl, rfl, rfl, rfl, rfl, rfl, rfl, rfl, rfl, rfl, rfl, rfl, rfl, rfl⟩, rfl, rfl, ⟨[], by simp⟩, rfl, rfl, rfl⟩
  · exact .refl s
theorem touch_calmly (k : Nat) (s : State) : Calmly s (touch k s) :=
  ⟨⟨fun _ _ _ _ => rfl, rfl, rfl, rfl, rfl, rfl, rfl, rfl, rfl, rfl, rfl, rfl, rfl, rfl⟩, rfl, rfl, ⟨[], by simp [touch]⟩, rfl, rfl, rfl⟩
theorem count_calmly (ev : Nat) (w : Option (Nat × Nat)) (u n : Nat) (s : State) : Calmly s (count ev w u n s) := Keeps.calmly (Keeps.count _ _ _ _ _)

theorem look_hit (s : State) (line : Nat) (l : FcLine) (hl : s.fcLine line = some l) (hp : l.poison = false) (hm : l.mask = fullMask) :
    s.look line = .hit l.data false := by
  unfold State.look; rw [hl]; simp [hp, hm]

/-- data stage of a read that hits -/
theorem dataStage_hit (q : Req) (s : State) (r : Region) (l : FcLine) (hk : q.kind = .rd ∨ q.kind = .rdData) (hr : s.regionOf (lineExt q.line) = some r)
   (hl : s.fcLine q.line = some l) (hp : l.poison = false) (hm : l.mask = fullMask) :
   ∃ u, dataStage q s = completeReq q l.data false u ∧ Calmly s u := by
  have h1 := useEntry_calmly (linePage q.line) s
  have hl1 : (useEntry (linePage q.line) s).fcLine q.line = some l := by rw [RK.fcLine h1.around.regs h1.lines, hl]
  unfold dataStage
  rw [hr]
  rcases hk with hk | hk <;>
  · rw [hk]
    dsimp only
    rw [look_hit _ _ l hl1 hp hm]
    dsimp only
    refine ⟨_, rfl, h1.trans ?_⟩
    refine Calmly.trans ?_ (count_calmly _ _ _ _ _)
    split
    · exact touch_calmly _ _
    · exact .refl _

theorem filt_setFilt (line : Nat) (e : FiltEntry) (s : State) :
    (setFilt line (some e) s).filt line = (let hs := e.holders &&& ~~~s.home.dead; if hs = 0 then none else some { e with holders := hs }) := by
  unfold State.filt setFilt Map.upd
  simp only [Map.find_put, if_true]
theorem filt_setNone (line : Nat) (s : State) : (setFilt line none s).filt line = none := by
  unfold State.filt setFilt Map.upd
  simp only [Map.find_del, if_true]

/-- the holders a row leaves -/
theorem applyRow_holders (line : Nat) (st : Option (Bool × Heads)) (g : Bool) (s : State)
    (h : ∀ x hs, st = some (x, hs) → hs ≠ 0 ∧ hs &&& s.home.dead = 0) : (applyRow line st g s).holdersOf line = st := by
  unfold applyRow State.holdersOf
  rcases st with _ | ⟨x, hs⟩
  · dsimp only; rw [filt_setNone]; rfl
  · obtain ⟨h1, h2⟩ := h x hs rfl
    dsimp only
    have : ∀ (e : FiltEntry) (n : Nat), e.excl = x → e.holders = hs →
      (({ setFilt line (some e) s with home := { (setFilt line (some e) s).home with grants := n } } : State).filt line).map (fun e => (e.excl, e.holders)) = some (x, hs) := by
      intro e n e1 e2
      have hd : hs &&& ~~~s.home.dead = hs := by
        ext i hi
        have := congrArg (fun v => v.getLsbD i) h2
        simp at this ⊢
        intro hh; simp_all
      show ((setFilt line (some e) s).filt line).map (fun e => (e.excl, e.holders)) = some (x, hs)
      rw [filt_setFilt]
      simp only [e2, hd, if_neg h1, Option.map, e1]
    exact this _ _ rfl rfl

/-- A state but for its home and what a request may touch besides. -/
structure Beside (s t : State) : Prop where
  around : Around s t
  lines : t.fc.lines = s.fc.lines
  out : ∃ l, t.out = s.out ++ l
  flush : t.rdB TLR_STAT_ACTIVE = s.rdB TLR_STAT_ACTIVE
  walk : t.cap.auditWalk = s.cap.auditWalk
  serving : t.serving = s.serving
  dead : t.home.dead = s.home.dead
  evt : t.home.evt = s.home.evt
theorem Beside.refl (s : State) : Beside s s := ⟨.refl s, rfl, ⟨[], by simp⟩, rfl, rfl, rfl, rfl, rfl⟩
theorem Beside.trans {s t u : State} (h : Beside s t) (k : Beside t u) : Beside s u :=
  ⟨h.around.trans k.around, k.lines.trans h.lines, by
    obtain ⟨a, ha⟩ := h.out; obtain ⟨b, hb⟩ := k.out; exact ⟨a ++ b, by rw [hb, ha, List.append_assoc]⟩,
   k.flush.trans h.flush, k.walk.trans h.walk, k.serving.trans h.serving, k.dead.trans h.dead, k.evt.trans h.evt⟩
theorem Calmly.beside {s t : State} (h : Calmly s t) : Beside s t :=
  ⟨h.around, h.lines, h.out, h.flush, h.walk, h.serving, by rw [h.home], by rw [h.home]⟩
theorem Beside.calm {s t : State} (h : Beside s t) (c : s.Calm) : t.Calm where
  drain := by rw [h.around.mode]; exact c.drain
  flush := by rw [h.flush]; exact c.flush
  plan := by rw [h.around.mode]; exact c.plan
  audit := by
    rcases c.audit with e | e
    · exact .inl (h.walk.trans e)
    · exact .inr (h.serving.trans e)

theorem Sends.emit (s : State) (o : Out) : Sends s (s.emit o) o := ⟨[o], rfl, by simp⟩
theorem Sends.after {s t u : State} {o : Out} (h : Sends s t o) (k : ∃ l, u.out = t.out ++ l) : Sends s u o := by
  obtain ⟨a, ha, hm⟩ := h; obtain ⟨b, hb⟩ := k
  exact ⟨a ++ b, by rw [hb, ha, List.append_assoc], by simp [hm]⟩
theorem Sends.before {s t u : State} {o : Out} (k : ∃ l, t.out = s.out ++ l) (h : Sends t u o) : Sends s u o := by
  obtain ⟨a, ha, hm⟩ := h; obtain ⟨b, hb⟩ := k
  exact ⟨b ++ a, by rw [ha, hb, List.append_assoc], by simp [hm]⟩

theorem RK.home {s : State} (f : Home → Home) : RegsKept [] s { s with home := f s.home } := fun _ _ _ _ => rfl

theorem trackers_snoc (s : State) (l : List Req) (q : Req) (sl : Nat) (h : s.home.reqs = l ++ [q]) :
    (s.trackers sl).length ≤ (l.filter (fun p => sliceOf s p.line == sl)).length + 1 := by
  unfold State.trackers
  rw [h, List.filter_append, List.length_append]
  have : ([q].filter (fun p => sliceOf s p.line == sl)).length ≤ 1 := by
    exact le_trans (List.length_filter_le _ _) (by simp)
  omega

theorem devLoad_light (s : State) (sl : Nat) (h : (s.trackers sl).length ≤ 480) : s.devLoad sl false = 0 := by
  unfold State.devLoad
  dsimp only
  rw [if_neg, if_neg, if_neg]
  · omega
  · omega
  · simp; omega

/-- The end of a read that keeps or takes state. -/
theorem completeRead (q : Req) (d : Line) (u : State) (l : List Req) (hq : u.home.reqs = l ++ [q]) (hf : ∀ p ∈ l, p.id ≠ q.id)
    (hm : q.mute = false) (ho : q.ovd = false) (hk : q.kind = .rd ∨ q.kind = .rdData)
    (hl : (l.filter (fun p => sliceOf u p.line == sliceOf u q.line)).length < 480)
    (st : Option (Bool × Heads)) (ndr : Ndr) (mv : Meta)
    (hrow : rowOutcome q.kind q.mv q.head (u.filt q.line) = (st, ndr, mv))
    (hst : ∀ x hs, st = some (x, hs) → hs ≠ 0 ∧ hs &&& u.home.dead = 0) :
    let t := completeReq q d false u
    let g : Meta := if u.isDB q.line then mv else .invalid
    Sends u t (.memData q.head q.haddr d false g 0) ∧ (u.isDB q.line = true → Sends u t (.ndr q.head q.haddr ndr 0)) ∧
      t.holdersOf q.line = (if u.isDB q.line then st else u.holdersOf q.line) ∧ t.home.reqs = l ∧ Beside u t := by
  have hload : u.devLoad (sliceOf u q.line) false = 0 := devLoad_light _ _ (by
    have := trackers_snoc u l q (sliceOf u q.line) hq; omega)
  have hdrop : (dropReq q.id u).home.reqs = l := by
    unfold dropReq
    show u.home.reqs.filter (fun p => p.id ≠ q.id) = l
    rw [hq, List.filter_append]
    have : l.filter (fun p => p.id ≠ q.id) = l := by rw [List.filter_eq_self]; intro p hp; simpa using hf p hp
    rw [this]; simp
  have hrk : RegsKept [] u (dropReq q.id u) := fun _ _ _ _ => rfl
  have hdb : (dropReq q.id u).isDB q.line = u.isDB q.line := RK.isDB hrk _
  have hb : Beside u (dropReq q.id u) := ⟨⟨fun _ _ _ _ => rfl, rfl, rfl, rfl, rfl, rfl, rfl, rfl, rfl, rfl, rfl, rfl, rfl, rfl⟩, rfl, ⟨[], by simp [dropReq]⟩, rfl, rfl, rfl, rfl, rfl⟩
  have hfilt : (dropReq q.id u).filt q.line = u.filt q.line := rfl
  have hrd : (q.kind == ReqKind.rd || q.kind == ReqKind.rdData) = true := by rcases hk with h | h <;> rw [h] <;> rfl
  dsimp only
  unfold completeReq
  rw [ho, hload]
  dsimp only
  rw [hdb, hfilt, hrow, hrd]
  by_cases db : u.isDB q.line = true
  · rw [if_pos db, if_pos db, if_pos db]
    simp only [respond, hm, if_true, Bool.false_eq_true, if_false]
    have ha : Beside u (applyRow q.line st (ndr == .cmpE) (dropReq q.id u)) := by
      refine hb.trans ?_
      unfold applyRow
      split <;> exact ⟨⟨fun _ _ _ _ => rfl, rfl, rfl, rfl, rfl, rfl, rfl, rfl, rfl, rfl, rfl, rfl, rfl, rfl⟩, rfl, ⟨[], by simp [setFilt]⟩, rfl, rfl, rfl, rfl, rfl⟩
    have hr : (applyRow q.line st (ndr == .cmpE) (dropReq q.id u)).home.reqs = l := by
      unfold applyRow; split <;> exact hdrop
    have hh : (applyRow q.line st (ndr == .cmpE) (dropReq q.id u)).holdersOf q.line = st := applyRow_holders _ _ _ _ hst
    generalize applyRow q.line st (ndr == .cmpE) (dropReq q.id u) = v at *
    refine ⟨?_, ?_, hh, hr, ha.trans ⟨⟨fun _ _ _ _ => rfl, rfl, rfl, rfl, rfl, rfl, rfl, rfl, rfl, rfl, rfl, rfl, rfl, rfl⟩, rfl, ⟨_, by simp [State.emit]; rfl⟩, rfl, rfl, rfl, rfl, rfl⟩⟩
    · exact (Sends.before ha.out (Sends.emit v _)).after ⟨_, rfl⟩
    · exact fun _ => Sends.before ha.out (Sends.before ⟨_, rfl⟩ (Sends.emit _ _))
  · rw [if_neg db, if_neg db, if_neg db]
    simp only [respond, hm, if_true, Bool.false_eq_true, if_false]
    refine ⟨?_, ?_, rfl, hdrop, hb.trans ⟨⟨fun _ _ _ _ => rfl, rfl, rfl, rfl, rfl, rfl, rfl, rfl, rfl, rfl, rfl, rfl, rfl, rfl⟩, rfl, ⟨_, by simp [State.emit]; rfl⟩, rfl, rfl, rfl, rfl, rfl⟩⟩
    · exact Sends.before hb.out (Sends.emit _ _)
    · exact fun e => absurd e db

/-- The request a MemRdData becomes (R80). -/
def asRead (q : Req) (e : Option FiltEntry) : Req :=
  if q.kind == .rdData then { q with kind := .rd, mv := if e.isNone then .any else .shared } else q

/-- A fresh request of a line on which nothing else is under way, and that needs no snoop, goes to its data stage. -/
theorem serveReq_clear (q : Req) (s : State) (l : List Req) (hq : s.home.reqs = l ++ [q]) (hf : ∀ p ∈ l, p.id ≠ q.id ∧ p.line ≠ q.line)
    (hs : s.snooped q.line = false) (he : s.evicting q.line = false)
    (hway : s.isDB q.line = true → (rowOutcome q.kind q.mv q.head (s.filt q.line)).1.isSome = true → s.home.filt.find q.line = none → (s.filtOfSet (sliceOf s q.line) (filtSet q.line)).length < 16) (q' : Req)
    (hq' : q' = if s.isDB q.line then asRead q (s.filt q.line) else q)
    (hrow : s.isDB q.line = true → rowSnoops q'.kind q'.mv q'.head (s.filt q.line) = none) :
    ∃ u, serveReq q.id s = dataStage q' u ∧ Beside s u ∧ u.filt q.line = s.filt q.line ∧ u.home.reqs = l ++ [q'] ∧ u.fc = s.fc ∧ u.mem = s.mem ∧ u.regs = s.regs ∧ u.part = s.part := by
  have hreq : s.req q.id = some q := by
    unfold State.req; rw [hq]; exact find_append_fresh l q (fun p hp => (hf p hp).1)
  have htw : (s.home.reqs.takeWhile (fun p => decide (p.id ≠ q.id))).any (fun p => p.line == q.line) = false := by
    rw [hq]
    have : (l ++ [q]).takeWhile (fun p => decide (p.id ≠ q.id)) = l := by
      rw [List.takeWhile_append_of_pos (by intro p hp; simpa using (hf p hp).1)]; simp
    rw [this, List.any_eq_false]; intro p hp; simpa using (hf p hp).2
  unfold serveReq
  rw [hreq]
  dsimp only
  by_cases db : s.isDB q.line = true
  · rw [if_pos db] at hq'
    have hr0 := hrow db
    rw [if_neg (by simp [db]), htw, he, hs]
    simp only [Bool.or_false, Bool.false_eq_true, if_false]
    have hmod : ∀ v : State, v.home.reqs = s.home.reqs → modReq q.id (fun _ => q') v = { v with home := { v.home with reqs := l ++ [q'] } } := by
      intro v hv
      unfold modReq
      rw [hv, hq]
      have : (l ++ [q]).map (fun p => if p.id = q.id then q' else p) = l ++ [q'] := by
        rw [List.map_append]
        congr 1
        · conv_rhs => rw [← List.map_id l]
          apply List.map_congr_left
          intro p hp; rw [if_neg (hf p hp).1]; rfl
        · simp
      rw [this]
    have hqq : (if (q.kind == ReqKind.rdData) = true then { q with kind := ReqKind.rd, mv := if (s.filt q.line).isNone = true then Meta.any else Meta.shared } else q) = q' := by
      rw [hq']; rfl
    by_cases hw : ((s.filt q.line).isNone && (rowOutcome q.kind q.mv q.head (s.filt q.line)).1.isSome && (s.home.filt.find q.line).isNone) = true
    · rw [if_pos hw]
      unfold takeWay
      dsimp only
      rw [if_pos (by simp at hw; exact hway db hw.1.2 hw.2)]
      dsimp only
      rw [hqq, hmod (setFilt q.line _ s) rfl, hr0]
      refine ⟨_, rfl, ⟨⟨fun _ _ _ _ => rfl, rfl, rfl, rfl, rfl, rfl, rfl, rfl, rfl, rfl, rfl, rfl, rfl, rfl⟩, rfl, ⟨[], by simp [setFilt]⟩, rfl, rfl, rfl, rfl, rfl⟩, ?_, rfl, rfl, rfl, rfl, rfl⟩
      refine Eq.trans (filt_setFilt _ _ _) ?_
      simp at hw
      rw [hw.1.1]; simp
    · rw [if_neg hw]
      dsimp only
      rw [hqq, hmod _ rfl, hr0]
      exact ⟨_, rfl, ⟨⟨fun _ _ _ _ => rfl, rfl, rfl, rfl, rfl, rfl, rfl, rfl, rfl, rfl, rfl, rfl, rfl, rfl⟩, rfl, ⟨[], by simp⟩, rfl, rfl, rfl, rfl, rfl⟩, rfl, rfl, rfl, rfl, rfl, rfl⟩
  · rw [if_neg db] at hq'
    subst hq'
    rw [if_pos (by simpa using db)]
    exact ⟨_, rfl, .refl s, rfl, hq, rfl, rfl, rfl, rfl⟩

theorem RK.ceil {s t : State} (h : RegsKept [] s t) (x : Nat) (c : Cls) : t.ceil x c = s.ceil x c := by
  unfold State.ceil; rw [h QOS_HEAD_CEIL x (by decide) (by decide)]
theorem Beside.regs {s t : State} (h : Beside s t) : RegsKept [] s t := h.around.regs

/-- The end of a request that is no read. -/
theorem completeOther (q : Req) (u : State) (l : List Req) (hq : u.home.reqs = l ++ [q]) (hf : ∀ p ∈ l, p.id ≠ q.id)
    (hm : q.mute = false) (ho : q.ovd = false) (hk : (q.kind == .rd || q.kind == .rdData) = false)
    (hl : (l.filter (fun p => sliceOf u p.line == sliceOf u q.line)).length < 480)
    (st : Option (Bool × Heads)) (ndr : Ndr) (mv : Meta)
    (hrow : rowOutcome q.kind q.mv q.head (u.filt q.line) = (st, ndr, mv))
    (hst : ∀ x hs, st = some (x, hs) → hs ≠ 0 ∧ hs &&& u.home.dead = 0) :
    let t := completeReq q 0 false u
    Sends u t (.ndr q.head q.haddr (if u.isDB q.line then ndr else .cmp) 0) ∧
      t.holdersOf q.line = (if u.isDB q.line then st else u.holdersOf q.line) ∧ t.home.reqs = l ∧ t.fc = u.fc ∧ Beside u t := by
  have hload : u.devLoad (sliceOf u q.line) false = 0 := devLoad_light _ _ (by
    have := trackers_snoc u l q (sliceOf u q.line) hq; omega)
  have hdrop : (dropReq q.id u).home.reqs = l := by
    unfold dropReq
    show u.home.reqs.filter (fun p => p.id ≠ q.id) = l
    rw [hq, List.filter_append]
    have : l.filter (fun p => p.id ≠ q.id) = l := by rw [List.filter_eq_self]; intro p hp; simpa using hf p hp
    rw [this]; simp
  have hrk : RegsKept [] u (dropReq q.id u) := fun _ _ _ _ => rfl
  have hdb : (dropReq q.id u).isDB q.line = u.isDB q.line := RK.isDB hrk _
  have hb : Beside u (dropReq q.id u) := ⟨⟨fun _ _ _ _ => rfl, rfl, rfl, rfl, rfl, rfl, rfl, rfl, rfl, rfl, rfl, rfl, rfl, rfl⟩, rfl, ⟨[], by simp [dropReq]⟩, rfl, rfl, rfl, rfl, rfl⟩
  have hfilt : (dropReq q.id u).filt q.line = u.filt q.line := rfl
  dsimp only
  unfold completeReq
  rw [ho, hload]
  dsimp only
  rw [hdb, hfilt, hrow, hk]
  by_cases db : u.isDB q.line = true
  · rw [if_pos db, if_pos db, if_pos db]
    simp only [respond, hm, Bool.false_eq_true, if_false]
    have ha : Beside u (applyRow q.line st (ndr == .cmpE) (dropReq q.id u)) := by
      refine hb.trans ?_
      unfold applyRow
      split <;> exact ⟨⟨fun _ _ _ _ => rfl, rfl, rfl, rfl, rfl, rfl, rfl, rfl, rfl, rfl, rfl, rfl, rfl, rfl⟩, rfl, ⟨[], by simp [setFilt]⟩, rfl, rfl, rfl, rfl, rfl⟩
    have hr : (applyRow q.line st (ndr == .cmpE) (dropReq q.id u)).home.reqs = l := by
      unfold applyRow; split <;> exact hdrop
    have hfc : (applyRow q.line st (ndr == .cmpE) (dropReq q.id u)).fc = u.fc := by
      unfold applyRow; split <;> rfl
    have hh : (applyRow q.line st (ndr == .cmpE) (dropReq q.id u)).holdersOf q.line = st := applyRow_holders _ _ _ _ hst
    generalize applyRow q.line st (ndr == .cmpE) (dropReq q.id u) = v at *
    exact ⟨Sends.before ha.out (Sends.emit v _), hh, hr, hfc, ha.trans ⟨⟨fun _ _ _ _ => rfl, rfl, rfl, rfl, rfl, rfl, rfl, rfl, rfl, rfl, rfl, rfl, rfl, rfl⟩, rfl, ⟨_, by simp [State.emit]; rfl⟩, rfl, rfl, rfl, rfl, rfl⟩⟩
  · rw [if_neg db, if_neg db, if_neg db]
    simp only [respond, hm, Bool.false_eq_true, if_false]
    exact ⟨Sends.before hb.out (Sends.emit _ _), rfl, hdrop, rfl, hb.trans ⟨⟨fun _ _ _ _ => rfl, rfl, rfl, rfl, rfl, rfl, rfl, rfl, rfl, rfl, rfl, rfl, rfl, rfl⟩, rfl, ⟨_, by simp [State.emit]; rfl⟩, rfl, rfl, rfl, rfl, rfl⟩⟩

/-- A request of a line on which nothing else is under way goes to its slice. -/
theorem acceptReq_clear (h : Nat) (k : ReqKind) (line haddr : Nat) (mv : Meta) (d : Line) (m : Mask) (p : Bool) (c : Cls) (s : State)
    (hf : ∀ q ∈ s.home.reqs, q.line ≠ line ∧ q.id ≠ s.home.nextReq)
    (hsh : ((s.trackers (sliceOf s line)).filter (fun q => q.head == h && q.cls == c)).length < s.rd QOS_BUD_B_TRK (h * 4 + c.code)) :
    let q : Req := ⟨s.home.nextReq, h, k, line, haddr, mv, d, m, p, c, false, .queued, false⟩
    ∃ u, acceptReq h k line haddr mv d m p c s = serveReq q.id u ∧ u.home.reqs = s.home.reqs ++ [q] ∧ u.home.filt = s.home.filt ∧
      u.home.snoops = s.home.snoops ∧ u.fc = s.fc ∧ u.mem = { s.mem with rootMark := u.mem.rootMark } ∧ Beside s u := by
  dsimp only
  unfold acceptReq
  dsimp only
  have ho : decide (s.rd QOS_BUD_B_TRK (h * 4 + c.code) ≤ ((s.trackers (sliceOf s line)).filter (fun q => q.head == h && q.cls == c)).length) = false := by
    simpa using hsh
  rw [ho]
  simp only [if_neg (not_le.2 hsh)]
  generalize hs1 : ({ s with home := { s.home with reqs := s.home.reqs ++ [⟨s.home.nextReq, h, k, line, haddr, mv, d, m, p, c, false, .queued, false⟩], nextReq := s.home.nextReq + 1 } } : State) = s1
  have b1 : Beside s s1 := by
    subst hs1
    exact ⟨⟨fun _ _ _ _ => rfl, rfl, rfl, rfl, rfl, rfl, rfl, rfl, rfl, rfl, rfl, rfl, rfl, rfl⟩, rfl, ⟨[], by simp⟩, rfl, rfl, rfl, rfl, rfl⟩
  have key : ∀ u : State, Keeps s1 u → 
      ∃ w, (if u.home.reqs.any (fun p => p.line == line && decide (p.id ≠ s.home.nextReq)) = true then u else serveReq s.home.nextReq u) = serveReq s.home.nextReq w ∧
       w.home.reqs = s.home.reqs ++ [⟨s.home.nextReq, h, k, line, haddr, mv, d, m, p, c, false, .queued, false⟩] ∧ w.home.filt = s.home.filt ∧
       w.home.snoops = s.home.snoops ∧ w.fc = s.fc ∧ w.mem = { s.mem with rootMark := w.mem.rootMark } ∧ Beside s w := by
    intro u hu
    have hr : u.home.reqs = s.home.reqs ++ [⟨s.home.nextReq, h, k, line, haddr, mv, d, m, p, c, false, .queued, false⟩] := by
      rw [hu.home, ← hs1]
    rw [if_neg]
    · refine ⟨u, rfl, hr, ?_, ?_, ?_, ?_, b1.trans (Keeps.calmly hu).beside⟩
      · rw [hu.home, ← hs1]
      · rw [hu.home, ← hs1]
      · rw [hu.fc, ← hs1]
      · rw [hu.mem, ← hs1]
    · rw [hr]
      simp only [List.any_append, List.any_cons, List.any_nil, Bool.or_false, Bool.or_eq_true, not_or]
      constructor
      · simp; intro x hx hl; exact absurd hl (hf x hx).1
      · simp
  split
  · exact key _ (Keeps.count _ _ _ _ _)
  · exact key _ (.refl _)

/-- Reads that hit and train no prefetch. -/
theorem trainStream_calmly (r : Region) (h line : Nat) (s : State) (hp : s.rdB FCA_CFG_PFEN = false) : Calmly s (trainStream r h line s) := by
  have h0 : ∀ f : Fc → Fc, (∀ x, (f x).lines = x.lines) → Calmly s { s with fc := f s.fc } := fun f hf =>
    ⟨⟨fun _ _ _ _ => rfl, rfl, rfl, rfl, rfl, rfl, rfl, rfl, rfl, rfl, rfl, rfl, rfl, rfl⟩, rfl, hf _, ⟨[], by simp⟩, rfl, rfl, rfl⟩
  unfold trainStream
  dsimp only
  split
  · exact h0 (fun x => { x with clock := x.clock + 1, streams := _ }) (fun _ => rfl)
  · have hn : ∀ x : Nat, ¬(2 ≤ x ∧ s.rdB FCA_CFG_PFEN = true) := fun x c => by rw [hp] at c; exact absurd c.2 (by decide)
    erw [if_neg (hn _)]
    · exact h0 (fun x => { x with clock := x.clock + 1, streams := _ }) (fun _ => rfl)

theorem noteActivity_calmly (s : State) : Calmly s (noteActivity s) :=
  ⟨⟨fun _ _ _ _ => rfl, rfl, rfl, rfl, rfl, rfl, rfl, rfl, rfl, rfl, rfl, rfl, rfl, rfl⟩, rfl, rfl, ⟨[], by simp [noteActivity]⟩, rfl, rfl, rfl⟩

theorem isDB_of (s : State) (r : Region) (line : Nat) (h : s.regionOf (lineExt line) = some r) : s.isDB line = r.db := by
  unfold State.isDB; rw [h]
theorem holdersOf_congr {s t : State} {l : Nat} (h : t.filt l = s.filt l) : t.holdersOf l = s.holdersOf l := by unfold State.holdersOf; rw [h]
theorem filt_congr {s t : State} (l : Nat) (h : t.home.filt = s.home.filt) (d : t.home.dead = s.home.dead) : t.filt l = s.filt l := by
  unfold State.filt; rw [h, d]

theorem Sends.settle {s x : State} {o : Out} (h : Sends s x o) (k : Keeps x (settle x)) : Sends s (settle x) o := h.after k.out

theorem serve_read (s : State) (h : Head) (k : ReqKind) (hk : k = .rd ∨ k = .rdData) (haddr line : Nat) (mv : Meta) (r : Region) (l : FcLine)
    (S : Served s h k haddr r line) (hl : s.fcLine line = some l) (hp : l.poison = false) (hm : l.mask = fullMask) (H : SoleHolder s h line) :
    ∃ x, arrive h k haddr mv 0 0 false s = x ∧
      let g : Meta := if k == .rdData then (if (s.filt line).isNone then .any else .shared) else mv
      Sends s x (.memData h haddr l.data false (if r.db then g else .invalid) 0) ∧
      (r.db = true → Sends s x (.ndr h haddr (grantRsp g) 0)) ∧
      x.holdersOf line = (if r.db && g != .invalid then grantOf h g else s.holdersOf line) ∧ x.home.reqs = s.home.reqs ∧ Beside s x := by
  refine ⟨_, rfl, ?_⟩
  unfold arrive
  rw [S.gate]
  dsimp only
  unfold serveMem
  have c0 := noteActivity_calmly s
  have up0 : (noteActivity s).upsets = [] := S.upsets
  have st0 : (noteActivity s).stopped = false := gate_stopped S.gate
  have pf0 : (noteActivity s).rdB FCA_CFG_PFEN = false := S.prefetch
  generalize noteActivity s = s0 at c0 up0 st0 pf0 ⊢
  dsimp only
  rw [checkLine_nil _ _ up0, if_neg (by simp [st0]), if_neg (by simp)]
  have ha : k.answers = false := by rcases hk with h | h <;> rw [h] <;> rfl
  have hi : k.isRead = true := by rcases hk with h | h <;> rw [h] <;> rfl
  rw [ha, hi]
  simp only [Bool.false_eq_true, if_false, if_true]
  have rk0 : RegsKept [] s s0 := c0.around.regs
  have hc : s0.ceil h (clsOf r.cls) = s.ceil h (clsOf r.cls) := RK.ceil rk0 _ _
  obtain ⟨u, hu, ur, uf, us, ufc, um, ub⟩ := acceptReq_clear h k line haddr mv 0 0 false (s0.ceil h (clsOf r.cls)) s0
    (by rw [c0.home]; exact S.reqs)
    (by rw [RK.trackers rk0 (by rw [c0.home]), RK.sliceOf rk0, hc, rk0 _ _ (by decide) (by decide)]; exact S.share)
  rw [hu]
  have rku : RegsKept [] s u := RK.trans rk0 ub.regs
  have bsu : Beside s u := c0.beside.trans ub
  generalize hq : (⟨s0.home.nextReq, h, k, line, haddr, mv, 0, 0, false, s0.ceil h (clsOf r.cls), false, .queued, false⟩ : Req) = q at hu ur
  have q1 : q.line = line := by rw [← hq]
  have q2 : q.kind = k := by rw [← hq]
  have q3 : q.head = h := by rw [← hq]
  have q4 : q.haddr = haddr := by rw [← hq]
  have q5 : q.mute = false := by rw [← hq]
  have q6 : q.ovd = false := by rw [← hq]
  have q7 : q.mv = mv := by rw [← hq]
  have q8 : q.id = s0.home.nextReq := by rw [← hq]
  have ufilt : u.filt line = s.filt line := filt_congr _ (by rw [uf, c0.home]) (bsu.dead)
  have udb : u.isDB line = r.db := by rw [RK.isDB rku]; exact isDB_of s r line S.home
  have hfresh : ∀ p ∈ s0.home.reqs, p.id ≠ q.id ∧ p.line ≠ q.line := by
    intro p hp'; rw [q1, q8, c0.home]; rw [c0.home] at hp'; exact ⟨(S.reqs p hp').2, (S.reqs p hp').1⟩
  generalize hq' : (if u.isDB q.line then asRead q (u.filt q.line) else q) = q'
  have p1 : q'.line = line ∧ q'.head = h ∧ q'.haddr = haddr ∧ q'.mute = false ∧ q'.ovd = false ∧ q'.id = q.id ∧ (q'.kind = .rd ∨ q'.kind = .rdData) := by
    subst hq'
    split
    · unfold asRead; split
      · exact ⟨q1, q3, q4, q5, q6, rfl, .inl rfl⟩
      · exact ⟨q1, q3, q4, q5, q6, rfl, by rw [q2]; exact hk⟩
    · exact ⟨q1, q3, q4, q5, q6, rfl, by rw [q2]; exact hk⟩
  generalize hg : (if k == .rdData then (if (s.filt line).isNone then Meta.any else Meta.shared) else mv) = g
  have hrowdb : r.db = true → q'.kind = .rd ∧ q'.mv = g := by
    intro db
    rw [← hq', q1, udb, if_pos db, ufilt]
    unfold asRead
    rw [q2]
    rcases hk with hk | hk
    · subst hk; subst hg; simp [q7, q2]
    · subst hk; subst hg; simp
  have hH : ∀ e, u.filt line = some e → e.holders = headBit h ∧ e.held = false := fun e he => H.holders e (by rw [← ufilt]; exact he)
  have hrs : u.isDB q.line = true → rowSnoops q'.kind q'.mv q'.head (u.filt q.line) = none := by
    rw [q1, udb]; intro db
    obtain ⟨a, b⟩ := hrowdb db
    rw [a, b, p1.2.1]
    rcases he : u.filt line with _ | e
    · rfl
    · have := (hH e he).1
      unfold rowSnoops
      simp only [this]
      have z : headBit h &&& ~~~headBit h = 0 := by simp
      cases g <;> simp [z]
  obtain ⟨w, hw, wb, wfilt, wr, wfc, wm, wre, wp⟩ := serveReq_clear q u s0.home.reqs ur hfresh
    (by rw [q1]; unfold State.snooped; rw [us, c0.home]; exact S.snooped)
    (by rw [q1]; unfold State.evicting; rw [bsu.evt]; exact S.evicting)
    (fun _ _ _ => by rw [q1]; unfold State.filtOfSet; rw [uf, c0.home, RK.sliceOf rku]; exact H.way) q' hq'.symm hrs
  rw [hw]
  have bsw := bsu.trans wb
  have hlw : w.fcLine q'.line = some l := by rw [p1.1, RK.fcLine bsw.regs bsw.lines]; exact hl
  obtain ⟨v, hv, vc⟩ := dataStage_hit q' w r l p1.2.2.2.2.2.2 (by rw [p1.1, RK.regionOf bsw.regs]; exact S.home) hlw hp hm
  rw [hv]
  have bsv := bsw.trans vc.beside
  have wfilt' : w.filt line = u.filt line := q1 ▸ wfilt
  have vfilt : v.filt line = s.filt line := ((filt_congr line (by rw [vc.home]) (by rw [vc.home])).trans wfilt').trans ufilt
  have vdb : v.isDB q'.line = r.db := by rw [p1.1, RK.isDB bsv.regs]; exact isDB_of s r line S.home
  generalize hrow : rowOutcome q'.kind q'.mv q'.head (v.filt q'.line) = row
  obtain ⟨st, ndr, gm⟩ := row
  have hd0 : headBit h &&& v.home.dead = 0 := by rw [bsv.dead, BitVec.and_comm]; exact S.alive
  have hb0 : headBit h ≠ 0 := by
    intro e
    have := congrArg (fun x => x.getLsbD h.val) e
    simp [headBit] at this
  have hmask : ∀ e, s.filt line = some e → e.holders ≠ 0 ∧ e.holders &&& v.home.dead = 0 := by
    intro e he
    rw [(H.holders e he).1]; exact ⟨hb0, hd0⟩
  have hhb : headBit h ||| headBit h = headBit h := by simp
  have hout : (st = some (true, headBit h) ∨ st = some (false, headBit h) ∨ st = s.holdersOf line) := by
    have hvf : v.filt q'.line = s.filt line := by rw [p1.1]; exact vfilt
    rw [hvf] at hrow
    rcases he : s.filt line with _ | e
    · rw [he] at hrow
      unfold rowOutcome at hrow
      rw [p1.2.1] at hrow
      have hk' := p1.2.2.2.2.2.2
      unfold State.holdersOf; rw [he]
      rcases hk' with hk' | hk' <;> rw [hk'] at hrow <;> cases hmv : q'.mv <;> rw [hmv] at hrow <;> simp at hrow <;> simp [← hrow.1]
    · rw [he] at hrow
      have e1 := (H.holders e he).1
      unfold rowOutcome at hrow
      rw [p1.2.1] at hrow
      have hk' := p1.2.2.2.2.2.2
      unfold State.holdersOf; rw [he]
      rcases hk' with hk' | hk' <;> rw [hk'] at hrow <;> cases hmv : q'.mv <;> rw [hmv] at hrow <;> simp [e1, hhb] at hrow <;> simp [← hrow.1, e1]
  have hst : ∀ x hs, st = some (x, hs) → hs ≠ 0 ∧ hs &&& v.home.dead = 0 := by
    intro x hs hx
    rcases hout with ho | ho | ho
    · rw [ho] at hx; cases hx; exact ⟨hb0, hd0⟩
    · rw [ho] at hx; cases hx; exact ⟨hb0, hd0⟩
    · rw [ho] at hx
      unfold State.holdersOf at hx
      rcases he : s.filt line with _ | e
      · rw [he] at hx; cases hx
      · rw [he] at hx
        have := hmask e he
        simp at hx; rw [← hx.2]; exact this
  have hcr := completeRead q' l.data v s0.home.reqs (by rw [vc.home]; exact wr) (fun p hp' => by rw [p1.2.2.2.2.2.1]; exact (hfresh p hp').1)
    p1.2.2.2.1 p1.2.2.2.2.1 p1.2.2.2.2.2.2 (by
      rw [p1.1]
      have : (fun p : Req => Sys2Proof.Machine.sliceOf v p.line == Sys2Proof.Machine.sliceOf v line) = fun p => Sys2Proof.Machine.sliceOf s p.line == Sys2Proof.Machine.sliceOf s line := by
        funext p; rw [RK.sliceOf bsv.regs, RK.sliceOf bsv.regs]
      rw [this, c0.home]; exact S.light) st ndr gm hrow hst
  rw [p1.2.1, p1.2.2.1, vdb, p1.1] at hcr
  obtain ⟨c1, c2, c3, c4, c5⟩ := hcr
  have bx := bsv.trans c5
  generalize completeReq q' l.data false v = y at c1 c2 c3 c4 c5 bx
  have ty := trainStream_calmly r h line y (by unfold State.rdB; rw [bx.regs _ _ (by decide) (by decide)]; exact S.prefetch)
  have bz := bx.trans ty.beside
  have hgm : r.db = true → gm = g ∧ ndr = grantRsp g ∧ st = (if g != .invalid then grantOf h g else s.holdersOf line) := by
    intro db
    obtain ⟨a, b⟩ := hrowdb db
    have hvf : v.filt q'.line = s.filt line := by rw [p1.1]; exact vfilt
    rw [hvf, a, b, p1.2.1] at hrow
    unfold State.holdersOf
    rcases he : s.filt line with _ | e
    · rw [he] at hrow
      cases g <;> simp [rowOutcome] at hrow <;> simp [← hrow.1, ← hrow.2.1, ← hrow.2.2, grantRsp, grantOf]
    · rw [he] at hrow
      have e1 := (H.holders e he).1
      cases g <;> simp [rowOutcome, e1, hhb] at hrow <;> simp [← hrow.1, ← hrow.2.1, ← hrow.2.2, grantRsp, grantOf, e1]
  have hvh : v.holdersOf line = s.holdersOf line := holdersOf_congr vfilt
  have hyz : (trainStream r h line y).holdersOf line = y.holdersOf line := holdersOf_congr (filt_congr _ (by rw [ty.home]) (by rw [ty.home]))
  refine ⟨?_, ?_, ?_, ?_, bz⟩
  · refine (Sends.before bsv.out ?_).after ty.out
    by_cases db : r.db = true
    · rw [if_pos db] at c1 ⊢; rw [(hgm db).1] at c1; exact c1
    · rw [if_neg db] at c1 ⊢; exact c1
  · intro db
    refine (Sends.before bsv.out ?_).after ty.out
    rw [← (hgm db).2.1]; exact c2 db
  · rw [hyz, c3]
    by_cases db : r.db = true
    · rw [if_pos db, (hgm db).2.2]; simp [db]
    · rw [if_neg db, hvh]; simp [db]
  · rw [ty.home, c4, c0.home]

/-- The end of a command after which nothing is held. -/
theorem ends_quiet {s x : State} (S : s.Calm) (hh : s.home.held = []) (b : Beside s x) :
    releaseHeld x = x ∧ Keeps x (settle x) := ⟨releaseHeld_nil x (by rw [b.around.held]; exact hh), Keeps.settle x (b.calm S)⟩

theorem read_done (s x : State) (h : Head) (haddr line : Nat) (r : Region) (d : Line) (g : Meta) (S : s.Calm) (hh : s.home.held = [])
      (H : Sends s x (.memData h haddr d false (if r.db then g else .invalid) 0) ∧
      (r.db = true → Sends s x (.ndr h haddr (grantRsp g) 0)) ∧
      x.holdersOf line = (if r.db && g != .invalid then grantOf h g else s.holdersOf line) ∧ x.home.reqs = s.home.reqs ∧ Beside s x) (t : State) (ht : t = settle (releaseHeld x)) :
      Sends s t (.memData h haddr d false (if r.db then g else .invalid) 0) ∧ (r.db = true → Sends s t (.ndr h haddr (grantRsp (if r.db then g else .invalid)) 0)) ∧
      t.holdersOf line = (if r.db && g != .invalid then grantOf h g else s.holdersOf line) ∧ t.fc.lines = s.fc.lines ∧ t.home.reqs = s.home.reqs ∧ Around s t := by
  obtain ⟨a, b, c, d, e⟩ := H
  obtain ⟨f2, f3⟩ := ends_quiet S hh e
  rw [f2] at ht
  have f3' : Keeps x t := by rw [ht]; exact f3
  clear ht f3
  refine ⟨a.after f3'.out, fun db => ?_, ?_, by rw [f3'.fc]; exact e.lines, by rw [f3'.home]; exact d, e.around.trans (Keeps.around f3')⟩
  · rw [if_pos db]; exact (b db).after f3'.out
  · exact (holdersOf_congr (s := x) (t := t) (filt_congr line (by rw [f3'.home]) (by rw [f3'.home]))).trans c

theorem rowOutcome_congr (k : ReqKind) (mv : Meta) (h : Nat) (e f : Option FiltEntry)
    (he : e.map (fun e => (e.excl, e.holders)) = f.map (fun e => (e.excl, e.holders))) : rowOutcome k mv h e = rowOutcome k mv h f := by
  rcases e with _ | e <;> rcases f with _ | f <;> simp at he
  · rfl
  · cases k <;> cases mv <;> simp [rowOutcome, he.1, he.2]

theorem unsilence_fresh (line h : Nat) (s : State) :
    (unsilence line h s).holdersOf line = s.holdersOf line ∧ (unsilence line h s).home.reqs = s.home.reqs ∧ (unsilence line h s).fc = s.fc ∧
    (unsilence line h s).mem = s.mem ∧ (unsilence line h s).home.nextReq = s.home.nextReq ∧ Beside s (unsilence line h s) := by
  unfold unsilence
  split
  · rename_i e he
    refine ⟨?_, rfl, rfl, rfl, rfl, ⟨⟨fun _ _ _ _ => rfl, rfl, rfl, rfl, rfl, rfl, rfl, rfl, rfl, rfl, rfl, rfl, rfl, rfl⟩, rfl, ⟨[], by simp [setFilt]⟩, rfl, rfl, rfl, rfl, rfl⟩⟩
    unfold State.holdersOf
    dsimp only
    rw [filt_setFilt]
    unfold State.filt; rw [he]
    dsimp only
    split <;> rfl
  · exact ⟨rfl, rfl, rfl, rfl, rfl, .refl s⟩

theorem snoopOf_none (s : State) (h line : Nat) (H : s.snooped line = false) : s.snoopOf h line = none := by
  unfold State.snoopOf
  rw [List.find?_eq_none]
  intro n hn
  unfold State.snooped at H
  rw [List.any_eq_false] at H
  have := H n hn
  simp at this ⊢; intro _; exact this

theorem isNone_of_map {e : Option FiltEntry} {f : Option FiltEntry} (he : e.map (fun e => (e.excl, e.holders)) = f.map (fun e => (e.excl, e.holders))) :
    e = none ↔ f = none := by
  rcases e with _ | e <;> rcases f with _ | f <;> simp at he ⊢

/-- A request that is no read, and needs no snoop, reaches its data stage. -/
theorem serve_to_data (s : State) (h : Head) (k : ReqKind) (hk : k.isRead = false) (haddr line : Nat) (mv : Meta) (d : Line) (m : Mask) (p : Bool) (r : Region)
    (S : Served s h k haddr r line)
    (hrow : r.db = true → ∀ e : Option FiltEntry, e.map (fun e => (e.excl, e.holders)) = s.holdersOf line → rowSnoops k mv h e = none)
    (hway : r.db = true → (rowOutcome k mv h (s.filt line)).1.isSome = true → s.filt line = none → (s.filtOfSet (sliceOf s line) (filtSet line)).length < 16) :
    ∃ w q, arrive h k haddr mv d m p s = dataStage q w ∧ q.line = line ∧ q.kind = k ∧ q.head = h ∧ q.haddr = haddr ∧ q.mute = false ∧ q.ovd = false ∧
      q.mv = mv ∧ q.data = d ∧ q.mask = m ∧ q.poison = p ∧ q.id = s.home.nextReq ∧ q.cls = s.ceil h (clsOf r.cls) ∧
      Beside s w ∧ w.holdersOf line = s.holdersOf line ∧ w.home.reqs = s.home.reqs ++ [q] ∧ w.fc = s.fc ∧ w.mem = { s.mem with rootMark := w.mem.rootMark } := by
  unfold arrive
  rw [S.gate]
  dsimp only
  unfold serveMem
  have c0 := noteActivity_calmly s
  have up0 : (noteActivity s).upsets = [] := S.upsets
  have st0 : (noteActivity s).stopped = false := gate_stopped S.gate
  have fc0 : (noteActivity s).fc = s.fc := rfl
  have mm0 : (noteActivity s).mem = s.mem := rfl
  generalize noteActivity s = s0 at c0 up0 st0 fc0 mm0 ⊢
  dsimp only
  rw [checkLine_nil _ _ up0, if_neg (by simp [st0]), if_neg (by simp), hk]
  simp only [Bool.false_eq_true, if_false]
  have hsn : (if k.answers = true then (if k.answers = true then unsilence line h s0 else s0).snoopOf h line else none) = none := by
    split
    · apply snoopOf_none
      unfold State.snooped
      rw [(unsilence_fresh line h s0).2.2.2.2.2.around.snoops, c0.home]; exact S.snooped
    · rfl
  rw [hsn]
  dsimp only
  obtain ⟨s1, hs1, h1, h2, h3, h4, h5, h6⟩ : ∃ s1, (if k.answers = true then unsilence line h s0 else s0) = s1 ∧ s1.holdersOf line = s.holdersOf line ∧
      s1.home.reqs = s.home.reqs ∧ s1.fc = s.fc ∧ s1.mem = s.mem ∧ s1.home.nextReq = s.home.nextReq ∧ Beside s s1 := by
    have e0 : s0.holdersOf line = s.holdersOf line := holdersOf_congr (filt_congr line (by rw [c0.home]) (by rw [c0.home]))
    split
    · obtain ⟨a, b, c, d, e, f⟩ := unsilence_fresh line h s0
      exact ⟨_, rfl, a.trans e0, by rw [b, c0.home], c.trans fc0, d.trans mm0, by rw [e, c0.home], c0.beside.trans f⟩
    · exact ⟨_, rfl, e0, by rw [c0.home], fc0, mm0, by rw [c0.home], c0.beside⟩
  have hfind : s1.home.filt.find line = none → s1.home.filt = s.home.filt := by
    intro hn
    rw [← hs1] at hn ⊢
    split at hn
    · rename_i ha
      rw [if_pos ha]
      unfold unsilence at hn ⊢
      split at hn
      · simp [setFilt, Map.upd, Map.find_put] at hn
      · rename_i he; rw [c0.home]
    · rename_i ha; rw [if_neg ha, c0.home]
  rw [hs1]
  have rk1 := h6.regs
  have hc : s0.ceil h (clsOf r.cls) = s.ceil h (clsOf r.cls) := RK.ceil c0.around.regs _ _
  rw [hc]
  obtain ⟨u, hu, ur, uf, us, ufc, um, ub⟩ := acceptReq_clear h k line haddr mv d m p (s.ceil h (clsOf r.cls)) s1
    (by rw [h2, h5]; exact S.reqs)
    (by rw [RK.trackers rk1 h2, RK.sliceOf rk1, rk1 _ _ (by decide) (by decide)]; exact S.share)
  rw [hu]
  have rku : RegsKept [] s u := RK.trans rk1 ub.regs
  have bsu : Beside s u := h6.trans ub
  generalize hq : (⟨s1.home.nextReq, h, k, line, haddr, mv, d, m, p, s.ceil h (clsOf r.cls), false, .queued, false⟩ : Req) = q at hu ur
  have q1 : q.line = line := by rw [← hq]
  have q2 : q.kind = k := by rw [← hq]
  have q3 : q.head = h := by rw [← hq]
  have q7 : q.mv = mv := by rw [← hq]
  have q8 : q.id = s.home.nextReq := by rw [← hq, ← h5]
  have uh : u.holdersOf line = s.holdersOf line := (holdersOf_congr (filt_congr _ uf (ub.dead))).trans h1
  have udb : u.isDB line = r.db := by rw [RK.isDB rku]; exact isDB_of s r line S.home
  have hfresh : ∀ p ∈ s1.home.reqs, p.id ≠ q.id ∧ p.line ≠ q.line := by
    intro p hp'; rw [q1, q8]; rw [h2] at hp'; exact ⟨(S.reqs p hp').2, (S.reqs p hp').1⟩
  have hnr : (q.kind == ReqKind.rdData) = false := by rw [q2]; cases k <;> simp_all [ReqKind.isRead]
  obtain ⟨w, hw, wb, wfilt, wr, wfc, wm, wre, wp⟩ := serveReq_clear q u s1.home.reqs ur hfresh
    (by rw [q1]; unfold State.snooped; rw [us, h6.around.snoops]; exact S.snooped)
    (by rw [q1]; unfold State.evicting; rw [bsu.evt]; exact S.evicting)
    (fun db a b => by
      rw [q1] at db b a ⊢
      rw [q2, q3, q7] at a
      rw [udb] at db
      rw [uf] at b
      have e1 := hfind b
      have e2 : s.filt line = none := by unfold State.filt; rw [← e1, b]
      unfold State.filtOfSet
      rw [uf, e1, RK.sliceOf rku]
      refine hway db ?_ e2
      rw [← a]; congr 2
      apply rowOutcome_congr; exact uh.symm) q
    (by unfold asRead; rw [hnr]; simp)
    (by rw [q1, q2, q3, q7, udb]; intro db; exact hrow db _ uh)
  refine ⟨w, q, hw, q1, q2, q3, ?_, ?_, ?_, q7, ?_, ?_, ?_, q8, ?_, bsu.trans wb, ?_, by rw [wr, h2], by rw [wfc, ufc, h3], ?_⟩
  · rw [← hq]
  · rw [← hq]
  · rw [← hq]
  · rw [← hq]
  · rw [← hq]
  · rw [← hq]
  · rw [← hq]
  · rw [q1] at wfilt; exact (holdersOf_congr wfilt).trans uh
  · rw [wm, um, h4]

theorem headBit_ne (h : Head) : headBit h ≠ 0 := by
  intro e
  have := congrArg (fun x => x.getLsbD h.val) e
  simp [headBit] at this
theorem sub_dead {a d : Heads} (b : Heads) (h : a &&& d = 0) : (a &&& b) &&& d = 0 := by
  rw [BitVec.and_assoc, BitVec.and_comm b d, ← BitVec.and_assoc, h]; simp
theorem filt_alive (s : State) (line : Nat) (e : FiltEntry) (h : s.filt line = some e) : e.holders ≠ 0 ∧ e.holders &&& s.home.dead = 0 := by
  unfold State.filt at h
  split at h
  · dsimp only at h
    split at h
    · cases h
    · rename_i hn; cases h; refine ⟨hn, ?_⟩
      dsimp only; rw [BitVec.and_assoc]; simp
  · cases h

/-- The end of a served request that is no read and no write. -/
theorem serve_other (s : State) (h : Head) (k : ReqKind) (hk : k = .inv ∨ k = .clnEvct) (haddr line : Nat) (mv : Meta) (r : Region)
    (S : Served s h k haddr r line) (db : r.db = true)
    (hrow : ∀ e : Option FiltEntry, e.map (fun e => (e.excl, e.holders)) = s.holdersOf line → rowSnoops k mv h e = none)
    (hway : (rowOutcome k mv h (s.filt line)).1.isSome = true → s.filt line = none → (s.filtOfSet (sliceOf s line) (filtSet line)).length < 16)
    (st : Option (Bool × Heads)) (ndr : Ndr) (g : Meta) (ho : rowOutcome k mv h (s.filt line) = (st, ndr, g))
    (hst : ∀ x hs, st = some (x, hs) → hs ≠ 0 ∧ hs &&& s.home.dead = 0) (t : State) (ht : t = settle (releaseHeld (arrive h k haddr mv 0 0 false (addUpsets [] s)))) :
    Sends s t (.ndr h haddr ndr 0) ∧ t.holdersOf line = st ∧ t.fc = s.fc ∧ t.home.reqs = s.home.reqs ∧ Around s t := by
  have hk1 : k.isRead = false := by rcases hk with h | h <;> rw [h] <;> rfl
  obtain ⟨w, q, hw, q1, q2, q3, q4, q5, q6, q7, q8, q9, q10, q11, q12, wb, wh, wr, wfc, wm⟩ :=
    serve_to_data s h k hk1 haddr line mv 0 0 false r S (fun _ => hrow) (fun _ => hway)
  rw [addUpsets_nil, hw] at ht
  have wdb : w.isDB q.line = true := by rw [q1, RK.isDB wb.regs, isDB_of s r line S.home, db]
  have hds : dataStage q w = completeReq q 0 false w := by
    unfold dataStage
    rw [q1, RK.regionOf wb.regs, S.home, q2]
    rcases hk with h | h <;> rw [h]
  rw [hds] at ht
  have hc := completeOther q w s.home.reqs wr (fun p hp => by rw [q11]; exact (S.reqs p hp).2) q5 q6
    (by rw [q2]; rcases hk with h | h <;> rw [h] <;> rfl)
    (by
      rw [q1]
      have : (fun p : Req => Sys2Proof.Machine.sliceOf w p.line == Sys2Proof.Machine.sliceOf w line) = fun p => Sys2Proof.Machine.sliceOf s p.line == Sys2Proof.Machine.sliceOf s line := by
        funext p; rw [RK.sliceOf wb.regs, RK.sliceOf wb.regs]
      rw [this]; exact S.light) st ndr g
    (by rw [q1, q2, q3, q7, ← ho]; exact rowOutcome_congr _ _ _ _ _ wh)
    (by rw [wb.dead]; exact hst)
  rw [if_pos wdb, if_pos wdb, q3, q4, q1] at hc
  obtain ⟨c1, c2, c3, c4, c5⟩ := hc
  generalize completeReq q 0 false w = x at c1 c2 c3 c4 c5 ht
  have bx := wb.trans c5
  obtain ⟨f2, f3⟩ := ends_quiet S.calm S.held bx
  rw [f2] at ht
  have f3' : Keeps x t := by rw [ht]; exact f3
  refine ⟨(Sends.before wb.out c1).after f3'.out, ?_, ?_, ?_, bx.around.trans (Keeps.around f3')⟩
  · exact (holdersOf_congr (filt_congr line (by rw [f3'.home]) (by rw [f3'.home]))).trans c2
  · rw [f3'.fc, c4, wfc]
  · rw [f3'.home, c3]

theorem count_put {α : Type} (p : Nat × α → Bool) (m : Map α) (k : Nat) (v : α) : ((m.put k v).filter p).length ≤ (m.filter p).length + 1 := by
  induction m with
  | nil => unfold Map.put; exact le_trans (List.length_filter_le _ _) (by simp)
  | cons x m ih =>
    obtain ⟨a, w⟩ := x
    unfold Map.put
    split
    · rw [List.filter_cons]; split <;> simp
    · split
      · rw [List.filter_cons, List.filter_cons]
        split
        · split <;> simp
        · split
          · simp only [List.length_cons]; omega
          · omega
      · rw [List.filter_cons, List.filter_cons]; split
        · simp only [List.length_cons]; omega
        · exact ih

/-- A write places its bytes: a state beside the old one but for the line itself. -/
theorem writeLine_places (r : Region) (line slot : Nat) (d : Line) (m : Mask) (o : Nat) (c : Cls) (s : State) (old : Option FcLine)
    (hc : match old with
      | some l => s.fcFind line = some slot ∧ l.poison = false
      | none => s.fcFind line = none ∧ s.wbLine line = none ∧ s.mem.backPoison.contains line = false ∧
          (lineSlots s line).find? (fun k => (s.fc.lines.find k).isNone && !(s.busyWay k)) = some slot)
    (ho : s.fc.lines.find slot = old) :
    ∃ u l, writeLine r line d m false o c s = some u ∧ u.fc.lines = s.fc.lines.put slot l ∧ u.home = s.home ∧ u.regs = s.regs ∧ u.part = s.part ∧
      u.mem.store = s.mem.store ∧ u.out = s.out ∧ u.mode = s.mode ∧ u.cap = s.cap ∧
      l.line = old.elim line (·.line) ∧ l.dirty = true ∧ l.poison = false ∧ l.mask = (old.elim 0 (·.mask)) ||| m ∧
        l.data = regionRound r ((old.elim 0 (·.mask)) ||| m) (mergeLine (old.elim 0 (·.data)) d m) := by
  rcases old with _ | l
  · obtain ⟨h1, h2, h3, h4⟩ := hc
    unfold writeLine
    dsimp only
    have e1 : (nextClock s).fcFind line = none := h1
    have e2 : (nextClock s).wbLine line = none := h2
    have e3 : (nextClock s).mem.backPoison.contains line = false := h3
    have e4 : allocWay line false (nextClock s) = some (slot, nextClock s) := by
      unfold allocWay
      have : (lineSlots (nextClock s) line).find? (fun k => ((nextClock s).fc.lines.find k).isNone && !((nextClock s).busyWay k)) = some slot := h4
      dsimp only
      rw [this]
    rw [e1]
    dsimp only
    rw [e3, e4]
    simp only [Bool.false_and, Bool.false_eq_true, if_false, e2]
    split
    · exact ⟨_, _, rfl, rfl, rfl, rfl, rfl, rfl, rfl, rfl, rfl, rfl, rfl, rfl, rfl, rfl⟩
    · exact ⟨_, _, rfl, rfl, rfl, rfl, rfl, rfl, rfl, rfl, rfl, rfl, rfl, rfl, rfl, rfl⟩
  · obtain ⟨h1, h2⟩ := hc
    unfold writeLine
    dsimp only
    have e1 : (nextClock s).fcFind line = some slot := h1
    have e2 : (nextClock s).fc.lines.find slot = some l := ho
    rw [e1]
    dsimp only
    rw [e2]
    simp only [h2, Bool.false_and, Bool.false_eq_true, if_false]
    split
    · exact ⟨_, _, rfl, rfl, rfl, rfl, rfl, rfl, rfl, rfl, rfl, rfl, rfl, rfl, rfl, rfl⟩
    · exact ⟨_, _, rfl, rfl, rfl, rfl, rfl, rfl, rfl, rfl, rfl, rfl, rfl, rfl, rfl, rfl⟩

theorem RK.pdirty {s t : State} (h : t.fc.lines = s.fc.lines) (x : Nat) : t.pdirty x = s.pdirty x := by
  unfold State.pdirty State.fcOfSlice; rw [h]
theorem RK.pdHeld {s t : State} (h : RegsKept [] s t) (hh : t.fc.lines = s.fc.lines) (r : Region) (x : Nat) : t.pdHeld r x = s.pdHeld r x := by
  unfold State.pdHeld State.rdB
  rw [RK.fcLine h hh, RK.pdirty hh, RK.sliceOf h, h _ _ (by decide) (by decide), h _ _ (by decide) (by decide), h _ _ (by decide) (by decide)]

theorem serve_write (s : State) (h : Head) (k : ReqKind) (hk : k = .wr ∨ k = .wrPtl) (haddr line slot : Nat) (mv : Meta) (d : Line) (m0 m : Mask) (r : Region) (old : Option FcLine)
    (hm : m = if k == .wr then fullMask else m0)
    (S : Served s h k haddr r line) (H : SoleHolder s h line) (hpd : s.pdHeld r line = false) (hpm : s.pdirty (sliceOf s line) + 257 < s.rd FCA_CFG_PDMAX)
    (hold : match old with
      | some l => s.fcFind line = some slot ∧ l.poison = false
      | none => s.fcFind line = none ∧ s.wbLine line = none ∧ s.mem.backPoison.contains line = false ∧
          (lineSlots s line).find? (fun k => (s.fc.lines.find k).isNone && !(s.busyWay k)) = some slot)
    (hso : s.fc.lines.find slot = old) (t : State) (ht : t = settle (releaseHeld (arrive h k haddr mv d m0 false (addUpsets [] s)))) :
      Sends s t (.ndr h haddr .cmp 0) ∧
      (∃ l, t.fc.lines.find slot = some l ∧ l.line = (old.elim line (·.line)) ∧ l.dirty = true ∧ l.poison = false ∧
        l.mask = (old.elim 0 (·.mask)) ||| m ∧
        l.data = regionRound r ((old.elim 0 (·.mask)) ||| m) (mergeLine (old.elim 0 (·.data)) d m)) ∧
      (∀ j, j ≠ slot → t.fc.lines.find j = s.fc.lines.find j) ∧
      t.holdersOf line = (if r.db then grantOf h mv else s.holdersOf line) ∧ t.home.reqs = s.home.reqs ∧ RegsKept [] s t ∧
      t.mem.store = s.mem.store := by
  have hk1 : k.isRead = false := by rcases hk with h | h <;> rw [h] <;> rfl
  have hd : headBit h &&& s.home.dead = 0 := by rw [BitVec.and_comm]; exact S.alive
  have hrow : r.db = true → ∀ e : Option FiltEntry, e.map (fun e => (e.excl, e.holders)) = s.holdersOf line → rowSnoops k mv h e = none := by
    intro _ e he
    unfold State.holdersOf at he
    rcases e with _ | e
    · rfl
    · rcases hf : s.filt line with _ | f
      · rw [hf] at he; simp at he
      · rw [hf] at he; simp at he
        have h1 : e.holders = headBit h := by rw [he.2]; exact (H.holders f hf).1
        have h2 : headBit h &&& ~~~headBit h = 0 := by simp
        rcases hk with hk | hk <;> subst hk <;> simp [rowSnoops, h1, h2]
  obtain ⟨w, q, hw, q1, q2, q3, q4, q5, q6, q7, q8, q9, q10, q11, q12, wb, wh, wr, wfc, wm⟩ :=
    serve_to_data s h k hk1 haddr line mv d m0 false r S hrow (fun _ _ _ => H.way)
  rw [addUpsets_nil, hw] at ht
  have wdb : w.isDB q.line = r.db := by rw [q1, RK.isDB wb.regs, isDB_of s r line S.home]
  have wslots : lineSlots w line = lineSlots s line := by unfold lineSlots; rw [RK.sliceOf wb.regs]
  obtain ⟨u, l, hu, ul, uh, ur, up, us, uo, umo, uca, l1, l2, l3, l4, l5⟩ := writeLine_places r line slot d m h q.cls w old
    (by
      rcases old with _ | l
      · dsimp only at hold ⊢
        rw [RK.fcFind wb.regs wb.lines, wslots, wm]
        unfold State.wbLine State.busyWay at *
        rw [wfc]; exact hold
      · dsimp only at hold ⊢
        rw [RK.fcFind wb.regs wb.lines]; exact hold) (by rw [wfc]; exact hso)
  have hds : dataStage q w = earlyClean (sliceOf u line) 64 (completeReq q 0 false u) := by
    have hmm : (if (q.kind == ReqKind.wr) = true then fullMask else q.mask) = m := by rw [q2, q9, hm]
    unfold dataStage
    rw [q1, RK.regionOf wb.regs, S.home]
    have hp : w.pdHeld r line = false := by rw [RK.pdHeld wb.regs wb.lines]; exact hpd
    rcases hk with h' | h'
    · rw [q2, h']; dsimp only; rw [hp]; simp only [Bool.false_eq_true, if_false]
      rw [q2, h'] at hmm
      rw [q8, q10, q3, hmm, hu]; simp
    · rw [q2, h']; dsimp only; rw [hp]; simp only [Bool.false_eq_true, if_false]
      rw [q2, h'] at hmm
      rw [q8, q10, q3, hmm, hu]; simp
  have rku : RegsKept [] s u := RK.trans wb.regs (RK.same ur up)
  have hsl : Sys2Proof.Machine.sliceOf u line = Sys2Proof.Machine.sliceOf s line := RK.sliceOf rku _
  have udb : u.isDB q.line = r.db := by rw [q1, RK.isDB rku, isDB_of s r line S.home]
  have uH : u.holdersOf line = s.holdersOf line := (holdersOf_congr (filt_congr line (by rw [uh]) (by rw [uh]))).trans wh
  have ho : rowOutcome k mv h (u.filt line) = (grantOf h mv, .cmp, mv) := by
    rcases hk with hk | hk <;> subst hk <;> cases mv <;> rfl
  have hst : ∀ x hs, grantOf h mv = some (x, hs) → hs ≠ 0 ∧ hs &&& s.home.dead = 0 := by
    intro x hs e
    cases mv <;> simp [grantOf] at e <;> (rw [← e.2]; exact ⟨headBit_ne h, hd⟩)
  have hc := completeOther q u s.home.reqs (by rw [uh]; exact wr) (fun p hp => by rw [q11]; exact (S.reqs p hp).2) q5 q6
    (by rw [q2]; rcases hk with h | h <;> rw [h] <;> rfl)
    (by
      rw [q1]
      have : (fun p : Req => Sys2Proof.Machine.sliceOf u p.line == Sys2Proof.Machine.sliceOf u line) = fun p => Sys2Proof.Machine.sliceOf s p.line == Sys2Proof.Machine.sliceOf s line := by
        funext p; rw [RK.sliceOf rku, RK.sliceOf rku]
      rw [this]; exact S.light) (grantOf h mv) .cmp mv
    (by rw [q1, q2, q3, q7]; exact ho)
    (by rw [uh, wb.dead]; exact hst)
  rw [udb, q3, q4, q1] at hc
  obtain ⟨c1, c2, c3, c4, c5⟩ := hc
  rw [hds] at ht
  have hec : earlyClean (sliceOf u line) 64 (completeReq q 0 false u) = completeReq q 0 false u := by
    have hlen : (completeReq q 0 false u).pdirty (Sys2Proof.Machine.sliceOf u line) ≤ s.pdirty (Sys2Proof.Machine.sliceOf s line) + 1 := by
      rw [hsl]
      unfold State.pdirty State.fcOfSlice
      rw [c4, ul, wfc, List.filter_filter, List.filter_filter]
      exact count_put _ _ _ _
    have hpx : (completeReq q 0 false u).rd FCA_CFG_PDMAX = s.rd FCA_CFG_PDMAX := by
      rw [c5.regs _ _ (by decide) (by decide)]; exact rku _ _ (by decide) (by decide)
    show earlyClean (sliceOf u line) (63 + 1) _ = _
    unfold earlyClean
    rw [if_pos]
    rw [hpx]
    simp only [Bool.or_eq_true, decide_eq_true_eq]
    left; omega
  rw [hec] at ht
  generalize completeReq q 0 false u = x at c1 c2 c3 c4 c5 ht
  have hxcalm : x.Calm := c5.calm ⟨by rw [umo, wb.around.mode]; exact S.calm.drain,
    by unfold State.rdB; rw [rku _ _ (by decide) (by decide)]; exact S.calm.flush, by rw [umo, wb.around.mode]; exact S.calm.plan, by
      have hs2 : u.serving = w.serving := by
        unfold State.serving State.modeCode; rw [State.rd_congr ur up, umo]
      rcases S.calm.audit with e | e
      · left; rw [uca, wb.walk]; exact e
      · right; rw [hs2, wb.serving]; exact e⟩
  have hheld : x.home.held = [] := by rw [c5.around.held, uh, wb.around.held]; exact S.held
  have f3 := Keeps.settle x hxcalm
  rw [releaseHeld_nil x hheld] at ht
  have f3' : Keeps x t := by rw [ht]; exact f3
  refine ⟨?_, ⟨l, ?_, l1, l2, l3, l4, l5⟩, ?_, ?_, ?_, ?_, ?_⟩
  · have : Sends w x (.ndr h haddr .cmp 0) := by
      have hnd : (if r.db = true then Ndr.cmp else Ndr.cmp) = Ndr.cmp := by split <;> rfl
      rw [hnd] at c1
      exact Sends.before ⟨[], by rw [uo]; simp⟩ c1
    exact (Sends.before wb.out this).after f3'.out
  · rw [f3'.fc, c4, ul, Map.find_put, if_pos rfl]
  · intro j hj
    rw [f3'.fc, c4, ul, Map.find_put, if_neg hj, wfc]
  · refine (holdersOf_congr (s := x) (t := t) (filt_congr line (by rw [f3'.home]) (by rw [f3'.home]))).trans ?_
    rw [c2, uH]
  · rw [f3'.home, c3]
  · exact RK.trans rku (RK.trans c5.regs (RK.of f3'))
  · rw [f3'.mem]; show x.mem.store = _; rw [c5.around.store, us, wm]

theorem forHeads_one (h : Head) (f : Nat → State → State) (s : State) : forHeads (headBit h) f s = f h s := by
  unfold forHeads headBit
  have : ∀ h : Head, ∀ g : Nat → State → State, ∀ s, (List.range 16).foldl (fun s i => if (1#16 <<< h.val).getLsbD i then g i s else s) s = g h s := by
    intro h g s
    have e : List.range 16 = [0,1,2,3,4,5,6,7,8,9,10,11,12,13,14,15] := by decide
    rw [e]
    fin_cases h <;> simp
  exact this h f s

/-- A read for ownership whose line one other head holds snoops it. -/
theorem serveReq_snoops (q : Req) (u : State) (l : List Req) (f : FiltEntry) (h h' : Head) (line : Nat) (hq : u.home.reqs = l ++ [q])
    (hfresh : ∀ p ∈ l, p.id ≠ q.id ∧ p.line ≠ q.line) (q1 : q.line = line) (q2 : q.kind = .rd) (q3 : q.head = h) (q7 : q.mv = .any)
    (hsn : u.snooped line = false) (hev : u.evicting line = false) (udb : u.isDB line = true) (ufilt : u.filt line = some f)
    (hf : f.holders = headBit h') (hheld : f.held = false) (hne : h ≠ h') (hal : u.sheetAlike line = false) :
    serveReq q.id u = setStage q.id .snoop (sendSnoop h' line false [line] .inv (.request q.id) u) := by
  have hreq : u.req q.id = some q := by
    unfold State.req; rw [hq]; exact find_append_fresh _ q (fun p hp => (hfresh p hp).1)
  have htw : (u.home.reqs.takeWhile (fun p => decide (p.id ≠ q.id))).any (fun p => p.line == q.line) = false := by
    rw [hq]
    have : (l ++ [q]).takeWhile (fun p => decide (p.id ≠ q.id)) = l := by
      rw [List.takeWhile_append_of_pos (by intro p hp; simpa using (hfresh p hp).1)]; simp
    rw [this, List.any_eq_false]; intro p hp; simpa using (hfresh p hp).2
  have hmod : modReq q.id (fun _ => q) u = u := by
    unfold modReq
    have : u.home.reqs.map (fun p => if p.id = q.id then q else p) = u.home.reqs := by
      rw [hq, List.map_append]
      congr 1
      · conv_rhs => rw [← List.map_id l]
        apply List.map_congr_left
        intro p hp; rw [if_neg (hfresh p hp).1]; rfl
      · simp
    rw [this]
  obtain ⟨fs, fe, fh, fst, fhe, fp, ft, fsi, fg⟩ := f
  dsimp only at hf hheld
  subst hf; subst hheld
  have hrs : ∀ b, rowSnoops .rd .any h (some ⟨fs, fe, headBit h', fst, b, fp, ft, fsi, fg⟩) = some (.inv, headBit h') := by
    intro b
    have zz : ∀ a b : Head, a ≠ b → headBit b &&& ~~~headBit a = headBit b := by decide
    have z := zz h h' hne
    simp only [rowSnoops, z]
    rw [if_neg (headBit_ne h')]
  unfold serveReq
  rw [hreq]
  dsimp only
  rw [htw]
  simp only [q1, hev, hsn, udb, q2, q3, q7, ufilt]
  have kk : (ReqKind.rd == ReqKind.rdData) = false := rfl
  simp only [kk, Bool.not_true, Bool.or_false, Bool.false_eq_true, if_false, Option.isNone, Bool.false_and]
  rw [hmod]
  simp only [q1, q2, q3, q7, hrs, hal, Bool.false_eq_true, if_false]
  rw [forHeads_one]

/-- What sending a snoop for one line of the filter does. -/
theorem sendSnoop_one (h line : Nat) (k : Snp) (why : SnpFor) (u : State) (e : FiltEntry) (hf : u.home.filt.find line = some e) :
    let w := sendSnoop h line false [line] k why u
    Sends u w (.snoop h (u.headLine h line) k false) ∧ RegsKept [] u w ∧ w.home = { u.home with
      filt := u.home.filt.put line { e with pending := true }, snoops := u.home.snoops ++ [⟨h, line, false, [line], k, why, u.standbyNs⟩] } ∧
      w.fc = u.fc ∧ w.mem = { u.mem with rootMark := w.mem.rootMark } ∧ (u.Calm → w.Calm) ∧ w.flt.dead = u.flt.dead ∧ w.part = u.part := by
  dsimp only
  unfold sendSnoop
  dsimp only
  generalize hv : count 288 (some (h, u.lineClass line)) (u.logicalSliceOf line) 1 (u.emit (.snoop h (u.headLine h line) k false)) = v
  have kv : Keeps (u.emit (.snoop h (u.headLine h line) k false)) v := by rw [← hv]; exact Keeps.count _ _ _ _ _
  have vh : v.home = u.home := by rw [kv.home]; rfl
  have vf : v.home.filt.find line = some e := by rw [vh]; exact hf
  simp only [forAll, List.foldl_cons, List.foldl_nil, vf]
  refine ⟨(Sends.emit u _).after kv.out, RK.trans (t := u.emit (.snoop h (u.headLine h line) k false)) (fun _ _ _ _ => rfl) (RK.trans (t := v) (RK.of kv) (fun _ _ _ _ => rfl)), ?_, ?_, ?_, ?_, ?_, ?_⟩
  · have ht : v.standbyNs = u.standbyNs := by unfold State.standbyNs; rw [kv.time]; rfl
    show ({ v.home with filt := v.home.filt.put line { e with pending := true }, snoops := v.home.snoops ++ [⟨h, line, false, [line], k, why, v.standbyNs⟩] } : Home) = _
    rw [vh, ht]
  · exact kv.fc
  · exact kv.mem
  · intro c
    have c1 : v.Calm := kv.calm ⟨c.drain, c.flush, c.plan, c.audit⟩
    exact ⟨c1.drain, c1.flush, c1.plan, c1.audit⟩
  · show v.flt.dead = _; rw [kv.flt]; rfl
  · exact kv.part

theorem sheetAlike_apart (u : State) (line : Nat) (h : ∀ l ∈ sheetLines (lineSheet line), l ≠ line → u.filt l = none) : u.sheetAlike line = false := by
  unfold State.sheetAlike
  dsimp only
  split
  · rfl
  · rename_i e he
    rw [List.all_eq_false]
    have : ∃ l ∈ sheetLines (lineSheet line), l ≠ line := by
      unfold sheetLines
      by_cases h0 : 4 * lineSheet line = line
      · exact ⟨4 * lineSheet line + 1, by simp, by omega⟩
      · exact ⟨4 * lineSheet line, by simp, h0⟩
    obtain ⟨l, hl, hn⟩ := this
    exact ⟨l, hl, by rw [h l hl hn]; simp⟩

/-- What a hit read of a sole holder ends in. -/
theorem hit_read_done (q : Req) (w : State) (r : Region) (l : FcLine) (line : Nat) (rest : List Req) (hq : w.home.reqs = rest ++ [q])
    (hf : ∀ p ∈ rest, p.id ≠ q.id) (q1 : q.line = line) (q2 : q.kind = .rd) (q5 : q.mute = false) (q6 : q.ovd = false) (q9 : q.head < 16)
    (hr : w.regionOf (lineExt line) = some r) (db : r.db = true) (hl : w.fcLine line = some l) (hp : l.poison = false) (hm : l.mask = fullMask)
    (hload : (rest.filter (fun p => sliceOf w p.line == sliceOf w line)).length < 480)
    (hH : ∀ e, w.filt line = some e → e.holders = headBit q.head) (hd : headBit q.head &&& w.home.dead = 0) :
    let x := dataStage q w
    Sends w x (.memData q.head q.haddr l.data false q.mv 0) ∧ Sends w x (.ndr q.head q.haddr (grantRsp q.mv) 0) ∧
      x.holdersOf line = (if q.mv = .invalid then w.holdersOf line else grantOf q.head q.mv) ∧ x.home.reqs = rest ∧ Beside w x := by
  subst q1
  obtain ⟨v, hv, vc⟩ := dataStage_hit q w r l (.inl q2) hr hl hp hm
  dsimp only
  rw [hv]
  have vdb : v.isDB q.line = true := by rw [RK.isDB vc.around.regs, isDB_of w r q.line hr, db]
  have vfilt : v.filt q.line = w.filt q.line := filt_congr _ (by rw [vc.home]) (by rw [vc.home])
  have hb0 : headBit q.head ≠ 0 := headBit_ne ⟨q.head, q9⟩
  have hhb : headBit q.head ||| headBit q.head = headBit q.head := by simp
  have hout : rowOutcome q.kind q.mv q.head (v.filt q.line) = (if q.mv = .invalid then w.holdersOf q.line else grantOf q.head q.mv, grantRsp q.mv, q.mv) := by
    rw [vfilt, q2]
    unfold State.holdersOf
    rcases he : w.filt q.line with _ | e
    · cases q.mv <;> simp [rowOutcome, grantOf, grantRsp]
    · have e1 := hH e he
      cases q.mv <;> simp [rowOutcome, grantOf, grantRsp, e1]
  have hst : ∀ x hs, (if q.mv = .invalid then w.holdersOf q.line else grantOf q.head q.mv) = some (x, hs) → hs ≠ 0 ∧ hs &&& v.home.dead = 0 := by
    intro x hs hx
    rw [vc.home]
    split at hx
    · unfold State.holdersOf at hx
      rcases he : w.filt q.line with _ | e
      · rw [he] at hx; cases hx
      · rw [he] at hx; have := hH e he; simp at hx; rw [← hx.2, this]; exact ⟨hb0, hd⟩
    · rename_i hn
      cases hmv : q.mv <;> rw [hmv] at hx hn <;> simp [grantOf] at hx hn <;> (rw [← hx.2]; exact ⟨hb0, hd⟩)
  have hcr := completeRead q l.data v rest (by rw [vc.home]; exact hq) hf q5 q6 (.inl q2) (by
    have : (fun p : Req => Sys2Proof.Machine.sliceOf v p.line == Sys2Proof.Machine.sliceOf v q.line) = fun p => Sys2Proof.Machine.sliceOf w p.line == Sys2Proof.Machine.sliceOf w q.line := by
      funext p; rw [RK.sliceOf vc.around.regs, RK.sliceOf vc.around.regs]
    rw [this]; exact hload) _ _ _ hout hst
  rw [vdb] at hcr
  simp only [if_true] at hcr
  obtain ⟨a, b, c, d, e⟩ := hcr
  exact ⟨Sends.before vc.out a, Sends.before vc.out (b trivial), c, d, vc.beside.trans e⟩

/-- What a write that finds its place ends in. -/
theorem write_done (q : Req) (w : State) (r : Region) (line slot : Nat) (m : Mask) (rest : List Req) (old : Option FcLine) (hq : w.home.reqs = rest ++ [q])
    (hf : ∀ p ∈ rest, p.id ≠ q.id) (q1 : q.line = line) (q2 : q.kind = .wr ∨ q.kind = .wrPtl) (q5 : q.mute = false) (q6 : q.ovd = false)
    (q10 : q.poison = false) (q9 : q.head < 16) (hmm : (if q.kind == .wr then fullMask else q.mask) = m)
    (hr : w.regionOf (lineExt line) = some r) (hpd : w.pdHeld r line = false) (hpm : w.pdirty (sliceOf w line) + 257 < w.rd FCA_CFG_PDMAX)
    (hold : match old with
      | some l => w.fcFind line = some slot ∧ l.poison = false
      | none => w.fcFind line = none ∧ w.wbLine line = none ∧ w.mem.backPoison.contains line = false ∧
          (lineSlots w line).find? (fun k => (w.fc.lines.find k).isNone && !(w.busyWay k)) = some slot)
    (hso : w.fc.lines.find slot = old)
    (hload : (rest.filter (fun p => sliceOf w p.line == sliceOf w line)).length < 480) (hd : headBit q.head &&& w.home.dead = 0) (hc : w.Calm) :
    let x := dataStage q w
    Sends w x (.ndr q.head q.haddr .cmp 0) ∧
      (∃ l, x.fc.lines.find slot = some l ∧ l.line = (old.elim line (·.line)) ∧ l.dirty = true ∧ l.poison = false ∧
        l.mask = (old.elim 0 (·.mask)) ||| m ∧
        l.data = regionRound r ((old.elim 0 (·.mask)) ||| m) (mergeLine (old.elim 0 (·.data)) q.data m)) ∧
      (∀ j, j ≠ slot → x.fc.lines.find j = w.fc.lines.find j) ∧
      x.holdersOf line = (if r.db then grantOf q.head q.mv else w.holdersOf line) ∧ x.home.reqs = rest ∧ RegsKept [] w x ∧
      x.mem.store = w.mem.store ∧ x.Calm ∧ x.home.held = w.home.held := by
  subst q1
  obtain ⟨u, l, hu, ul, uh, ur, up, us, uo, umo, uca, l1, l2, l3, l4, l5⟩ := writeLine_places r q.line slot q.data m q.head q.cls w old hold hso
  have hds : dataStage q w = earlyClean (sliceOf u q.line) 64 (completeReq q 0 false u) := by
    unfold dataStage
    rw [hr]
    rcases q2 with h' | h'
    · rw [h'] at hmm ⊢; dsimp only; rw [hpd]; simp only [Bool.false_eq_true, if_false]
      rw [q10, hmm, hu]; simp
    · rw [h'] at hmm ⊢; dsimp only; rw [hpd]; simp only [Bool.false_eq_true, if_false]
      rw [q10, hmm, hu]; simp
  have rku : RegsKept [] w u := RK.same ur up
  have hsl : Sys2Proof.Machine.sliceOf u q.line = Sys2Proof.Machine.sliceOf w q.line := RK.sliceOf rku _
  have udb : u.isDB q.line = r.db := by rw [RK.isDB rku, isDB_of w r q.line hr]
  have ho : rowOutcome q.kind q.mv q.head (u.filt q.line) = (grantOf q.head q.mv, .cmp, q.mv) := by
    rcases q2 with hk | hk <;> rw [hk] <;> cases q.mv <;> rfl
  have hst : ∀ x hs, grantOf q.head q.mv = some (x, hs) → hs ≠ 0 ∧ hs &&& u.home.dead = 0 := by
    intro x hs e
    rw [uh]
    cases hmv : q.mv <;> rw [hmv] at e <;> simp [grantOf] at e <;> (rw [← e.2]; exact ⟨headBit_ne ⟨q.head, q9⟩, hd⟩)
  have hcc := completeOther q u rest (by rw [uh]; exact hq) hf q5 q6
    (by rcases q2 with h | h <;> rw [h] <;> rfl)
    (by
      have : (fun p : Req => Sys2Proof.Machine.sliceOf u p.line == Sys2Proof.Machine.sliceOf u q.line) = fun p => Sys2Proof.Machine.sliceOf w p.line == Sys2Proof.Machine.sliceOf w q.line := by
        funext p; rw [RK.sliceOf rku, RK.sliceOf rku]
      rw [this]; exact hload) (grantOf q.head q.mv) .cmp q.mv ho hst
  rw [udb] at hcc
  obtain ⟨c1, c2, c3, c4, c5⟩ := hcc
  have hec : earlyClean (sliceOf u q.line) 64 (completeReq q 0 false u) = completeReq q 0 false u := by
    have hlen : (completeReq q 0 false u).pdirty (Sys2Proof.Machine.sliceOf u q.line) ≤ w.pdirty (Sys2Proof.Machine.sliceOf w q.line) + 1 := by
      rw [hsl]
      unfold State.pdirty State.fcOfSlice
      rw [c4, ul, List.filter_filter, List.filter_filter]
      exact count_put _ _ _ _
    have hpx : (completeReq q 0 false u).rd FCA_CFG_PDMAX = w.rd FCA_CFG_PDMAX := by
      rw [c5.regs _ _ (by decide) (by decide)]; exact rku _ _ (by decide) (by decide)
    show earlyClean (sliceOf u q.line) (63 + 1) _ = _
    unfold earlyClean
    rw [if_pos]
    rw [hpx]
    simp only [Bool.or_eq_true, decide_eq_true_eq]
    left; omega
  dsimp only
  rw [hds, hec]
  generalize completeReq q 0 false u = x at c1 c2 c3 c4 c5
  have uc : u.Calm := ⟨by rw [umo]; exact hc.drain, by unfold State.rdB; rw [rku _ _ (by decide) (by decide)]; exact hc.flush, by rw [umo]; exact hc.plan, by
    have hs2 : u.serving = w.serving := by unfold State.serving State.modeCode; rw [State.rd_congr ur up, umo]
    rcases hc.audit with e | e
    · left; rw [uca]; exact e
    · right; rw [hs2]; exact e⟩
  refine ⟨?_, ⟨l, ?_, l1, l2, l3, l4, l5⟩, ?_, ?_, c3, RK.trans rku c5.regs, by rw [c5.around.store, us], c5.calm uc, by rw [c5.around.held, uh]⟩
  · have hnd : (if r.db = true then Ndr.cmp else Ndr.cmp) = Ndr.cmp := by split <;> rfl
    rw [hnd] at c1
    exact Sends.before ⟨[], by rw [uo]; simp⟩ c1
  · rw [c4, ul, Map.find_put, if_pos rfl]
  · intro j hj
    rw [c4, ul, Map.find_put, if_neg hj]
  · rw [c2, holdersOf_congr (s := w) (t := u) (filt_congr q.line (by rw [uh]) (by rw [uh]))]

/-- a state differs in home (and TO_RUN) only -/
structure HomeOnly (s t : State) : Prop where
  regs : RegsKept [HOM_HEAD_TO_RUN] s t
  fc : t.fc = s.fc
  mem : t.mem = s.mem
  mode : t.mode = s.mode
  cap : t.cap = s.cap
  part : t.part = s.part
  out : t.out = s.out
  reqs : t.home.reqs = s.home.reqs
  held : t.home.held = s.home.held
  dead : t.home.dead = s.home.dead
  evt : t.home.evt = s.home.evt
  flt : t.flt = s.flt
theorem HomeOnly.refl (s : State) : HomeOnly s s := ⟨fun _ _ _ _ => rfl, rfl, rfl, rfl, rfl, rfl, rfl, rfl, rfl, rfl, rfl, rfl⟩
theorem HomeOnly.trans {s t u : State} (h : HomeOnly s t) (k : HomeOnly t u) : HomeOnly s u :=
  ⟨fun f i a b => (k.regs f i a b).trans (h.regs f i a b), k.fc.trans h.fc, k.mem.trans h.mem, k.mode.trans h.mode, k.cap.trans h.cap, k.part.trans h.part,
   k.out.trans h.out, k.reqs.trans h.reqs, k.held.trans h.held, k.dead.trans h.dead, k.evt.trans h.evt, k.flt.trans h.flt⟩
theorem HomeOnly.setFilt (s : State) (l : Nat) (e : Option FiltEntry) : HomeOnly s (setFilt l e s) := ⟨fun _ _ _ _ => rfl, rfl, rfl, rfl, rfl, rfl, rfl, rfl, rfl, rfl, rfl, rfl⟩
theorem HomeOnly.calm {s t : State} (h : HomeOnly s t) (c : s.Calm) (hm : t.rd MOD_STATE_STATE = s.rd MOD_STATE_STATE) : t.Calm where
  drain := by rw [h.mode]; exact c.drain
  flush := by unfold State.rdB; rw [h.regs _ _ (by decide) (by decide)]; exact c.flush
  plan := by rw [h.mode]; exact c.plan
  audit := by rw [h.cap]; unfold State.serving State.modeCode; rw [hm, h.mode]; exact c.audit

theorem holderAfter_only (l h : Nat) (r : Rsp) (s : State) : HomeOnly s (holderAfter l h r s) ∧ (holderAfter l h r s).home.snoops = s.home.snoops := by
  unfold holderAfter
  split
  · exact ⟨.refl s, rfl⟩
  · split
    · exact ⟨.refl s, rfl⟩
    · split
      · dsimp only; split
        · split <;> exact ⟨HomeOnly.setFilt _ _ _, rfl⟩
        · exact ⟨HomeOnly.setFilt _ _ _, rfl⟩
      · exact ⟨HomeOnly.setFilt _ _ _, rfl⟩
      · exact ⟨.refl s, rfl⟩
theorem unsilence_only (l h : Nat) (s : State) : HomeOnly s (unsilence l h s) ∧ (unsilence l h s).home.snoops = s.home.snoops := by
  unfold unsilence; split
  · exact ⟨HomeOnly.setFilt _ _ _, rfl⟩
  · exact ⟨.refl s, rfl⟩

theorem holdersOf_same (l : Nat) (s : State) (e : FiltEntry) (x : FiltEntry) (h : s.home.filt.find l = some e) (h1 : x.excl = e.excl) (h2 : x.holders = e.holders) :
    (setFilt l (some x) s).holdersOf l = s.holdersOf l := by
  unfold State.holdersOf
  rw [filt_setFilt]
  unfold State.filt
  rw [h]; dsimp only; rw [h2]; split <;> simp [h1]

theorem holdersOf_unsilence (l h : Nat) (s : State) : (unsilence l h s).holdersOf l = s.holdersOf l := (unsilence_fresh l h s).1

/-- the holders a response leaves -/
theorem holderAfter_holders (l h : Nat) (r : Rsp) (s : State) (e : FiltEntry) (hf : s.home.filt.find l = some e) (hh : e.holders.getLsbD h = true)
    (hq : ∀ q ∈ s.home.reqs, q.line ≠ l) :
    (holderAfter l h r s).holdersOf l = (match r with
      | .i => (match s.holdersOf l with
        | some (x, hs) => if hs &&& ~~~(headBit h) = 0 then none else some (x, hs &&& ~~~(headBit h))
        | none => none)
      | .s => (s.holdersOf l).map (fun x => (false, x.2))
      | .e => s.holdersOf l) := by
  have hsf : s.holdersOf l = (if e.holders &&& ~~~s.home.dead = 0 then none else some (e.excl, e.holders &&& ~~~s.home.dead)) := by
    unfold State.holdersOf State.filt; rw [hf]; dsimp only; split <;> rfl
  unfold holderAfter
  rw [hf]
  dsimp only
  rw [hh]
  simp only [Bool.not_true, Bool.false_eq_true, if_false]
  cases r
  · dsimp only
    have hany : s.home.reqs.any (fun q => q.line == l && q.stage != .queued) = false := by
      rw [List.any_eq_false]; intro q hq'; have := hq q hq'; simp [this]
    rw [hsf, hany]
    have comm : (e.holders &&& ~~~headBit h) &&& ~~~s.home.dead = (e.holders &&& ~~~s.home.dead) &&& ~~~headBit h := by
      rw [BitVec.and_assoc, BitVec.and_comm (~~~headBit h), ← BitVec.and_assoc]
    by_cases z : e.holders &&& ~~~headBit h = 0
    · rw [if_pos z]
      simp only [Bool.false_eq_true, if_false]
      have : (setFilt l none s).holdersOf l = none := by unfold State.holdersOf; rw [filt_setNone]; rfl
      rw [this]
      rw [z] at comm
      split
      · rename_i x hs he
        split at he
        · cases he
        · cases he; rw [← comm]; simp
      · rfl
    · rw [if_neg z]
      unfold State.holdersOf
      rw [filt_setFilt]
      dsimp only
      rw [comm]
      by_cases z2 : e.holders &&& ~~~s.home.dead = 0
      · rw [if_pos z2, z2]; simp
      · rw [if_neg z2]; dsimp only
        split <;> simp_all
  · rw [hsf]
    unfold State.holdersOf
    dsimp only
    rw [filt_setFilt]
    dsimp only
    split <;> simp_all
  · rfl

theorem satisfy_holders (n : Snoop) (line : Nat) (r : Rsp) (s : State) (e : FiltEntry) (hw : n.why = .rebuild ∨ n.why = .drain)
    (hf : s.home.filt.find line = some e) (hh : e.holders.getLsbD n.head = true) (hq : ∀ q ∈ s.home.reqs, q.line ≠ line) :
    let left := n.left.filter (· ≠ line)
    let t := satisfy n line r true s
    t.home.snoops = s.home.snoops.filterMap (fun m => if m = n then (if left.isEmpty then none else some { n with left }) else some m) ∧
    t.rd HOM_HEAD_TO_RUN n.head = (if left.isEmpty then 0 else s.rd HOM_HEAD_TO_RUN n.head) ∧ HomeOnly s t ∧
    t.rd MOD_STATE_STATE = s.rd MOD_STATE_STATE ∧
    t.holdersOf line = (holderAfter line n.head r s).holdersOf line := by
  dsimp only
  unfold satisfy
  dsimp only
  generalize hs1 : ({ s with home := { s.home with
    snoops := s.home.snoops.filterMap (fun m => if m = n then (if (n.left.filter (· ≠ line)).isEmpty then none else some { n with left := n.left.filter (· ≠ line) }) else some m) } } : State) = s1
  have o1 : HomeOnly s s1 := by rw [← hs1]; exact ⟨fun _ _ _ _ => rfl, rfl, rfl, rfl, rfl, rfl, rfl, rfl, rfl, rfl, rfl, rfl⟩
  have n1 : s1.home.snoops = s.home.snoops.filterMap (fun m => if m = n then (if (n.left.filter (· ≠ line)).isEmpty then none else some { n with left := n.left.filter (· ≠ line) }) else some m) := by rw [← hs1]
  have r1 : s1.regs = s.regs := by rw [← hs1]
  have f1 : s1.home.filt = s.home.filt := by rw [← hs1]
  have hh1 : (holderAfter line n.head r s1).holdersOf line = (holderAfter line n.head r s).holdersOf line := by
    have a := holderAfter_holders line n.head r s1 e (by rw [f1]; exact hf) hh (by rw [o1.reqs]; exact hq)
    have b := holderAfter_holders line n.head r s e hf hh hq
    rw [a, b]
    have : s1.holdersOf line = s.holdersOf line := holdersOf_congr (filt_congr _ f1 o1.dead)
    rw [this]
  have hA := holderAfter_only line n.head r s1
  have regA : (holderAfter line n.head r s1).regs = s.regs := by
    rw [← r1]
    unfold holderAfter
    split
    · rfl
    · split
      · rfl
      · split
        · dsimp only; split
          · split <;> rfl
          · rfl
        · rfl
        · rfl
  have main : ∀ s2 : State, HomeOnly s s2 → s2.home.snoops = s1.home.snoops → s2.regs = s.regs → s2.holdersOf line = (holderAfter line n.head r s).holdersOf line →
      let t := (if (true && (n.left.filter (· ≠ line)).isEmpty) = true then
          (match (unsilence line n.head s2).home.filt.find line with
            | some e => setFilt line (some { e with pending := (unsilence line n.head s2).snooped line }) (unsilence line n.head s2)
            | none => unsilence line n.head s2).wr HOM_HEAD_TO_RUN 0 n.head
        else (match (unsilence line n.head s2).home.filt.find line with
            | some e => setFilt line (some { e with pending := (unsilence line n.head s2).snooped line }) (unsilence line n.head s2)
            | none => unsilence line n.head s2))
      t.home.snoops = s1.home.snoops ∧ t.rd HOM_HEAD_TO_RUN n.head = (if (n.left.filter (· ≠ line)).isEmpty then 0 else s.rd HOM_HEAD_TO_RUN n.head) ∧ HomeOnly s t ∧
       t.rd MOD_STATE_STATE = s.rd MOD_STATE_STATE ∧ t.holdersOf line = (holderAfter line n.head r s).holdersOf line := by
    intro s2 o2 n2 r2 h2
    dsimp only
    have oU := unsilence_only line n.head s2
    have hU := holdersOf_unsilence line n.head s2
    have rU : (unsilence line n.head s2).regs = s.regs := by
      rw [← r2]; unfold unsilence; split <;> rfl
    generalize unsilence line n.head s2 = s3 at *
    obtain ⟨s4, h4, o4, n4, r4, g4⟩ : ∃ s4, (match s3.home.filt.find line with
            | some e => setFilt line (some { e with pending := s3.snooped line }) s3
            | none => s3) = s4 ∧ HomeOnly s s4 ∧ s4.home.snoops = s1.home.snoops ∧ s4.regs = s.regs ∧ s4.holdersOf line = (holderAfter line n.head r s).holdersOf line := by
      refine ⟨_, rfl, ?_⟩
      split
      · rename_i e' he'
        exact ⟨(o2.trans oU.1).trans (HomeOnly.setFilt _ _ _), oU.2.trans n2, rU, (holdersOf_same line s3 e' { e' with pending := s3.snooped line } he' rfl rfl).trans (hU.trans h2)⟩
      · exact ⟨o2.trans oU.1, oU.2.trans n2, rU, hU.trans h2⟩
    rw [h4]
    have rr : ∀ f i, s4.rd f i = s.rd f i := fun f i => State.rd_congr r4 o4.part f i
    by_cases hl : (n.left.filter (· ≠ line)).isEmpty = true
    · rw [if_pos (by rw [Bool.true_and]; exact hl), if_pos hl]
      refine ⟨n4, ?_, o4.trans ⟨fun f i _ h => State.rd_wr_ne _ _ _ _ _ _ (by intro e; rw [e] at h; exact absurd h (by decide)), rfl, rfl, rfl, rfl, rfl, rfl, rfl, rfl, rfl, rfl, rfl⟩, ?_, g4⟩
      · rw [State.rd_wr_same]; rfl
      · rw [State.rd_wr_ne _ _ _ _ _ _ (by decide)]; exact rr _ _
    · rw [if_neg (by rw [Bool.true_and]; exact hl), if_neg hl]
      exact ⟨n4, rr _ _, o4, rr _ _, g4⟩
  have := main (holderAfter line n.head r s1) (o1.trans hA.1) hA.2 regA hh1
  rw [n1] at this
  rcases hw with hw | hw <;> rw [hw] at this ⊢ <;> exact this

end Sys2Proof.Machine
end

