-- ==== Sys2Proof/Laws/Memory.lean ====
section
/-! SUPPORT. Stored bytes: every operation keeps the canonical form, a read after a write gives the value written, and a write leaves
every other byte alone. -/
namespace Sys2Proof.Machine

/-- Writing a byte keeps the canonical form. -/
theorem Memory.wf_writeByte {m : List Host.Cell} (h : Memory.wf m) (a : Nat) (b : Byte) : Memory.wf (writeByte m a b) := by
  unfold writeByte
  split
  · exact ⟨Map.wf_del h.1 a, fun c hc => h.2 c (Map.mem_del hc)⟩
  · rename_i hb
    refine ⟨Map.wf_put h.1 a b, fun c hc => ?_⟩
    rcases Map.mem_put hc with rfl | hc
    · exact hb
    · exact h.2 c hc

/-- Writing bytes keeps the canonical form. -/
theorem Memory.wf_writeBytes {m : List Host.Cell} (h : Memory.wf m) (a : Nat) (l : List Byte) : Memory.wf (writeBytes m a l) := by
  induction l generalizing m a with
  | nil => exact h
  | cons b l ih => exact ih (Memory.wf_writeByte h a b) (a + 1)

/-- Leaving out bytes keeps the canonical form. -/
theorem Memory.wf_filter {m : List Host.Cell} (h : Memory.wf m) (p : Host.Cell → Bool) : Memory.wf (m.filter p) :=
  ⟨h.1.filter p, fun c hc => h.2 c (List.mem_of_mem_filter hc)⟩

/-- A byte reads as what was written, and every other as before. -/
theorem readByte_writeByte (m : List Host.Cell) (a : Nat) (b : Byte) (c : Nat) :
    readByte (writeByte m a b) c = if c = a then b else readByte m c := by
  unfold readByte writeByte
  split
  · subst_vars; rw [Map.get_del]
  · rw [Map.get_put]

/-- A write of bytes leaves every byte outside it alone. -/
theorem readByte_writeBytes_out (m : List Host.Cell) (a : Nat) (l : List Byte) (c : Nat) (h : c < a ∨ a + l.length ≤ c) :
    readByte (writeBytes m a l) c = readByte m c := by
  induction l generalizing m a with
  | nil => rfl
  | cons b l ih =>
    rw [List.length_cons] at h
    unfold writeBytes
    rw [ih _ _ (by omega), readByte_writeByte, if_neg (by omega)]

/-- The bytes written read back. -/
theorem readByte_writeBytes_in (m : List Host.Cell) (a : Nat) (l : List Byte) (i : Nat) (h : i < l.length) :
    readByte (writeBytes m a l) (a + i) = l[i] := by
  induction l generalizing m a i with
  | nil => exact absurd h (by simp)
  | cons b l ih =>
    unfold writeBytes
    cases i with
    | zero => rw [readByte_writeBytes_out _ _ _ _ (by omega), readByte_writeByte, if_pos (by omega)]; rfl
    | succ i => rw [show a + (i + 1) = a + 1 + i by omega, ih _ _ _ (by simpa using h)]; rfl

end Sys2Proof.Machine
end

