-- ==== Sys2Proof/Laws/Sees.lean ====
section
/-! SUPPORT. States that agree on the regions, on the hash and on the fences see every line at the same place, in the same region and in the
same slice. -/
namespace Sys2Proof.Machine

/-- The registers that say where lines lie and whose they are. -/
def viewFlds : List Nat := [CAP_RGN_A_VALID, CAP_RGN_A_TYPE, CAP_RGN_A_COHER, CAP_RGN_A_CLASS, CAP_RGN_A_TIER, CAP_RGN_A_OPAQUE,
  CAP_RGN_A_ELASTIC, CAP_RGN_A_KEYDOM, CAP_RGN_A_ELEM, CAP_RGN_A_KEEP, CAP_RGN_A_HEADS, CAP_RGN_B_BASE_EXT, CAP_RGN_B_SIZE_EXT,
  HOM_CFG_HASH, HOM_SLMAP_SUB, MIL_KD_STATE, MIL_KD_COU, HPT_LNK_STATE, HPT_LNK_FCAUSE, MOD_STATE_STATE, QOS_HEAD_CEIL, TLR_STAT_ACTIVE, TLR_STAT_CAUSE].map Fld.id

/-- Two states agree on where lines lie. -/
structure Sees (s t : State) : Prop where
  part : t.part = s.part
  regs : ∀ (f : Fld) (i : Nat), viewFlds.contains f.id = true → t.rd f i = s.rd f i
  ext : ∀ e h, t.accepted h e = s.accepted h e

theorem Sees.refl (s : State) : Sees s s := ⟨rfl, fun _ _ _ => rfl, fun _ _ => rfl⟩
theorem Sees.trans {s t u : State} (h : Sees s t) (k : Sees t u) : Sees s u :=
  ⟨k.part.trans h.part, fun f i a => (k.regs f i a).trans (h.regs f i a), fun e i => (k.ext e i).trans (h.ext e i)⟩
theorem Sees.wr (s : State) (f : Fld) (v i : Nat) (h : viewFlds.contains f.id = false) : Sees s (s.wr f v i) :=
  ⟨rfl, fun g j e => State.rd_wr_ne _ _ _ _ _ _ (fun q => by rw [q, h] at e; cases e), fun _ _ => rfl⟩
theorem Sees.region {s t : State} (h : Sees s t) : t.region = s.region := by
  funext n
  unfold State.region State.rdB
  rw [h.regs CAP_RGN_A_VALID n (by decide), h.regs CAP_RGN_A_TYPE n (by decide), h.regs CAP_RGN_A_COHER n (by decide), h.regs CAP_RGN_A_CLASS n (by decide),
    h.regs CAP_RGN_A_TIER n (by decide), h.regs CAP_RGN_A_OPAQUE n (by decide), h.regs CAP_RGN_A_ELASTIC n (by decide),
    h.regs CAP_RGN_A_KEYDOM n (by decide), h.regs CAP_RGN_A_ELEM n (by decide), h.regs CAP_RGN_A_KEEP n (by decide),
    h.regs CAP_RGN_A_HEADS n (by decide), h.regs CAP_RGN_B_BASE_EXT n (by decide), h.regs CAP_RGN_B_SIZE_EXT n (by decide)]
theorem Sees.regions {s t : State} (h : Sees s t) : t.regions = s.regions := by unfold State.regions; rw [h.region]
theorem Sees.regionOf {s t : State} (h : Sees s t) (x : Nat) : t.regionOf x = s.regionOf x := by unfold State.regionOf; rw [h.regions]
theorem Sees.pageRegion {s t : State} (h : Sees s t) (x : Nat) : t.pageRegion x = s.pageRegion x := h.regionOf _
theorem Sees.headRegions {s t : State} (h : Sees s t) (x : Nat) : t.headRegions x = s.headRegions x := by unfold State.headRegions; rw [h.regions]
theorem Sees.sliceOf {s t : State} (h : Sees s t) (x : Nat) : sliceOf t x = sliceOf s x := by
  unfold Sys2Proof.Machine.sliceOf physSlice logicalSlice
  rw [h.regs HOM_CFG_HASH 0 (by decide), h.regs HOM_SLMAP_SUB 0 (by decide)]
theorem Sees.view {s t : State} (h : Sees s t) (x y : Nat) : t.view x y = s.view x y := by
  unfold State.view; rw [h.headRegions]; simp only [h.ext]
theorem Sees.keyed {s t : State} (h : Sees s t) (d : Nat) : t.keyed d = s.keyed d := by
  unfold State.keyed; rw [h.regs MIL_KD_STATE d (by decide)]
theorem Sees.mopView {s t : State} (h : Sees s t) (x y : Nat) : t.mopView x y = s.mopView x y := by
  unfold State.mopView; rw [h.view]; simp only [h.keyed]
theorem Sees.modeCode {s t : State} (h : Sees s t) : t.modeCode = s.modeCode := h.regs _ _ (by decide)
theorem Sees.headFenced {s t : State} (h : Sees s t) (x : Nat) : t.headFenced x = s.headFenced x := by
  unfold State.headFenced; rw [h.regs _ _ (by decide)]
theorem Sees.fcFind {s t : State} (h : Sees s t) (l : t.fc.lines = s.fc.lines) (x : Nat) : t.fcFind x = s.fcFind x := by
  unfold State.fcFind lineSlots; rw [l, h.sliceOf]
theorem Sees.fcLine {s t : State} (h : Sees s t) (l : t.fc.lines = s.fc.lines) (x : Nat) : t.fcLine x = s.fcLine x := by
  unfold State.fcLine; rw [h.fcFind l, l]
theorem Sees.stopped {s t : State} (h : Sees s t) (m : t.mode = s.mode) : t.stopped = s.stopped := by
  unfold State.stopped; rw [h.modeCode, m]
theorem Sees.serving {s t : State} (h : Sees s t) (m : t.mode = s.mode) : t.serving = s.serving := by
  unfold State.serving; rw [h.modeCode, m]
theorem Sees.calm {s t : State} (h : Sees s t) (m : t.mode = s.mode) (a : t.cap.auditWalk = s.cap.auditWalk) (c : s.Calm) : t.Calm where
  drain := by rw [m]; exact c.drain
  flush := by unfold State.rdB; rw [h.regs _ _ (by decide)]; exact c.flush
  plan := by rw [m]; exact c.plan
  audit := by rw [a, h.serving m]; exact c.audit

end Sys2Proof.Machine
end

