-- ==== Sys2Proof/WellFormed.lean ====
section
/-! DEFINITION. Which commands are well formed: every operand that names a place or a unit names one that an address or a
number of that width can name (R5, R41, R56, R77, R217, R282). -/
namespace Sys2Proof

/-- A number within the media stacks and Flume links (R5). -/
def stackOk (n : Nat) : Bool := decide (n < 16)
/-- A number within the DRAM channels (R5). -/
def channelOk (n : Nat) : Bool := decide (n < 16)
/-- A number within the lines, DPA[47:6] (R41). -/
def lineOk (n : Nat) : Bool := decide (n < 4398046511104)
/-- A number within the lines of a head address (R46). -/
def headLineOk (n : Nat) : Bool := decide (n < 4398046511104)
/-- A number within the pages, DPA[47:12] (R41). -/
def pageOk (n : Nat) : Bool := decide (n < 68719476736)
/-- A number within the sheets, DPA[47:8] (R41). -/
def sheetOk (n : Nat) : Bool := decide (n < 1099511627776)
/-- A number within the key domains (R145). -/
def domainOk (n : Nat) : Bool := decide (n < 4096)
/-- A number within the parcels (R56). -/
def parcelOk (n : Nat) : Bool := decide (n < 549755813888)
/-- A number within the Courier rings (R282). -/
def ringOk (n : Nat) : Bool := decide (n < 262144)
/-- A number within the extents, DPA[47:28] (R42). -/
def extentOk (n : Nat) : Bool := decide (n < 1048576)
/-- A number within the segments of a stack (R217). -/
def segmentOk (n : Nat) : Bool := decide (n < 2097152)
/-- A number within the banks of the DRAM tier (R196). -/
def bankOk (n : Nat) : Bool := decide (n < 2048)
/-- A number within the subchannels (R194). -/
def unitOk (n : Nat) : Bool := decide (n < 32)
/-- A number within the ranks of the tier (R194). -/
def rankOk (n : Nat) : Bool := decide (n < 64)
/-- A number within the segment streams (R226). -/
def streamOk (n : Nat) : Bool := decide (n < 3)
/-- A number within the lines of a head address (R287). -/
def contextOk (n : Nat) : Bool := decide (n < 4398046511104)

/-- The checks of a command. -/
def Instr.wellFormed : Instr → Bool
  | .registerWrite _ => true
  | .misalignedAccess _ _ => true
  | .memRd _ haddr _ _ => headLineOk haddr
  | .memRdData _ haddr _ => headLineOk haddr
  | .memInv _ haddr _ _ => headLineOk haddr
  | .memInvNt _ haddr _ _ => headLineOk haddr
  | .memClnEvct _ haddr _ => headLineOk haddr
  | .memWr _ haddr _ _ _ _ => headLineOk haddr
  | .memWrPtl _ haddr _ _ _ _ _ => headLineOk haddr
  | .memSpecRd _ haddr => headLineOk haddr
  | .biconflict _ haddr => headLineOk haddr
  | .birspI _ haddr _ => headLineOk haddr
  | .birspS _ haddr _ => headLineOk haddr
  | .birspE _ haddr _ => headLineOk haddr
  | .unsupportedM2sMessage _ haddr _ => headLineOk haddr
  | .queuedRequestResume line => lineOk line
  | .filterAllocRetry line => lineOk line
  | .holdTimeEnd line => lineOk line
  | .bisnpTimeout _ line => lineOk line
  | .sliceRebuildDone => true
  | .fcAllocWaitEnd line => lineOk line
  | .persistDirtyWaitEnd line => lineOk line
  | .fcaFlush _ _ _ => true
  | .fcaInvalidate _ _ _ => true
  | .fcaLockPreload _ _ _ => true
  | .fcaPin _ _ _ => true
  | .fcaUnlock _ _ _ => true
  | .fcaMopEnd _ => true
  | .frontCacheOperation _ _ _ haddr _ => headLineOk haddr
  | .sheetFillComplete sheet _ => sheetOk sheet
  | .entryLineFetchComplete line _ => lineOk line
  | .haltRecordRetry => true
  | .pageLockGrant page _ _ _ => pageOk page
  | .writeBackCommit page => pageOk page
  | .provisionKeyDomain _ dom _ => domainOk dom
  | .eraseKeyDomain _ dom => domainOk dom
  | .eraseDomainDrained dom => domainOk dom
  | .setMasterRights _ dom _ _ => domainOk dom
  | .auditSnapshot _ => true
  | .auditWalk _ => true
  | .auditWalkComplete => true
  | .releaseRequestPeriod => true
  | .heatEpoch => true
  | .demotionSweep => true
  | .migrationStart page _ _ => pageOk page
  | .migrationCommit page => pageOk page
  | .initiateDcAdd _ _ _ _ => true
  | .addDcResponse _ _ => true
  | .releaseDcResponse _ _ => true
  | .extentReleaseSnooped _ ext => extentOk ext
  | .extentReleaseCleared ext => extentOk ext
  | .initiateDcRelease _ _ _ => true
  | .getDcRegionConfig _ _ => true
  | .getDcRegionExtentLists _ _ => true
  | .journalCheckpoint => true
  | .dramRead _ _ _ _ => true
  | .dramWrite _ _ _ _ _ => true
  | .dramAccessIssue unit _ => unitOk unit
  | .dramAccessComplete _ _ => true
  | .dramRefreshDue bank => bankOk bank
  | .tallyWindowClear rank => rankOk rank
  | .retrainingPauseStart unit => unitOk unit
  | .retrainingPauseEnd unit _ => unitOk unit
  | .dramPhyLockLoss c => channelOk c
  | .stripePadTimeout k stream => stackOk k && streamOk stream
  | .segmentAgeClose k stream => stackOk k && streamOk stream
  | .stagingWaitEnd page => pageOk page
  | .stripeProgrammeComplete k g _ _ => stackOk k && segmentOk g
  | .reclaimVictimChoice k => stackOk k
  | .reclaimScanDone k g => stackOk k && segmentOk g
  | .reclaimSegmentRelease k g => stackOk k && segmentOk g
  | .mediaClockHour => true
  | .mediaSectorRead parcel => parcelOk parcel
  | .sectorDataArrival parcel _ => parcelOk parcel
  | .hubReadTimeout parcel => parcelOk parcel
  | .hubDieFaultReport k _ => stackOk k
  | .flumeBringupStepDone k _ _ _ => stackOk k
  | .flumeBringupTimeout k => stackOk k
  | .flumeDetectRetry k => stackOk k
  | .flumeFrameReceived k _ _ _ _ _ _ _ _ _ _ _ => stackOk k
  | .flumeReplayTimeout k _ => stackOk k
  | .alignmentMarker k _ _ => stackOk k
  | .laneLockLoss k _ _ => stackOk k
  | .flumeRetrainTimeout k => stackOk k
  | .flumeTestEnter k _ _ _ => stackOk k
  | .flumeTestExit k _ => stackOk k
  | .flumeCounterClear k => stackOk k
  | .flumeErrorInject k _ _ _ => stackOk k
  | .ringOpen _ ctx => contextOk ctx
  | .ringClose _ => true
  | .doorbellTailWrite _ ring _ => ringOk ring
  | .descriptorFetch ring => ringOk ring
  | .nop ring => ringOk ring
  | .copy ring => ringOk ring
  | .fill ring => ringOk ring
  | .zero ring => ringOk ring
  | .compare ring => ringOk ring
  | .crc32c ring => ringOk ring
  | .xcopy ring => ringOk ring
  | .hintPin ring => ringOk ring
  | .hintUnpin ring => ringOk ring
  | .hintPromote ring => ringOk ring
  | .hintDemote ring => ringOk ring
  | .release ring => ringOk ring
  | .scrub ring _ _ _ _ _ => ringOk ring
  | .descriptorComplete ring => ringOk ring
  | .descriptorTimeout ring => ringOk ring
  | .courierStateError _ => true
  | .tokenRefill => true
  | .overdraftAge _ _ => true
  | .setClassBudget _ _ _ _ => true
  | .linkUp _ _ _ _ _ => true
  | .perstAssert _ => true
  | .perstDeassert _ => true
  | .hotReset _ => true
  | .dlActiveLost _ => true
  | .ideKmKeyProgram _ stream _ _ => streamOk stream
  | .ideCheckFailure _ _ _ => true
  | .viralReceived _ => true
  | .uncorrectableLinkError _ => true
  | .hostTestEnter _ _ _ _ => true
  | .hostTestExit _ _ => true
  | .hostCounterClear _ => true
  | .hostErrorInject _ _ _ _ => true
  | .feedLossTrigger => true
  | .seatLossTrigger _ => true
  | .gpfPhase1 _ => true
  | .gpfPhase2 _ => true
  | .bankVabort _ => true
  | .tailraceArmed _ _ => true
  | .tailraceUnarmed _ => true
  | .feedContactMate _ _ => true
  | .seatAssert => true
  | .seatDeassert _ => true
  | .singleSeatTimeout _ => true
  | .feedWindowEnter _ _ => true
  | .feedWindowExit _ _ _ => true
  | .insertionDelayExpiry _ => true
  | .rampComplete _ => true
  | .rampCheckTimeout _ _ _ => true
  | .powerGood _ => true
  | .currentLimitEnter _ => true
  | .faultTimerExpiry _ _ => true
  | .fastTrip _ _ => true
  | .reverseCurrent => true
  | .retryBackoffExpiry => true
  | .triesResetTimer => true
  | .changeoverDeadTimeEnd => true
  | .feedAReturnTimer => true
  | .stuckOnDetect _ => true
  | .standbyPowerLoss => true
  | .bankChargeTimeout _ => true
  | .headraceRearm => true
  | .configureComplete => true
  | .enterStop _ => true
  | .enterMaintenance _ => true
  | .leaveMaintenance _ => true
  | .recover _ _ => true
  | .coldRestart _ _ => true
  | .linkL2Enter _ => true
  | .l2WaitTimeout => true
  | .headWake _ _ => true
  | .mgmtAddressMatch => true
  | .wakeTimer => true
  | .feedEventWake _ => true
  | .thermalWake _ => true
  | .wakeStepDone _ _ => true
  | .wakeStepTimeout c _ => channelOk c
  | .wakeRetry => true
  | .requestFactoryTest _ _ => true
  | .endFactoryTest _ _ => true
  | .initialiseMedia _ => true
  | .callWriteField _ _ _ _ _ _ => true
  | .callModeRequest _ _ _ _ => true
  | .callStageImage _ _ _ => true
  | .callApplyImage _ _ _ => true
  | .callSecuredMessage _ _ => true
  | .callClerkRestart _ => true
  | .writeProtectedField _ _ _ _ _ => true
  | .clerkWatchdogRefresh _ => true
  | .clerkWatchdogExpiry _ => true
  | .clerkException _ => true
  | .clerkFirmwareLoaded _ => true
  | .lockstepMismatch => true
  | .transferImage _ _ _ _ => true
  | .applyImage _ _ => true
  | .rollBackImage _ => true
  | .pldmRequestUpdate _ => true
  | .pldmFwData _ _ => true
  | .pldmActivateFirmware _ => true
  | .faultAcknowledge _ _ _ _ => true
  | .liftHeadFence _ _ => true
  | .bucketDrain _ => true
  | .exportDeadLetters _ _ _ => true
  | .exportComplete => true
  | .getPoisonList _ _ => true
  | .injectPoison _ haddr => headLineOk haddr
  | .clearPoison _ haddr _ => headLineOk haddr
  | .getEventRecords _ _ => true
  | .clearEventRecords _ _ _ _ => true
  | .getEventInterruptPolicy _ => true
  | .setEventInterruptPolicy _ _ => true
  | .logbookPageWrite _ _ _ _ => true
  | .logbookPageWriteDone _ => true
  | .logbookWriteRetry => true
  | .logwpChange _ => true
  | .readLogbook _ _ _ _ => true
  | .counterSelectWrite _ _ _ _ _ _ _ _ => true
  | .counterFreeze _ _ => true
  | .counterSnapshot _ => true
  | .counterClear _ => true
  | .counterRingEnable _ _ => true
  | .counterDumpPeriod => true
  | .dumpRecordWritten => true
  | .getCounterCatalogue _ => true
  | .smbusSetAddress _ _ _ => true
  | .smbusBlockRead _ _ => true
  | .setEndpointId _ => true
  | .spdmKeyExchange _ _ => true
  | .spdmGetMeasurements _ _ => true
  | .spdmEndSession _ _ => true
  | .pldmGetSensorReading _ => true
  | .pldmSetEventReceiver _ => true
  | .sensorThresholdCrossing _ _ => true
  | .identifyMemoryDevice _ => true
  | .getHealthInfo _ => true
  | .getSupportedLogs _ => true
  | .getLog _ _ _ _ => true
  | .getTimestamp _ => true
  | .setTimestamp _ _ => true
  | .getFwInfo _ => true
  | .getDcConfiguration _ => true
  | .getDcExtentList _ => true
  | .getAlertConfiguration _ => true
  | .setAlertConfiguration _ _ => true
  | .unsupportedCommand _ => true
  | .activityTimer => true
  | .locateToggle => true
  | .tierEngineStateError => true
  | .currentLimitExit _ => true
  | .faultTimerClear => true
  | .downstreamConverterFault => true
  | .controllerRailOutOfRegulation => true
  | .pldmLocateRequest _ => true
  | .cxlIoIdeFailure _ stream => streamOk stream
  | .jtagInstruction _ => true

end Sys2Proof
end

