-- ==== Sys2Proof/Tests/Slice0.lean ====
section
/-! SUPPORT. Tests: an ill-formed command for each check, and a state that meets the hypotheses of each statement. -/
namespace Sys2Proof.Tests
open Sys2Proof Sys2Proof.Machine
-- One proof at a time: the evaluations below wait for each other, each on a thread of its own.
set_option Elab.async false

/-! Each check refuses an operand one past its range, and takes the last one in it. -/

theorem test_line : Instr.wellFormed (.holdTimeEnd (2 ^ 42)) = false ∧ Instr.wellFormed (.holdTimeEnd (2 ^ 42 - 1)) = true := by decide
theorem test_headLine : Instr.wellFormed (.memSpecRd 0 (2 ^ 42)) = false ∧ Instr.wellFormed (.memSpecRd 0 (2 ^ 42 - 1)) = true := by decide
theorem test_page : Instr.wellFormed (.writeBackCommit (2 ^ 36)) = false ∧ Instr.wellFormed (.writeBackCommit (2 ^ 36 - 1)) = true := by decide
theorem test_sheet : Instr.wellFormed (.sheetFillComplete (2 ^ 40) ⟨0, false, 0, false, none⟩) = false ∧
    Instr.wellFormed (.sheetFillComplete (2 ^ 40 - 1) ⟨0, false, 0, false, none⟩) = true := by decide
theorem test_domain : Instr.wellFormed (.eraseDomainDrained 4096) = false ∧ Instr.wellFormed (.eraseDomainDrained 4095) = true := by decide
theorem test_extent : Instr.wellFormed (.extentReleaseCleared (2 ^ 20)) = false ∧ Instr.wellFormed (.extentReleaseCleared (2 ^ 20 - 1)) = true := by
  decide
theorem test_stack : Instr.wellFormed (.reclaimVictimChoice 16) = false ∧ Instr.wellFormed (.reclaimVictimChoice 15) = true := by decide
theorem test_channel : Instr.wellFormed (.dramPhyLockLoss 16) = false ∧ Instr.wellFormed (.dramPhyLockLoss 15) = true := by decide
theorem test_bank : Instr.wellFormed (.dramRefreshDue 2048) = false ∧ Instr.wellFormed (.dramRefreshDue 2047) = true := by decide
theorem test_unit : Instr.wellFormed (.retrainingPauseStart 32) = false ∧ Instr.wellFormed (.retrainingPauseStart 31) = true := by decide
theorem test_rank : Instr.wellFormed (.tallyWindowClear 64) = false ∧ Instr.wellFormed (.tallyWindowClear 63) = true := by decide
theorem test_segment : Instr.wellFormed (.reclaimScanDone 0 (2 ^ 21)) = false ∧ Instr.wellFormed (.reclaimScanDone 0 (2 ^ 21 - 1)) = true := by decide
theorem test_stream : Instr.wellFormed (.stripePadTimeout 0 3) = false ∧ Instr.wellFormed (.stripePadTimeout 0 2) = true := by decide
theorem test_parcel : Instr.wellFormed (.mediaSectorRead (2 ^ 39)) = false ∧ Instr.wellFormed (.mediaSectorRead (2 ^ 39 - 1)) = true := by decide
theorem test_ring : Instr.wellFormed (.descriptorFetch (2 ^ 18)) = false ∧ Instr.wellFormed (.descriptorFetch (2 ^ 18 - 1)) = true := by decide
theorem test_context : Instr.wellFormed (.ringOpen 0 (2 ^ 42)) = false ∧ Instr.wellFormed (.ringOpen 0 (2 ^ 42 - 1)) = true := by decide

/-! States on which the statements' hypotheses hold. `live`: in Service, one back-invalidated region of one extent for heads 0 and 1 in
key domain 0, both links up, the Clerks running. -/

def live : State :=
  let s := State.reset
  let s := (((((s.wr MOD_STATE_STATE 3).wr CAP_RGN_A_VALID 1).wr CAP_RGN_A_COHER 1).wr CAP_RGN_A_HEADS 3).wr CAP_RGN_B_SIZE_EXT 1).wr CAP_RGN_A_CLASS 2
  let s := (((s.wr MIL_KD_STATE 1).wr HPT_LNK_STATE 4 0).wr HPT_LNK_STATE 4 1).wr HPT_QMAP_Q0 2
  let s := ((s.wr QOS_BUD_B_TRK 16 2).wr FCA_CFG_LOCKW 4).wr FCA_LOCKQ_QUOTA 8 0
  { s with mode := { s.mode with memActive := true }, pwr := { s.pwr with phase := .on, converters := true },
           post := { s.post with coresUp := [0, 1, 2, 3] }, pins := { s.pins with logwpN := true } }
def rg : Region := ⟨0, 0, true, 2, 0, false, false, 0, 0, 0, 3, 0, 1⟩
def fcl : FcLine := ⟨5, false, false, false, 0, false, 0, .standard, fullMask, 7, 0⟩
/-- Line 5 in the front cache. -/
def cached : State := { live with fc := { live.fc with lines := [(80, fcl)] } }
def filtEntry (holders : Heads) : FiltEntry := ⟨0, true, holders, 0, false, false, false, 0, 0⟩
/-- Line 5 held by head 1 alone. -/
def holding : State := { cached with home := { cached.home with filt := [(5, filtEntry 2)] } }
def waiting (stage : Stage) (k : ReqKind) : Req := ⟨9, 0, k, 5, 5, .any, 3, fullMask, false, .standard, false, stage, false⟩
def snoopOf5 (w : SnpFor) : Snoop := ⟨1, 5, false, [5], .inv, w, 0⟩
/-- Head 1 snooped for line 5. -/
def snooping (w : SnpFor) (l : List Req) : State := { holding with home := { holding.home with snoops := [snoopOf5 w], reqs := l } }

theorem calm_of (s : State) (h : s.mode.stopStep = 0 ∧ s.rdB TLR_STAT_ACTIVE = false ∧ s.mode.planWait = none ∧
    (s.cap.auditWalk = none ∨ s.serving = true)) : s.Calm := ⟨h.1, h.2.1, h.2.2.1, h.2.2.2⟩
theorem live_calm : live.Calm := calm_of _ (by decide +kernel)
theorem cached_served (k : ReqKind) : Served cached 0 k 5 rg 5 :=
  ⟨calm_of _ (by decide +kernel), by cases k <;> decide +kernel, by decide +kernel, by decide +kernel, rfl, rfl, by decide +kernel, by decide +kernel,
    by decide +kernel, by decide +kernel, by decide +kernel, by decide +kernel⟩
theorem cached_sole : SoleHolder cached 0 5 := ⟨by decide +kernel, by decide +kernel⟩
/-! Each statement's hypotheses hold together somewhere. -/

theorem witness_StepRunsFrontCommand : ({ live with pending := [.activityTimer, .heatEpoch] } : State).pending = .activityTimer :: [.heatEpoch] := rfl
theorem witness_IdleStepTicks : live.pending = [] ∧ live.Calm ∧ live.cou.opens = [] ∧ live.cnt.live = [] := ⟨rfl, live_calm, rfl, rfl⟩
theorem witness_EveryStepSettles : step live = .next (idle live) := rfl
theorem witness_StoreReadsBack : Memory.wf [(3, (7 : Byte))] ∧ 0 < [(1 : Byte), 2].length ∧ (2 < 3 ∨ 3 + [(1 : Byte), 2].length ≤ 2) := by decide
theorem witness_RegisterFieldsAreIndependent : MOD_STATE_PREV.id ≠ MOD_STATE_STATE.id := by decide
theorem witness_RaiseDeliversEvent : sourceReserved 26 = false ∧ sourceReserved 1023 = true ∧ live.Calm := ⟨by decide, by decide, live_calm⟩
theorem witness_ReadHitReturnsLine : cached.fcLine 5 = some fcl ∧ fcl.poison = false ∧ fcl.mask = fullMask ∧ SoleHolder cached 0 5 ∧
    Served cached 0 .rd 5 rg 5 ∧ Served cached 0 .rdData 5 rg 5 :=
  ⟨by decide +kernel, rfl, rfl, cached_sole, cached_served _, cached_served _⟩
theorem witness_InvCompletesWithGrant : Served cached 0 .inv 5 rg 5 ∧ rg.db = true ∧ SoleHolder cached 0 5 ∧ cached.filt 5 = none :=
  ⟨cached_served _, rfl, cached_sole, by decide +kernel⟩
theorem witness_ClnEvctRemovesHolder : Served cached 0 .clnEvct 5 rg 5 ∧ rg.db = true ∧ cached.filt 5 = none :=
  ⟨cached_served _, rfl, by decide +kernel⟩
theorem witness_WritePlacesBytes : SoleHolder cached 0 5 ∧ cached.pdHeld rg 5 = false ∧
    cached.pdirty (sliceOf cached 5) + 257 < cached.rd FCA_CFG_PDMAX ∧ cached.fc.lines.find 80 = some fcl ∧ cached.fcFind 5 = some 80 ∧
    Served cached 0 .wr 5 rg 5 ∧ Served cached 0 .wrPtl 5 rg 5 :=
  ⟨cached_sole, by decide +kernel, by decide +kernel, by decide +kernel, by decide +kernel, cached_served _, cached_served _⟩
theorem witness_WritePlacesBytes_absent : live.fc.lines.find 80 = none ∧ live.fcFind 5 = none ∧ live.wbLine 5 = none ∧
    live.mem.backPoison.contains 5 = false ∧ (lineSlots live 5).find? (fun k => (live.fc.lines.find k).isNone && !(live.busyWay k)) = some 80 := by
  decide +kernel
theorem witness_OutsideViewAnsweredPlain : live.Calm ∧ live.home.held = [] ∧ live.gate 0 .rd (2 ^ 22) = .outside :=
  ⟨live_calm, rfl, by decide +kernel⟩
theorem witness_ReadForOwnershipSnoops : Served holding 0 .rd 5 rg 5 ∧ rg.db = true ∧ (0 : Nat) ≠ 1 ∧ holding.home.dead = 0 ∧
    holding.home.filt.find 5 = some (filtEntry 2) ∧ (filtEntry 2).holders = headBit 1 ∧ (filtEntry 2).held = false ∧ holding.sheetAlike 5 = false :=
  ⟨⟨calm_of _ (by decide +kernel), by decide +kernel, by decide +kernel, by decide +kernel, rfl, rfl, by decide +kernel, by decide +kernel,
    by decide +kernel, by decide +kernel, by decide +kernel, by decide +kernel⟩, rfl, by decide, rfl, by decide +kernel, by decide, rfl, by decide +kernel⟩
theorem witness_SnoopResponsesAndConflicts : (snooping .drain []).Calm ∧ (snooping .drain []).takesRsp 1 = true ∧ live.takesRsp 2 = false ∧
    layoutFind ((snooping .drain []).headRegions 1) 5 = some (rg, 5) ∧ (snooping .drain []).snoopOf 1 5 = some (snoopOf5 .drain) ∧
    (snooping .drain []).home.filt.find 5 = some (filtEntry 2) ∧ (filtEntry 2).holders.getLsbD 1 = true :=
  ⟨calm_of _ (by decide +kernel), by decide +kernel, by decide +kernel, by decide +kernel, by decide +kernel, by decide +kernel, by decide +kernel⟩
theorem witness_ResponseCompletesRead :
    let q := waiting .snoop .rd
    let s := snooping (.request q.id) [q]
    s.Calm ∧ s.takesRsp 1 = true ∧ layoutFind (s.headRegions 1) 5 = some (rg, 5) ∧ s.regionOf (lineExt 5) = some rg ∧
    s.home.dead = 0 ∧ s.home.filt.find 5 = some (filtEntry 2) ∧ (filtEntry 2).holders = headBit 1 ∧ q.head < 16 ∧ s.fcLine 5 = some fcl :=
  ⟨calm_of _ (by decide +kernel), by decide +kernel, by decide +kernel, by decide +kernel, rfl, by decide +kernel, by decide +kernel, by decide, by decide +kernel⟩
theorem witness_WaitingReadIsTakenUp :
    let s := fun st : Stage => ({ cached with home := { cached.home with reqs := [waiting st .rd] } } : State)
    ∀ st, (st = .queued ∨ st = .way ∨ st = .alloc) → (s st).Calm ∧ (s st).regionOf (lineExt 5) = some rg ∧ (s st).snooped 5 = false ∧
      (s st).evicting 5 = false ∧ SoleHolder (s st) 0 5 ∧ (s st).fcLine 5 = some fcl := by
  rintro s st (rfl | rfl | rfl) <;>
    exact ⟨calm_of _ (by decide +kernel), by decide +kernel, by decide +kernel, by decide +kernel, ⟨by decide +kernel, by decide +kernel⟩, by decide +kernel⟩
theorem witness_HeldPersistentWriteProceeds :
    let s : State := { cached with home := { cached.home with reqs := [waiting .pdirty .wr] } }
    s.Calm ∧ s.regionOf (lineExt 5) = some rg ∧ s.snooped 5 = false ∧ s.fcFind 5 = some 80 ∧ s.fc.lines.find 80 = some fcl ∧
    s.pdHeld rg 5 = false ∧ s.pdirty (sliceOf s 5) + 257 < s.rd FCA_CFG_PDMAX :=
  ⟨calm_of _ (by decide +kernel), by decide +kernel⟩
theorem witness_HoldTimeEndsGrant :
    let s : State := { holding with home := { holding.home with reqs := [waiting .hold .rd] } }
    s.Calm ∧ s.home.filt.find 5 = some (filtEntry 2) ∧ s.rdB HOM_SLMAP_REBUILD = false ∧ (∀ q ∈ holding.home.reqs, q.line = 5 → q.stage ≠ .hold) ∧
    (filtEntry 2).holders = headBit 1 ∧ s.isDB 5 = true ∧ s.snooped 5 = false ∧ s.evicting 5 = false ∧
    (∀ l ∈ sheetLines (lineSheet 5), l ≠ 5 → s.filt l = none) :=
  ⟨calm_of _ (by decide +kernel), by decide +kernel⟩
theorem witness_SnoopTimeoutPoisons :
    let q := waiting .snoop .rd
    let s := snooping (.request q.id) [q]
    s.Calm ∧ s.home.evt = [] ∧ s.home.filt.find 5 = some (filtEntry 2) ∧ (filtEntry 2).holders = headBit 1 ∧ s.fcFind 5 = some 80 ∧
    s.fc.lines.find 80 = some fcl ∧ s.flt.dead = [] ∧ s.rd HOM_HEAD_TO_RUN 1 + 1 < s.rd HOM_CFG_DEAD_N ∧ s.rd HOM_HEAD_TO_RUN 1 < 8 :=
  ⟨calm_of _ (by decide +kernel), by decide +kernel⟩
theorem witness_SliceRebuildEnds :
    let s := (live.wr HOM_SLMAP_REBUILD 1).wr HOM_SLMAP_SUB 15
    s.Calm ∧ s.rdB HOM_SLMAP_REBUILD = true ∧ s.home.held = [] ∧ (∀ x ∈ s.home.filt, x.2.slice ≠ 16) ∧ (∀ x ∈ s.home.evt, x.slice ≠ 16) ∧
    (∀ w ∈ s.fc.wbuf, w.slice ≠ s.home.rebuilding.getD 16) ∧ s.rd HOM_SLMAP_SUB < 16 :=
  ⟨calm_of _ (by decide +kernel), by decide +kernel⟩
theorem witness_MaintenanceOfOneLine :
    let s := cached.wr FCA_MOP_ADDR_LINE 5 0
    s.Calm ∧ s.stopped = false ∧ s.upsets = [] ∧ s.routeUp (.head 0) = true ∧ s.rdB FCA_MOP_STAT_BUSY 0 = false ∧ s.headFenced 0 = false ∧
    s.mopView 0 (s.rd FCA_MOP_ADDR_LINE 0) = some (rg, 5) ∧ s.fcFind 5 = some 80 ∧ s.fc.lines.find 80 = some fcl ∧ fcl.dirty = false ∧
    fcl.locked = false ∧ rg.typ ≠ 1 ∧ s.setLocks 80 < s.rd FCA_CFG_LOCKW ∧ s.rd FCA_LOCKQ_USED 0 + 1 ≤ s.rd FCA_LOCKQ_QUOTA 0 :=
  ⟨calm_of _ (by decide +kernel), by decide +kernel⟩
theorem witness_MaintenanceOfOneLine_dirty :
    let l := { fcl with dirty := true, locked := true }
    let s := ({ cached with fc := { cached.fc with lines := [(80, l)] } } : State).wr FCA_MOP_ADDR_LINE 5 0
    s.fcFind 5 = some 80 ∧ s.fc.lines.find 80 = some l ∧ l.line = 5 ∧ (∀ x ∈ sheetLines (lineSheet 5), x ≠ 5 → s.fcLine x = none) ∧
    s.wbUsed (sliceOf s 5) < 64 ∧ l.locked = true := by decide +kernel
theorem attends_mgmt : Attends live .mgmt := ⟨⟨by decide +kernel, fun _ h => by cases h⟩, rfl, by decide +kernel⟩
theorem attends_head : Attends live (.head 0) := ⟨⟨by decide +kernel, fun _ h => by cases h; decide +kernel⟩, rfl, by decide +kernel⟩
theorem witness_MaintenanceEnds :
    let m : Mop := ⟨0, 1, 6, 0, [], 1, 0, 0, none⟩
    let s : State := { live with fc := { live.fc with mops := [m] } }
    s.Calm ∧ s.fc.mops.find? (fun m => m.head == 0) = some m ∧ (∀ w ∈ s.fc.wbuf, w.mop ≠ some 0) ∧
    Attends live .mgmt ∧ live.bgBusy .mgmt = false ∧ live.rdB FCA_MOP_STAT_BUSY 0 = false ∧ live.headFenced 0 = false ∧ live.stopped = false ∧
    live.mopView 0 (2 ^ 22) = none :=
  ⟨calm_of _ (by decide +kernel), by decide +kernel, by decide +kernel, attends_mgmt, by decide +kernel⟩
theorem readBytes_stamp (a t : Nat) (h : t < 2 ^ 32) : leNat (readBytes (writeBytes [] a (leBytes 4 t)) a 4) = t := by
  have e : readBytes (writeBytes [] a (leBytes 4 t)) a 4 = leBytes 4 t := by
    refine List.ext_getElem (by simp [readBytes, leBytes]) (fun i _ hi => ?_)
    simp only [readBytes, List.getElem_map, List.getElem_range, readByte_writeBytes_in [] a (leBytes 4 t) i hi]
  rw [e]; simp [leBytes, leNat]; omega
theorem readBytes_beside (a b n t : Nat) (h : a + 4 ≤ b) : readBytes (writeBytes [] a (leBytes 4 t)) b n = zeros n := by
  simp only [readBytes, zeros]
  rw [List.eq_replicate_iff]
  refine ⟨by simp, fun x hx => ?_⟩
  simp only [List.mem_map, List.mem_range] at hx
  obtain ⟨i, _, rfl⟩ := hx
  rw [readByte_writeBytes_out _ _ _ _ (Or.inr (by simp [leBytes]; omega))]
  rfl
def key0 : KeySlot := ⟨0, 0, 0, 0⟩
def entry0 (parcel : Nat) (tier : Bool) (n : Nat) : PageEntry := ⟨parcel, 1, BitVec.ofNat 64 (8 * 16 ^ n), 0, true, tier, false, false, false⟩
/-- The right tag of sheet n of page 0, of zeros. -/
@[irreducible] def tag0 (n : Nat) : Nat := sheetTag key0 0 n 0 8 0 (zeros 256)
/-- Page 0 written, its sheet n raw in the parcel, its tag right; the entry line cached. -/
def stored (parcel : Nat) (tier : Bool) (n : Nat) : State :=
  { live with
    keys := { live.keys with slots := [(0, key0)] }
    mem := { live.mem with pages := [(0, entry0 parcel tier n)], cached := [0]
                           store := writeBytes [] (parcel * 512 + 4 * n) (leBytes 4 (tag0 n)) } }
theorem stored_tag (s : State) (parcel : Nat) (tier : Bool) (n : Nat) (h : s.mem.store = (stored parcel tier n).mem.store) :
    s.tagSlot (entry0 parcel tier n) n = sheetTag key0 0 n 0 8 0 (zeros 256) := by
  have e : tag0 n = sheetTag key0 0 n 0 8 0 (zeros 256) := by unfold tag0; rfl
  rw [← e]
  unfold State.tagSlot
  rw [h]
  exact readBytes_stamp _ _ (by rw [e]; exact Nat.mod_lt _ (by decide))
theorem stored_bytes (s : State) (parcel : Nat) (tier : Bool) (n : Nat) (hs : s.mem.store = (stored parcel tier n).mem.store) (h : n < 2) :
    s.sheetBytes false (entry0 parcel tier n) n = zeros 256 := by
  have e : sheetLen false ((entry0 parcel tier n).code n) = 256 := by
    have : ∀ n < 2, sheetLen false (bits (BitVec.ofNat 64 (8 * 16 ^ n)).toNat (4 * n) 4) = 256 := by decide +kernel
    exact this n h
  unfold State.sheetBytes
  rw [e, hs]
  exact readBytes_beside _ _ _ _ (by simp [sheetOffset, entry0]; omega)

theorem witness_SpecRdAndUnsupportedMessages :
    let s : State := { live with mem := { live.mem with pages := [(0, PageEntry.none)] } }
    s.Calm ∧ s.gate 0 .rd 5 = .serve rg 5 ∧ s.entryKnown (linePage 5) = false ∧
    entryLine (linePage 5) ∉ s.mem.entryWait ∧ live.entryKnown (linePage 5) = true ∧ s.gate 0 .wr 5 ≠ .none ∧ s.gate 0 .wr 5 ≠ .plain :=
  ⟨calm_of _ (by decide +kernel), by decide +kernel, by decide +kernel, by decide +kernel, by decide +kernel, by decide +kernel, by decide +kernel⟩

/-- The fill of sheet 1 of page 0. -/
def filling : State := { stored 0 false 1 with fc := { live.fc with fills := [⟨1, .demand, 0, .standard, [64, 80, 96, 112], entry0 0 false 1⟩] } }
theorem witness_SheetFillInstalls :
    let f : Fill := ⟨1, .demand, 0, .standard, [64, 80, 96, 112], entry0 0 false 1⟩
    let e := entry0 0 false 1
    filling.Calm ∧ filling.fc.fills.find? (fun f => f.sheet == 1) = some f ∧ filling.pageRegion (sheetPage 1) = some rg ∧ fillEntry filling f = e ∧
    e.run ≠ 0 ∧ e.code 1 = 8 ∧ filling.sheetOk rg.opq e 1 = true ∧ filling.keys.slots.find rg.keydom = some key0 ∧
    filling.tagSlot e 1 = sheetTag key0 0 1 0 8 0 (filling.sheetBytes false e 1) ∧
    (∀ l ∈ sheetLines 1, filling.fcFind l = none ∧ filling.wbLine l = none ∧ filling.mem.backPoison.contains l = false ∧
      f.ways.find? (fun k => slotSetKey k % 4096 == fcSet l) = some (16 * l)) :=
  ⟨calm_of _ (by decide +kernel), by decide +kernel, by decide +kernel, by decide +kernel, by decide, by decide +kernel, by decide +kernel,
    by decide +kernel, by rw [stored_bytes filling 0 false 1 rfl (by decide)]; exact stored_tag filling 0 false 1 rfl, by decide +kernel⟩
theorem witness_PageWorkGetsItsPlace :
    let w : Work := ⟨1, 0, 1, .writeBack 7, .waiting, 0, 0, .none, [], [], 0⟩
    let b : WbEntry := ⟨7, 0, 1, [⟨0, fullMask, 0, false⟩, ⟨1, fullMask, 0, false⟩, ⟨2, fullMask, 0, false⟩, ⟨3, fullMask, 0, false⟩], 0, .standard, none⟩
    let s : State := { live with work := [w], keys := { live.keys with slots := [(0, key0)] }, fc := { live.fc with wbuf := [b] } }
    s.Calm ∧ s.stopped = false ∧ s.pageRegion 0 = some rg ∧ s.keys.slots.find rg.keydom = some key0 ∧ s.entryKnown 0 = true ∧ rg.typ ≠ 1 ∧
    s.fc.wbuf = [b] ∧ b.sheet / 16 = 0 ∧ (s.entry 0).run = 0 ∧ (s.entry 0).size = 0 ∧ s.mem.backPoison = [] :=
  ⟨calm_of _ (by decide +kernel), by decide +kernel⟩
theorem pstate_free (s : State) (p : Nat) (h : s.cap.pmap = []) (h1 : parcelMedia p = false) (h2 : p < s.dramDataTop) (h3 : s.parcelFenced p = false)
    (h4 : s.dram.marked = []) : s.pstate p = .free := by
  simp [State.pstate, State.parcelBad, h, h1, h3, h4, Map.find, Nat.not_le.2 h2]
theorem foldXor_lt (b n q : Nat) : foldXor b n q < 2 ^ b := by
  induction n generalizing q with
  | zero => exact Nat.two_pow_pos b
  | succ n ih => exact Nat.xor_lt_two_pow (Nat.mod_lt _ (Nat.two_pow_pos b)) (ih _)
theorem live_pstate (s : State) (k : ∀ c < 16, s.channelFenced c = false ∧ s.channelOn c = true) (hp : s.part = live.part) (hm : s.cap.pmap = [])
    (hd : s.dram.marked = []) (p : Nat) (h : p < s.dramDataTop) : s.pstate p = .free := by
  have u : parcelUnit s p / 2 < 16 := by
    have := foldXor_lt 5 9 (bits p 0 33)
    simp [parcelUnit, hp, (by decide : live.part.channels = 16)]; omega
  have f := k _ u
  have l : p < 2 ^ 38 := by
    have : s.dramDataTop ≤ s.part.dramParcels := by simp [State.dramDataTop]; omega
    have : s.part.dramParcels < 2 ^ 38 := by rw [hp]; decide
    omega
  have m : parcelMedia p = false := Nat.testBit_lt_two_pow l
  exact pstate_free s p hm m h (by simp [State.parcelFenced, m, f]) hd
/-- Page 0 in media, queued for promotion, one migration allowed. -/
def queued : State :=
  let s := stored (2 ^ 38) true 0
  { s.wr TIE_CFG_MIGMAX 1 with cap := { s.cap with promoQ := [0], dram := { s.cap.dram with free := 1 } } }
theorem queued_store : queued.mem.store = (stored (2 ^ 38) true 0).mem.store := rfl
theorem witness_PageWorkGetsItsPlace_migration :
    let e := entry0 (2 ^ 38) true 0
    queued.Calm ∧ queued.entry 0 = e ∧ queued.cap.promoQ.contains 0 = true ∧ e.run = 1 ∧ e.tier = true ∧ e.size = 8 ∧ 0 < queued.rd TIE_CFG_MIGMAX ∧
    queued.sheetOk rg.opq e 0 = true ∧ queued.tagSlot e 0 = sheetTag key0 0 0 0 8 0 (queued.sheetBytes false e 0) ∧
    0 < queued.dramDataTop ∧ (∀ p < queued.dramDataTop, queued.pstate p = .free) ∧ 1 ≤ queued.cap.dram.free :=
  ⟨calm_of _ (by decide +kernel), by decide +kernel, by decide +kernel, by decide, by decide, by decide, by decide +kernel, by decide +kernel,
    by rw [stored_bytes queued (2 ^ 38) true 0 queued_store (by decide)]; exact stored_tag queued (2 ^ 38) true 0 queued_store,
    by decide +kernel, live_pstate queued (by decide +kernel) (by decide +kernel) (by decide +kernel) (by decide +kernel), by decide⟩
theorem witness_PageWorkGetsItsPlace_staging :
    let w : Work := ⟨1, 0, 0, .writeBack 7, .staging, 0, 0, .none, zeros 512, [], 1⟩
    let s : State := (({ live with work := [w] } : State).wr TLR_STAT_ARMED 1).wr MED_STG_SHARE 1
    s.Calm ∧ s.stackP = some 0 ∧ s.stagingReady 0 w.want = true ∧ (allocSlots 0 0 w.want w.page w.image w.id s).isSome = true :=
  ⟨calm_of _ (by decide +kernel), by decide +kernel⟩
theorem mgmt_of (s : State) (h : s.modeCode ≠ 6 ∧ s.post.restarting = false ∧ s.post.coresUp ≠ []) : Attends s .mgmt :=
  ⟨⟨h.1, fun _ h => by cases h⟩, h.2.1, h.2.2⟩
theorem head_of (s : State) (k : Head) (h : s.modeCode ≠ 6 ∧ s.post.restarting = false ∧ s.post.coresUp ≠ [] ∧
    (s.rd HPT_LNK_STATE k = 3 ∨ s.rd HPT_LNK_STATE k = 4 ∨ s.rd HPT_LNK_STATE k = 6)) : Attends s (.head k) :=
  ⟨⟨h.1, fun _ e => by cases e; exact h.2.2.2⟩, h.2.1, h.2.2.1⟩
theorem witness_CommitMovesThePage :
    let w : Work := ⟨1, 0, 1, .writeBack 7, .ready, 3, 1, entry0 3 false 1, zeros 512, [], 0⟩
    let s := fun k : WorkKind => ({ stored 0 false 1 with work := [{ w with kind := k }] } : State)
    ∀ k : WorkKind, (k = .writeBack 7 ∨ k = .migrate true false) → (s k).Calm ∧ (s k).stopped = false ∧ (s k).pageRegion 0 = some rg ∧
      (s k).work.find? (fun x => x.page == 0 && x.stage == .ready) = some { w with kind := k } ∧ w.need ≠ 0 ∧ (s k).verified { w with kind := k } = true := by
  rintro w s k (rfl | rfl) <;> exact ⟨calm_of _ (by decide +kernel), by decide +kernel⟩
theorem witness_FetchesAndHaltGoOn :
    let s : State := { live with mem := { live.mem with entryWait := [9] } }
    let t : State := { live with mode := { live.mode with halting := true } }
    s.Calm ∧ s.mem.entryWait.contains 9 = true ∧ s.stopped = false ∧ s.home.held = [] ∧ s.home.reqs = [] ∧ s.mem.cached.length < metaLines ∧
    t.Calm ∧ t.mode.halting = true ∧ t.cap.auditWalk = none :=
  ⟨calm_of _ (by decide +kernel), by decide +kernel, by decide +kernel, rfl, rfl, by decide +kernel, calm_of _ (by decide +kernel), rfl, rfl⟩
theorem witness_FetchesAndHaltGoOn_record :
    (recordNow live.haltRecord live).1 = 1 ∧ (recordNow (live.wr TLR_STAT_ARMED 1).haltRecord (live.wr TLR_STAT_ARMED 1)).1 ≠ 1 := by
  decide +kernel
def session (s : State) (rt : Route) : State := { s with mgt := { s.mgt with sessions := [⟨1, rt⟩] } }
theorem witness_KeyDomainCommands :
    let s := session live (.head 0)
    s.Calm ∧ Attends s (.head 0) ∧ s.rd MIL_KD_OWNER 1 = (0 : Head).val ∧ s.inSession (.head 0) = true ∧ s.rd MIL_KD_STATE 1 = 0 ∧ (zeros 64).length = 64 ∧
    s.rdB MIL_KD_PERSIST 1 = false ∧ s.rd MIL_KD_STATE 0 ≠ 2 ∧ s.bgBusy (.head 0) = false ∧ s.rightsOf 0x20 = some (MIL_KD_TIER, [1]) ∧
    (s.wr MIL_KD_OWNER 1 1).rd MIL_KD_OWNER 1 ≠ (0 : Head).val ∧ live.inSession (.head 0) = false :=
  ⟨calm_of _ (by decide +kernel), head_of _ _ (by decide +kernel), by decide +kernel⟩
theorem witness_ErasedDomainIsGone :
    let s : State := { stored 0 false 1 with keys := { live.keys with erasing := [(0, .head 0)] } }
    s.Calm ∧ s.stopped = false ∧ s.keys.erasing.find? (fun x => x.1 == 0) = some (0, .head 0) ∧ s.rdB MIL_KD_PERSIST 0 = false ∧ s.home.reqs = [] ∧
    s.workTouches (s.inDomain 0) = false ∧ s.descTouches (s.inDomain 0) = false ∧ s.home.filt = [] ∧ s.home.evt = [] ∧ s.inDomain 0 0 = true :=
  ⟨calm_of _ (by decide +kernel), by decide +kernel⟩
theorem witness_AuditsReport :
    let s : State := { live with cap := { live.cap with auditWalk := some none } }
    Attends live .mgmt ∧ live.rdB CAP_AUD_BUSY = false ∧ live.serving = true ∧ live.bgBusy .mgmt = false ∧
    s.Calm ∧ s.cap.auditWalk = some none ∧ s.orphanList = [] :=
  ⟨mgmt_of _ (by decide +kernel), by decide +kernel, by decide +kernel, by decide +kernel, calm_of _ (by decide +kernel), rfl, rfl⟩
theorem witness_PeriodsDoTheirWork :
    let x : Extent := ⟨0, 1, 0, 0, 5, 0, 0, false⟩
    let s : State := ({ live with mem := { live.mem with extents := [(0, x)] } } : State).wr CAP_GPOOL_LEVEL 1
    s.Calm ∧ s.serving = true ∧ s.rd CAP_GPOOL_LEVEL ≠ 0 ∧ (List.range 16).filter s.aboveQuota = [0] ∧ s.askable 0 = [(0, x)] ∧
    s.mem.extents.find 0 = some x ∧ x.accepted = headBit 0 ∧ s.excess 0 ≠ 0 ∧ (s.wr CAP_WM_RELMAX 1).rd CAP_WM_RELMAX ≠ 0 ∧
    live.rd CAP_GPOOL_LEVEL = 0 :=
  ⟨calm_of _ (by decide +kernel), by decide +kernel⟩
theorem witness_PeriodsDoTheirWork_sweep :
    let s : State := { stored 0 false 1 with cap := { live.cap with demoting := true } }
    s.Calm ∧ s.part.persist = true ∧ s.serving = true ∧ s.cap.demoting = true ∧ (s.cap.dram.free : Int) ≤ gib (s.rd TIE_DWM_STOP) ∧
    s.candidate = some (0, entry0 0 false 1) ∧ s.stopped = false ∧ s.modeCode ≠ 6 ∧ s.stagedCommits = false ∧ (∀ k, k < 16 → s.openStripe k 0 = none) :=
  ⟨calm_of _ (by decide +kernel), by decide +kernel⟩
/-- `live` with its region elastic, extent 0 with the heads given. -/
def elastic (x : Extent) : State := ({ live with mem := { live.mem with extents := [(0, x)] } } : State).wr CAP_RGN_A_ELASTIC 1
theorem witness_DynamicCapacityFlow :
    let s := elastic ⟨0, 0, 0, 0, 0, 0, 0, false⟩
    s.Calm ∧ s.serving = true ∧ Attends s .mgmt ∧ Attends s (.head 0) ∧ [0].all (s.addable 3 7) = true ∧
    (elastic ⟨1, 0, 7, 0, 0, 0, 0, false⟩).Calm ∧ ((elastic ⟨1, 0, 7, 0, 0, 0, 0, false⟩).extent 0).offered.getLsbD 0 = true ∧
    (elastic ⟨0, 3, 7, 0, 0, 0, 0, false⟩).Calm ∧ ((3 : Heads) &&& ~~~(((elastic ⟨0, 3, 7, 0, 0, 0, 0, false⟩).extent 0).accepted)) = 0 :=
  ⟨calm_of _ (by decide +kernel), by decide +kernel, mgmt_of _ (by decide +kernel), head_of _ _ (by decide +kernel), by decide +kernel,
    calm_of _ (by decide +kernel), by decide +kernel, calm_of _ (by decide +kernel), by decide +kernel⟩
theorem witness_ExtentsAreReleased :
    let held := elastic ⟨0, 3, 7, 0, 0, 0, 0, false⟩
    let line : State := { held with home := { held.home with filt := [(5, filtEntry 1)] } }
    let drained := elastic ⟨0, 0, 7, 0, 0, 0, 1, false⟩
    let clear := elastic ⟨0, 0, 7, 0, 0, 0, 0, true⟩
    held.Calm ∧ held.serving = true ∧ Attends held (.head 0) ∧ (held.extent 0).accepted.getLsbD 0 = true ∧ held.home.filt = [] ∧
    line.Calm ∧ line.home.filt.filter (fun y => lineExt y.1 == 0 && y.2.holders.getLsbD 0) = [(5, filtEntry 1)] ∧ (filtEntry 1).held = false ∧
    line.snoopOf 0 5 = none ∧ drained.Calm ∧ (drained.extent 0).releasing.getLsbD 0 = true ∧ drained.busyExtent 0 0 = false ∧ clear.Calm ∧
    (clear.extent 0).clearing = true ∧ clear.stopped = false ∧ clear.workTouches (fun p => pageExt p == 0) = false ∧
    clear.descTouches (fun p => pageExt p == 0) = false :=
  ⟨calm_of _ (by decide +kernel), by decide +kernel, head_of _ _ (by decide +kernel), by decide +kernel, by decide +kernel,
    calm_of _ (by decide +kernel), by decide +kernel, rfl, by decide +kernel, calm_of _ (by decide +kernel), by decide +kernel, by decide +kernel,
    calm_of _ (by decide +kernel), by decide +kernel⟩
def access (write : Bool) : DAcc := ⟨1, 0, 0, 0, none, false, false, write, 0, 0, false, false⟩
theorem witness_DramAccessesFlow :
    let s := live
    let f := live.wr DRM_CH_FENCED 1 0
    s.Calm ∧ s.dramUp = true ∧ 0 < s.part.dramParcels * 512 ∧ addrChannel s 0 = 0 ∧ s.channelFenced 0 = false ∧ s.dram.held = [] ∧ s.writeQ 0 = [] ∧
    s.readQ 0 = [] ∧ f.Calm ∧ f.channelFenced (addrChannel f 0) = true ∧ f.openReads 0 = [] ∧ f.dram.issued = [] :=
  ⟨calm_of _ (by decide +kernel), by decide +kernel, by decide +kernel, by decide +kernel, by decide +kernel, rfl, rfl, rfl,
    calm_of _ (by decide +kernel), by decide +kernel⟩
theorem witness_DramAccessesFlow_issue :
    let s := fun w : Bool => ({ live with dram := { live.dram with rdq := if w then [] else [(0, [access false])], wrq := if w then [(0, [access true])] else [] } } : State)
    ∀ w : Bool, (s w).Calm ∧ (s w).stopped = false ∧ (s w).channelOn 0 = true ∧ (s w).channelFenced 0 = false ∧ (s w).dram.paused.contains 0 = false ∧
      (s w).dram.neigh = [] ∧ nextAccess (s w) 0 = some (access w) ∧ (s w).dram.held = [] ∧ addrChannel (s w) (access w).addr = 0 ∧
      (s w).dram.retries.get 0 0 < 3 := by
  rintro s (_ | _) <;> exact ⟨calm_of _ (by decide +kernel), by decide +kernel⟩
theorem witness_DramAccessesFlow_return :
    let s : State := { live with dram := { live.dram with issued := [access false] } }
    s.Calm ∧ s.openReads 0 = [access false] ∧ s.mem.lost.contains 0 = false ∧ s.stopped = false ∧
    s.rdB FLT_U_CONT (unitIdx 3 (addrChannel s 0)) = false ∧ s.dram.ueRecent = [] :=
  ⟨calm_of _ (by decide +kernel), by decide +kernel⟩
theorem witness_DramUpkeep :
    let p : State := { live with dram := { live.dram with paused := [0], postponed := [(99, 1)] } }
    live.Calm ∧ live.dramUp = true ∧ live.channelFenced 0 = false ∧ live.channelOn 0 = true ∧ live.dram.paused.contains 0 = false ∧
    live.readQ 0 = [] ∧ live.modeCode = 3 ∧ live.dram.neigh = [] ∧ live.rdB FLT_U_FATAL (unitIdx 3 0) = false ∧ live.work = [] ∧ live.part.persist = true ∧
    p.Calm ∧ p.dram.paused.contains 0 = true ∧ (∀ x ∈ p.dram.postponed, x.1 / 64 ≠ 0) ∧ p.rd DRM_CFG_MARGIN ≤ 50 ∧ p.dram.failRun.get 0 0 = 0 :=
  ⟨live_calm, by decide +kernel, by decide +kernel, by decide +kernel, by decide +kernel, rfl, by decide +kernel, rfl, by decide +kernel, rfl,
    by decide +kernel, calm_of _ (by decide +kernel), by decide +kernel⟩
def seg0 (state : SegState) (owned : Nat) : Seg := ⟨state, 1, 0, owned, 5, 0, false, false⟩
def stripe0 (stripe stream : Nat) (programming : Bool) : Stripe := ⟨0, 0, stripe, stream, [0], programming, false, 0⟩
theorem witness_StripesAndReclaim :
    let pad := ({ live with media := { live.media with stripes := [stripe0 3 1 false] } } : State).wr MED_AGE_NOW 0xFFFFFF
    let prog := (({ live with media := { live.media with stripes := [stripe0 3 1 true] } } : State).wr FLT_BKT_CFG_DEPTH 5 1).wr MED_HLTH_PFMAX 3
    pad.Calm ∧ pad.openStripe 0 1 = some (stripe0 3 1 false) ∧ pad.stopped = false ∧ pad.modeCode ≠ 6 ∧
    pad.rd MED_AGE_REFRESH ≤ 2 * (pad.rd MED_AGE_NOW - (pad.seg 0 0).born) ∧ prog.Calm ∧
    prog.media.stripes.find? (fun u => u.stack == 0 && u.seg == 0 && u.stripe == 3 && u.programming) = some (stripe0 3 1 true) ∧ prog.work = [] ∧
    (bucketAdd (64 + dieId 0 7) prog).1 = false ∧ prog.media.pfDay.get (dieId 0 7) [] = [] ∧ 1 < prog.rd MED_HLTH_PFMAX :=
  ⟨calm_of _ (by decide +kernel), by decide +kernel, by decide +kernel, by decide +kernel, by decide +kernel, calm_of _ (by decide +kernel), by decide +kernel⟩
theorem witness_StripesAndReclaim_victim :
    let s := ({ live with media := { live.media with segs := [(0, seg0 .closed 0)], erq := [(0, [0])] } } : State).wr MED_CFG_RCLPAR 1
    let r : Reclaim := ⟨0, 0, .age, true⟩
    let t : State := { live with media := { live.media with segs := [(0, seg0 .reclaiming 0)], reclaims := [r] } }
    s.Calm ∧ s.mayReclaim = true ∧ s.stackActive 0 = true ∧ chooseVictim (staleState 0 s) 0 = some (.age, 0) ∧
    t.Calm ∧ t.stopped = false ∧ t.segWork 0 0 = false ∧ (t.seg 0 0).owned = 0 ∧ t.media.reclaims.any (fun r => r.stack == 0 && r.seg == 0) = true ∧
    t.media.reclaims.find? (fun r => r.stack == 0 && r.seg == 0) = some r ∧ (journalWrite t).journalNames 0 0 = false ∧ t.part.persist = true ∧
    t.modeCode ≠ 1 ∧ t.modeCode ≠ 6 :=
  ⟨calm_of _ (by decide +kernel), by decide +kernel, by decide +kernel, by decide +kernel, calm_of _ (by decide +kernel), by decide +kernel⟩
def reading (step : Nat) : State := ({ live with media := { live.media with reads := [⟨2 ^ 38, 0, step⟩], failed := if step = 8 then [(0, 0)] else [] } } : State).wr
  FLT_BKT_CFG_DEPTH 5 1
theorem witness_SectorReadsAndDies :
    live.Calm ∧ parcelMedia (2 ^ 38) = true ∧ live.stackActive 0 = true ∧ live.modeCode ≠ 6 ∧ live.media.reads = [] ∧ live.onDies (2 ^ 38) = true ∧
    live.dieFailed 0 (live.holdingDie (2 ^ 38)) = false ∧ (reading 1).Calm ∧
    (reading 1).media.reads.find? (fun r => r.parcel == 2 ^ 38) = some ⟨2 ^ 38, 0, 1⟩ ∧ (3 ≤ ((reading 1).wr MED_HLTH_CBITS 9).rd MED_HLTH_CBITS) ∧
    ((reading 1).wr MED_HLTH_ERSTEP 3).rd MED_HLTH_ERSTEP ≠ 0 ∧ (bucketAdd (64 + dieId 0 0) (reading 1)).1 = false ∧
    (reading 1).media.timeouts.get (dieId 0 0) 0 < 15 ∧ (reading 8).Calm ∧ (reading 8).dieFailed 0 0 = true ∧
    (reading 8).rdB FLT_U_CONT (unitIdx 4 0) = false ∧ live.dieFailed 0 5 = false :=
  ⟨live_calm, by decide +kernel, by decide +kernel, by decide +kernel, rfl, by decide +kernel, by decide +kernel, calm_of _ (by decide +kernel),
    by decide +kernel, by decide +kernel, by decide +kernel, by decide +kernel, by decide +kernel, calm_of _ (by decide +kernel), by decide +kernel⟩
theorem witness_SectorReadsAndDies_fault :
    let s : State := { live with media := { live.media with spareFrom := [(0, 1800000)] } }
    s.Calm ∧ s.stackActive 0 = true ∧ s.rdB MED_HSTK_REBUILD 0 = false ∧ (s.failedDies 0).length + 1 ≤ 4 ∧
    s.donorNeed 0 1 ≤ (s.donorsOf 0).length + s.spareCount 0 ∧ ¬ live.donorNeed 0 1 ≤ (live.donorsOf 0).length + live.spareCount 0 ∧
    live.rdB FLT_U_FATAL (unitIdx 4 0) = false ∧ live.work = [] ∧ live.media.slots = [] :=
  ⟨calm_of _ (by decide +kernel), by decide +kernel⟩
/-- Link 0 in a state, its tuple of thresholds at the image defaults. -/
def linked (state : Nat) : State := (live.wr FLM_LNK_STATE state 0).wr FLM_LNK_SWAP0 7 0
theorem witness_FlumeLinksTrain :
    (∀ n < 8, (linked n).rd FLM_LNK_STATE 0 = n ∧ (linked n).linkLive 0 = true ∧ (linked n).mode.stopStep = 0 ∧ (linked n).rdB TLR_STAT_ACTIVE = false ∧
      (linked n).mode.planWait = none ∧ (linked n).serving = true) ∧
    (linked 1).inSteps 0 = true ∧ ((linked 1).link 0).retraining = false ∧ ((linked 1).link 0).attempts < 3 ∧
    (linked 1).rdB FLT_U_FATAL (unitIdx 4 0) = false ∧ (linked 1).stackFenced 0 = false ∧ (linked 5).flows 0 = true ∧
    ((linked 5).fdir 0 0).swapping = none ∧ ((linked 5).fdir 0 0).lost = [] ∧ ((linked 5).link 0).retrains = [] ∧ 1 < (linked 5).linkCfg FLM_CFG_RTNMAX ∧
    (linked 5).rdB FLT_U_CORR (unitIdx 4 0) = false ∧ (linked 5).rd (swapFld 0) 0 = 7 := by decide +kernel
theorem witness_FlumeLinksTrain_lanes :
    let fine := (List.range 10).foldl (fun s j => s.wr FLM_TAP_EYE 31 j) (linked 4)
    let retrain : State := setLink 0 { live.link 0 with retraining := true } live
    let spent : State := setLink 0 { live.link 0 with attempts := 3 } (linked 1)
    (∀ d < 2, ∀ j < 5, fine.laneBelow 0 d j = false) ∧ (retrain.link 0).retraining = true ∧ retrain.linkLive 0 = true ∧ 3 ≤ (spent.link 0).attempts ∧
    spent.inSteps 0 = true := by decide +kernel
theorem witness_FlumeFramesAndTest :
    let sent : State := setFDir 0 0 { (linked 5).fdir 0 0 with next := 1 } (linked 5)
    let x := (linked 5).fdir 0 0
    (linked 5).flows 0 = true ∧ x.next = 0 ∧ x.expect = 0 ∧ seqDist x.acked 0 < 512 ∧ x.dropping = false ∧ ((linked 5).link 0).replays = [] ∧
    2 ≤ (linked 5).linkCfg FLM_CFG_RPLMAX ∧ (sent.fdir 0 0).acked ≠ (sent.fdir 0 0).next ∧ sent.flows 0 = true ∧
    (∀ n, (n = 5 ∨ n = 6 ∨ n = 7) → ((linked n).wr MOD_STATE_STATE 0).modeCode = 0 ∧ ((linked n).wr MOD_STATE_STATE 0).rd FLM_LNK_STATE 0 = n) :=
  ⟨by decide +kernel, by decide +kernel, by decide +kernel, by decide +kernel, by decide +kernel, by decide +kernel, by decide +kernel, by decide +kernel,
    by decide +kernel, by rintro n (rfl | rfl | rfl) <;> decide +kernel⟩
theorem atHand_of (s : State) (h hline : Nat) (r : Region) (line k : Nat) (l : FcLine)
    (p : s.view h hline = some (r, line) ∧ s.keyed r.keydom = true ∧ (∀ q ∈ s.home.reqs, q.line ≠ line) ∧ s.evicting line = false ∧
      s.snooped line = false ∧ s.rebuildHolds line = false ∧ s.filt line = none ∧ s.upsets = [] ∧
      s.pdirty (sliceOf s line) + 257 < s.rd FCA_CFG_PDMAX ∧ s.fcFind line = some k ∧ s.fc.lines.find k = some l ∧ l.mask = fullMask ∧ l.poison = false) :
    LineAtHand s h hline r line k l := by
  obtain ⟨a, b, c, d, e, f, g, i, j, m, n, o, q⟩ := p
  exact ⟨a, b, c, d, e, f, g, i, j, m, n, o, q⟩
/-- Lines 5 and 6 whole in the front cache, line 5 with data. -/
def twoLines (data : List Byte) : State :=
  { live with fc := { live.fc with lines := [(80, { fcl with data := bytesLine data }), (96, { fcl with line := 6 })] } }
def context0 : List Byte := leBytes 8 4096 ++ leBytes 8 8192 ++ [6, 2, 1, 0] ++ leBytes 4 0 ++ zeros 40
def ring0 (hd tl : Nat) (desc : Option Desc) : Ring := ⟨0, 0, 0, 6, .standard, 1, 1000, hd, tl, .running, 0, false, desc⟩
def withRing (s : State) (g : Ring) : State := { s with cou := { s.cou with rings := [(0, g)] } }
theorem witness_CourierRings :
    let s := ((twoLines context0).wr COU_PART_COUNT 4 0).wr COU_RQ_QUOTA 2 0
    let l := { fcl with data := bytesLine context0 }
    s.Calm ∧ s.routeUp (.head 0) = true ∧ s.rdB COU_RSTAT_BUSY 0 = false ∧ s.rd COU_RSTAT_RING 0 = 0 ∧ s.inPartition 0 0 = true ∧
    live.inPartition 0 0 = false ∧ s.ring 0 = none ∧ (s.wr COU_RQ_QUOTA 0 0).rd COU_RQ_QUOTA 0 ≤ s.rd COU_RQ_USED 0 ∧
    s.rd COU_RQ_USED 0 < s.rd COU_RQ_QUOTA 0 ∧ s.postOk 0 (64 * 5) 64 = true ∧ s.postOk 0 (64 * 2 ^ 41) 64 = false ∧ s.stopped = false ∧
    LineAtHand s 0 5 rg 5 80 l ∧ ringOfContext 0 (lineBytes (0 : Line)) = none ∧
    (∃ g, ringOfContext 0 (lineBytes l.data) = some g ∧ s.postOk 0 g.dbase (64 * g.entries) = true ∧ s.postOk 0 g.cbase (32 * g.entries) = true) :=
  ⟨calm_of _ (by decide +kernel), by decide +kernel, by decide +kernel, by decide +kernel, by decide +kernel, by decide +kernel, by decide +kernel,
    by decide +kernel, by decide +kernel, by decide +kernel, by decide +kernel, by decide +kernel, atHand_of _ _ _ _ _ _ _ (by decide +kernel),
    by decide +kernel, ⟨0, 4096, 8192, 6, .standard, 1, 1000, 0, 0, .running, 0, false, none⟩, by decide +kernel⟩
theorem witness_CourierRings_open :
    let g := ring0 5 6 none
    let s := withRing live g
    let b := live.wr COU_RSTAT_BUSY 1 0
    s.Calm ∧ s.ring 0 = some g ∧ g.head = 0 ∧ g.closing = false ∧ g.state = .running ∧ idxDist g.hd g.tl ≤ idxDist g.hd 9 ∧ idxDist g.hd 9 ≤ g.entries ∧
    ¬ idxDist g.hd 99 ≤ g.entries ∧ b.Calm ∧ b.rdB COU_RSTAT_BUSY 0 = true ∧ b.routeUp (.head 0) = true :=
  ⟨calm_of _ (by decide +kernel), by decide +kernel, by decide +kernel, by decide +kernel, by decide +kernel, by decide +kernel, by decide +kernel,
    by decide +kernel, calm_of _ (by decide +kernel), by decide +kernel⟩
def desc0 (bytes : List Byte) (result : Nat) (finished : Bool) : Desc := ⟨10, 0, bytes, 0, result, 0, finished, 0, none, none, [], 0, [0, 0, 0, 0, 0]⟩
/-- The bytes of a descriptor: opcode, flags, source, destination, length, operand. -/
def descBytes (op flags src dst len opnd : Nat) : List Byte :=
  leBytes 1 op ++ leBytes 1 flags ++ zeros 6 ++ leBytes 8 src ++ leBytes 8 dst ++ leBytes 8 len ++ leBytes 8 opnd ++ zeros 24
theorem witness_DescriptorsStartAndEnd :
    let s := withRing cached (ring0 5 6 none)
    let d := desc0 (descBytes 2 0 0 320 16 7) 0 true
    let t := withRing cached (ring0 10 11 (some d))
    s.Calm ∧ s.stopped = false ∧ s.serving = true ∧ s.ringEngine 0 = some 0 ∧ s.inProgress 0 < 64 ∧ s.modeCode ≠ 1 ∧ s.modeCode ≠ 6 ∧ 0 ∈ s.liveEngines ∧
    s.rdB FLT_U_FATAL (unitIdx 7 0) = false ∧ LineAtHand s 0 (0 / 64 + 5 % 64) rg 5 80 fcl ∧ t.Calm ∧ d.flags.testBit 1 = false ∧
    LineAtHand t 0 ((0 + 32 * (d.index % 64)) / 64) rg 5 80 fcl ∧ (d.record 6).length = 32 :=
  ⟨calm_of _ (by decide +kernel), by decide +kernel, by decide +kernel, by decide +kernel, by decide +kernel, by decide +kernel, by decide +kernel,
    by decide +kernel, by decide +kernel, atHand_of _ _ _ _ _ _ _ (by decide +kernel), calm_of _ (by decide +kernel), by decide +kernel,
    atHand_of _ _ _ _ _ _ _ (by decide +kernel), by decide +kernel⟩
theorem inWork_of (s : State) (r : Nat) (g : Ring) (d : Desc) (p : s.ring r = some g ∧ g.desc = some d ∧
      (d.finished = false ∧ d.done = 0 ∧ d.diff = none ∧ d.bad = none ∧ d.poisonRead = [] ∧ d.poisonWritten = 0) ∧
      (d.result = if d.opcode = 5 then (d.opnd % 4294967296) ^^^ 0xFFFFFFFF else 0) ∧ s.stopped = false ∧ s.serving = true) : InWork s r g d :=
  ⟨p.1, p.2.1, p.2.2.1, p.2.2.2.1, p.2.2.2.2⟩
/-- A descriptor over lines 6 and 5 in progress on ring 0. -/
def moving (op result : Nat) : State := withRing (twoLines (zeros 64)) (ring0 10 11 (some (desc0 (descBytes op 0 384 320 16 0) result false)))
theorem witness_DescriptorsMoveData :
    (∀ op, (op = 1 ∨ op = 2 ∨ op = 4 ∨ op = 6) → (moving op 0).Calm ∧
      InWork (moving op 0) 0 (ring0 10 11 (some (desc0 (descBytes op 0 384 320 16 0) 0 false))) (desc0 (descBytes op 0 384 320 16 0) 0 false) ∧
      LineAtHand (moving op 0) 0 (320 / 64) rg 5 80 { fcl with data := 0 } ∧ LineAtHand (moving op 0) 0 (384 / 64) rg 6 96 { fcl with line := 6 } ∧
      320 % 64 + (desc0 (descBytes op 0 384 320 16 0) 0 false).len ≤ 64) ∧
    InWork (moving 5 0xFFFFFFFF) 0 (ring0 10 11 (some (desc0 (descBytes 5 0 384 320 16 0) 0xFFFFFFFF false))) (desc0 (descBytes 5 0 384 320 16 0) 0xFFFFFFFF false) ∧
    (slice (lineBytes (7 : Line)) 0 16)[0]? ≠ (slice (lineBytes (0 : Line)) 0 16)[0]? := by
  refine ⟨?_, inWork_of _ _ _ _ (by decide +kernel), by decide +kernel⟩
  rintro op (rfl | rfl | rfl | rfl) <;>
    exact ⟨calm_of _ (by decide +kernel), inWork_of _ _ _ _ (by decide +kernel), atHand_of _ _ _ _ _ _ _ (by decide +kernel),
      atHand_of _ _ _ _ _ _ _ (by decide +kernel), by decide +kernel⟩
/-- A descriptor over page 0 in progress on ring 0. -/
def paging (s : State) (op opnd : Nat) : State := withRing s (ring0 10 11 (some (desc0 (descBytes op 0 0 0 4096 opnd) 0 false)))
theorem witness_DescriptorsWorkOnPages :
    (∀ op, (op = 3 ∨ op = 8 ∨ op = 7 ∨ op = 9) →
      let d := desc0 (descBytes op 0 0 0 4096 0) 0 false
      let s := paging (stored 0 false 0) op 0
      s.Calm ∧ InWork s 0 (ring0 10 11 (some d)) d ∧ d.opcode = op ∧ d.len = 4096 ∧ s.view 0 (d.dst / 64) = some (rg, 0) ∧ s.keyed rg.keydom = true ∧
      s.entryKnown (linePage 0) = true ∧ s.locked 0 = false ∧ s.home.filt = [] ∧ s.home.reqs = [] ∧ s.home.evt = [] ∧ s.fc.fills = [] ∧
      s.part.persist = true ∧ rg.tier = 0 ∧ s.work = []) ∧
    (stored 0 false 0).rd TIE_PIN_LIMIT * 262144 < (stored 0 false 0).rd TIE_PIN_USED + 1 ∧
    ((stored 0 false 0).wr TIE_PIN_LIMIT 1).rd TIE_PIN_USED + 1 ≤ ((stored 0 false 0).wr TIE_PIN_LIMIT 1).rd TIE_PIN_LIMIT * 262144 ∧
    (∀ n, n < 4 → (desc0 (descBytes 7 0 0 0 4096 n) 0 false).opnd % 4 = n) ∧ (stored (2 ^ 38) true 0).inMedia 0 = true := by
  refine ⟨?_, by decide +kernel, by decide +kernel, by decide +kernel, by decide +kernel⟩
  rintro op (rfl | rfl | rfl | rfl) <;> exact ⟨calm_of _ (by decide +kernel), inWork_of _ _ _ _ (by decide +kernel), by decide +kernel⟩
theorem witness_DescriptorsWorkOnPages_scrub :
    let s := paging (stored 0 false 0) 9 0
    let e := entry0 0 false 0
    s.entry 0 = e ∧ e.run ≠ 0 ∧ e.size = 8 ∧ s.bytesFenced (e.parcel * 512) 64 = false ∧
    s.bytesFenced (e.parcel * 512 + sheetOffset false e 0) 256 = false ∧ s.sheetOk false e 0 = true ∧ s.keys.slots.find rg.keydom = some key0 ∧
    s.tagSlot e 0 = sheetTag key0 0 0 0 8 0 (s.sheetBytes false e 0) :=
  ⟨by decide +kernel, by decide, by decide, by decide +kernel, by decide +kernel, by decide +kernel, by decide +kernel,
    by rw [stored_bytes (paging (stored 0 false 0) 9 0) 0 false 0 rfl (by decide)]; exact stored_tag (paging (stored 0 false 0) 9 0) 0 false 0 rfl⟩
def plan0 : PlanEnv := ⟨0, [0, 1, 2], [], [], [], true, 100⟩
def cold0 : ColdEnv := ⟨true, false, [], [], none, plan0, 900⟩
theorem witness_RegulationWorks :
    let w : RateWait := ⟨0, 0, 5, 1⟩
    let s : State := { live with qos := { live.qos with waits := [w] } }
    let wide := (List.range 6).foldl (fun s i => s.wr (budgetFld i) 1 0) live
    live.Calm ∧ live.running = true ∧ live.qos.waits = [] ∧ (∀ r < 3, (live.tok r).owed = 0) ∧ s.Calm ∧ s.running = true ∧ w.waits ≤ 1 ∧
    Attends live .mgmt ∧ live.admits 0 [9999999, 0, 0, 0, 0, 0] = false ∧ wide.Calm ∧ wide.admits 0 [0, 0, 0, 0, 0, 0] = true :=
  ⟨live_calm, by decide +kernel, rfl, by decide +kernel, calm_of _ (by decide +kernel), by decide +kernel, by decide, mgmt_of _ (by decide +kernel),
    by decide +kernel, calm_of _ (by decide +kernel), by decide +kernel⟩
theorem witness_HostLinks :
    let train := live.wr HPT_LNK_STATE 2 0
    let reset := live.wr HPT_LNK_STATE 1 0
    let sess := session live (.head 0)
    let ide := (live.wr HPT_LNK_IDE 1 0).wr HPT_HCFG_IDEMODE 1 0
    train.Calm ∧ train.headExists 0 = true ∧ train.rd HPT_LNK_STATE 0 = 2 ∧ train.modeCode ≠ 6 ∧ reset.Calm ∧ reset.headLive 0 = true ∧
    reset.rd HPT_LNK_STATE 0 = 1 ∧ sess.Calm ∧ sess.linkUp 0 = true ∧ sess.inSession (.head 0) = true ∧ sess.ideStream 0 1 = none ∧
    live.Calm ∧ live.stopped = false ∧ live.rd HPT_LNK_STATE 0 = 4 ∧ live.headFenced 0 = false ∧ live.rdB FLT_U_FATAL (unitIdx 1 0) = false ∧
    live.home.filt = [] ∧ live.home.evt = [] ∧ live.home.reqs = [] ∧ live.home.snoops = [] ∧ live.home.held = [] ∧ live.ringsOf 0 = [] ∧
    live.fc.mops.find? (fun m => m.head == 0) = none ∧ live.rdB CNT_RING_B_EN = false ∧ ide.Calm ∧ ide.rd HPT_LNK_IDE 0 = 1 ∧
    ide.rd HPT_HCFG_IDEMODE 0 ≠ 0 ∧ ide.rd HPT_LNK_STATE 0 = 4 :=
  ⟨calm_of _ (by decide +kernel), by decide +kernel, by decide +kernel, by decide +kernel, calm_of _ (by decide +kernel), by decide +kernel, by decide +kernel,
    calm_of _ (by decide +kernel), by decide +kernel, by decide +kernel, by decide +kernel, live_calm, by decide +kernel, by decide +kernel, by decide +kernel,
    by decide +kernel, rfl, rfl, rfl, rfl, rfl, rfl, rfl, by decide +kernel, calm_of _ (by decide +kernel), by decide +kernel⟩
theorem witness_HeadResetsAndTests :
    let ft := (live.wr MOD_STATE_STATE 0).wr HPT_QMAP_Q0 0
    let t : State := { ft with ports := { ft.ports with testQuads := [0] } }
    live.Calm ∧ live.headLive 0 = true ∧ live.stopped = false ∧ live.home.filt = [] ∧ live.cou.opens = [] ∧ live.linkUp 0 = true ∧
    live.headLive 9 = false ∧ ft.Calm ∧ ft.modeCode = 0 ∧ ft.ports.testQuads.contains 0 = false ∧ ft.quadHead 0 = none ∧
    t.Calm ∧ t.ports.testQuads.contains 0 = true ∧ t.quadHead 0 = none :=
  ⟨live_calm, by decide +kernel, by decide +kernel, rfl, rfl, by decide +kernel, by decide +kernel, calm_of _ (by decide +kernel), by decide +kernel,
    by decide +kernel, by decide +kernel, calm_of _ (by decide +kernel), by decide +kernel⟩
/-- `live` in a phase of the Headrace, feed 0 mated and in window, both seat pins as given. -/
def phased (p : HeadPhase) (seats : List Bool) : State :=
  let s := live.wr PWR_STAT_A_WIN 1
  { s with pwr := { s.pwr with phase := p, contacts := [true, false], reseat := true, bankTimer := true, backoff := true, faultTimer := true }
           pins := { s.pins with seatN := seats } }
theorem witness_HeadraceStarts :
    (∀ p : HeadPhase, (phased p [false, false]).pwr.phase = p ∧ (phased p [false, false]).mode.stopStep = 0 ∧ (phased p [false, false]).rdB TLR_STAT_ACTIVE = false ∧
      (phased p [false, false]).mode.planWait = none ∧ (phased p [false, false]).serving = true ∧ (phased p [false, false]).pwr.contacts.length = 2 ∧
      (phased p [false, false]).pins.seatN.length = 2 ∧ (phased p [false, false]).pwr.reseat = true ∧ (phased p [false, false]).pwr.contacts.any id = true ∧
      (phased p [false, false]).rdB PWR_STAT_PG = false ∧ (phased p [false, false]).pwr.bankTimer = true ∧ (phased p [false, false]).stuckOn 0 = false ∧
      (phased p [false, false]).rdB PWR_STAT_A_WIN = true ∧ (live.rdB PWR_STAT_A_WIN = false ∧ live.rdB PWR_STAT_OVHOLD = false)) := by
  intro p; cases p <;> decide +kernel
theorem witness_HeadraceProtects :
    let sel := fun n : Nat => ((phased .on [false, false]).wr PWR_STAT_SEL n).wr PWR_STAT_ILIM 1
    let latched := (phased .latched [false, false]).wr PWR_STAT_LATCH 1
    let up := (sel 2).wr PWR_STAT_PG 1
    (∀ n < 3, (sel n).mode.stopStep = 0 ∧ (sel n).rdB TLR_STAT_ACTIVE = false ∧ (sel n).mode.planWait = none ∧ (sel n).serving = true ∧
      (sel n).rd PWR_STAT_SEL = n ∧ (sel n).pwr.phase = .on ∧ (sel n).pwr.faultTimer = true ∧ (sel n).rdB PWR_STAT_ILIM = true ∧
      (sel n).rdB PWR_STAT_A_WIN = true ∧ (sel n).stuckOn 0 = false ∧ (sel n).pwr.converters = true ∧
      ((sel n).wr PWR_STAT_ILIM 0).rdB PWR_STAT_ILIM = false) ∧
    latched.pwr.phase = .latched ∧ latched.pwr.backoff = true ∧ latched.rdB PWR_STAT_LATCH = true ∧ latched.pwr.contacts.any id = true ∧
    up.rdB PWR_STAT_PG = true ∧ (phased .changeover [false, false]).pwr.target < 2 ∧ live.rdB PWR_STAT_LATCH = false := by decide +kernel
/-- `live` in a mode, a read waiting for its entry. -/
def busyIn (m : Nat) : State := { live.wr MOD_STATE_STATE m with home := { live.home with reqs := [waiting .entry .rd] } }
theorem witness_ModesMove :
    let step7 := ({ live with mode := { live.mode with stopStep := 7, l2Left := 3 } } : State)
    (∀ m, (m = 3 ∨ m = 4 ∨ m = 5) → (busyIn m).Calm ∧ Attends (busyIn m) .mgmt ∧ (busyIn m).mayAsk (.box .mgmt) = true ∧
      (busyIn m).rdB MOD_CTL_BUSY = false ∧ (busyIn m).mode.halting = false ∧ (busyIn m).modeCode = m ∧ (busyIn m).stopAllowed = true ∧
      (busyIn m).rdB HOM_SLMAP_REBUILD = false ∧ (busyIn m).home.reqs ≠ [] ∧ (busyIn m).home.held = []) ∧
    ((busyIn 3).wr MOD_CTL_BUSY 1).rdB MOD_CTL_BUSY = true ∧ ((busyIn 5).wr HOM_SLMAP_REBUILD 1).rdB HOM_SLMAP_REBUILD = true ∧
    ((busyIn 3).wr HOM_SLMAP_REBUILD 1).stopAllowed = false ∧ ((busyIn 5).wr MOD_STATE_STFAIL 1).rdB MOD_STATE_STFAIL = true ∧
    step7.mode.stopStep = 7 ∧ step7.stopped = false ∧ step7.rdB TLR_STAT_ACTIVE = false ∧ step7.mode.planWait = none ∧ step7.cap.auditWalk = none ∧
    step7.mode.wakeSrc = 0 ∧ step7.rd HPT_LNK_STATE 0 = 4 ∧ step7.mode.l2Left.getLsbD 0 = true := by
  refine ⟨?_, by decide +kernel⟩
  rintro m (rfl | rfl | rfl) <;> exact ⟨calm_of _ (by decide +kernel), mgmt_of _ (by decide +kernel), by decide +kernel⟩
theorem witness_ModesMove_factory :
    let s := live.wr TLR_STAT_ARMED 1
    let ft := live.wr MOD_STATE_STATE 0
    s.Calm ∧ Attends s .mgmt ∧ s.pins.logwpN = true ∧ s.book.run = none ∧ s.flt.queue = [] ∧ s.flt.extra = [] ∧ (writeFactory 1 s).1 = 0 ∧
    s.partPages 0 = [] ∧ ft.Calm ∧ ft.modeCode = 0 ∧ ft.bgBusy .mgmt = false ∧ Attends ft .mgmt :=
  ⟨calm_of _ (by decide +kernel), mgmt_of _ (by decide +kernel), rfl, rfl, rfl, rfl, by decide +kernel, rfl, calm_of _ (by decide +kernel),
    by decide +kernel, by decide +kernel, mgmt_of _ (by decide +kernel)⟩
/-- In Stop, at a step of a wake. -/
def asleep (step attempt : Nat) : State :=
  let s := ((live.wr MOD_STATE_STATE 6).wr MOD_CFG_WAKEEN 31).wr MOD_WTIMER_DELAY 9
  { s.wr MOD_CFG_FEEDMASK 1 with mode := { s.mode with wakeStep := step, wakeAttempt := attempt } }
theorem witness_WakeRuns :
    (∀ n < 7, (asleep n 1).Calm) ∧ (asleep 0 0).Calm ∧ (asleep 0 0).modeCode = 6 ∧ (asleep 0 0).mode.wakeFailed = false ∧ (asleep 0 0).headExists 0 = true ∧
    (∀ i < 5, (asleep 0 0).rdBit MOD_CFG_WAKEEN i = true) ∧ (asleep 0 0).rd MOD_WTIMER_DELAY ≠ 0 ∧ (asleep 0 0).rdBit MOD_CFG_FEEDMASK 0 = true ∧
    (asleep 0 0).rd MOD_CFG_TWAKE < 200 ∧ (asleep 3 1).mode.coldWake = false ∧ (asleep 6 1).mode.wakeFence = [] := by
  refine ⟨fun n hn => calm_of _ ?_, calm_of _ (by decide +kernel), by decide +kernel⟩
  revert n; decide +kernel
theorem witness_StartsAndFlushes :
    let ready := phased .ready [false, false]
    let bad : ColdEnv := { cold0 with lockstep := false }
    let up := live.wr PWR_STAT_PG 1
    let cold := up.wr MOD_STATE_STATE 1
    ready.Calm ∧ ready.pwr.phase = .ready ∧ ready.rdB PWR_STAT_ILIM = false ∧ ready.pins.seatN = [false, false] ∧ cold0.lockstep = true ∧
    planGrade cold0.plan ≠ none ∧ bad.lockstep = false ∧ up.Calm ∧ up.rdB PWR_STAT_PG = true ∧ up.rdB MOD_CTL_BUSY = false ∧ up.dead = false ∧
    up.post.coresUp ≠ [] ∧ up.post.restarting = false ∧ cold.Calm ∧ cold.modeCode = 1 ∧ cold.dead = false ∧ up.powered = true :=
  ⟨calm_of _ (by decide +kernel), by decide +kernel, by decide +kernel, by decide +kernel, by decide, by decide, by decide, calm_of _ (by decide +kernel),
    by decide +kernel, by decide +kernel, by decide +kernel, by decide +kernel, by decide +kernel, calm_of _ (by decide +kernel), by decide +kernel⟩
theorem witness_StartsAndFlushes_flush :
    let up := live.wr PWR_STAT_PG 1
    let s : State := { up with media := { live.media with slots := [⟨0, 0, 0, 2 ^ 38, 1, 1, zeros 512, true, 1⟩] } }
    let ft := ((live.wr MOD_STATE_STATE 0).wr TLR_STAT_ARMED 1)
    let factory : State := { ft with mode := { ft.mode with memActive := false } }
    let flush := (live.wr TLR_STAT_ACTIVE 1).wr TLR_STAT_CAUSE 1
    s.Calm ∧ s.stopped = false ∧ s.part.persist = true ∧ s.home.reqs = [] ∧ s.work = [] ∧ s.fc.wbuf = [] ∧ s.fc.lines = [] ∧
    (∃ x ∈ s.media.slots, x.stream = 0 ∧ x.left ≠ 0) ∧ s.modeCode = 3 ∧ s.rd HPT_LNK_STATE 0 = 4 ∧ factory.Calm ∧ Attends factory .mgmt ∧ factory.modeCode = 0 ∧
    factory.book.run = none ∧ (writeFactory 0 factory).1 = 0 ∧ factory.partPages 0 = [] ∧ flush.powerFlush = true ∧ flush.flush.restart = false ∧
    flush.rd TLR_STAT_STEP < 6 ∧ 0 ≤ flush.rd TLR_PLAN_VABORT ∧ flush.cap.auditWalk = none :=
  ⟨calm_of _ (by decide +kernel), by decide +kernel, by decide +kernel, rfl, rfl, rfl, rfl, by decide +kernel, by decide +kernel, by decide +kernel,
    calm_of _ (by decide +kernel), mgmt_of _ (by decide +kernel), by decide +kernel, rfl, by decide +kernel, rfl, by decide +kernel⟩
theorem witness_TokensAreTakenBorrowedOrDemoted :
    let with0 := fun b pool : Nat => ({ live with qos := { live.qos with dram := { live.qos.dram with buckets := [(2, b)], pool := pool } } } : State)
    ((with0 3 0).tok 0).buckets.get 2 0 = 3 ∧ ((with0 0 4).tok 0).buckets.get 2 0 = 0 ∧ 0 < ((with0 0 4).tok 0).pool ∧ ((with0 0 0).tok 0).pool = 0 ∧
    live.Calm ∧ live.dramUp = true ∧ live.channelFenced (addrChannel live 0) = false ∧ live.dram.held = [] ∧ live.writeQ (addrChannel live 0) = [] :=
  ⟨by decide +kernel, by decide +kernel, by decide +kernel, by decide +kernel, live_calm, by decide +kernel⟩
theorem witness_FreezeSnapAndClear :
    let s := { (((live.wr CNT_SEL_EVENT 7 9).wr CNT_SEL_HFILT 0xFFFF 9).wr CNT_SEL_CFILT 0x1F 9).wr CNT_SEL_UNIT 0x1F 9 with cnt := { live.cnt with live := [9] } }
    (live.wr CNT_CTL_FREEZE 1).rdB CNT_CTL_FREEZE = true ∧ s.rdB CNT_CTL_FREEZE = false ∧ s.modeCode ≠ 6 ∧ s.stopped = false ∧ s.cntPasses 9 7 none 0 = true ∧
    s.rd CNT_VAL_VALUE 9 + 1 < 2 ^ 48 ∧ live.post.coresUp ≠ [] ∧ Attends live .mgmt ∧ live.hostw .mgmt = true :=
  ⟨by decide +kernel, by decide +kernel, by decide +kernel, by decide +kernel, by decide +kernel, by decide +kernel, by decide +kernel,
    mgmt_of _ (by decide +kernel), by decide +kernel⟩
/-- A transfer under way into slot 0, the Tailrace armed. -/
def sending (rt : Option Route) (pldm : Bool) (offset : Nat) : State :=
  let s := live.wr TLR_STAT_ARMED 1
  { s with post := { s.post with transfer := some ⟨0, offset, rt, pldm⟩ } }
theorem showSlots_post (s : State) : (showSlots s).post = s.post := by simp [showSlots, forAll, State.wr]
theorem showSlots_pins (s : State) : (showSlots s).pins = s.pins := by simp [showSlots, forAll, State.wr]
theorem start_takes (rt : Option Route) (s : State) (h : (logWriteNow (1 + s.otherSlot) 0 (slotRecord 0 0 0) s).1 = 0)
    (hp : (logWriteNow (1 + s.otherSlot) 0 (slotRecord 0 0 0) s).2.pins.logwpN = true) :
    (stage 0 [] (transferStart rt false s).2).1 = 0 := by
  generalize hx : logWriteNow (1 + s.otherSlot) 0 (slotRecord 0 0 0) s = q at h hp
  obtain ⟨res, x⟩ := q
  have e : transferStart rt false s = (0, showSlots { x.wr PST_STAT_STAGING 1 with
      post := { x.post with transfer := some ⟨s.otherSlot, 0, rt, false⟩ } }) := by
    simp only [transferStart, hx, if_pos (show res = 0 from h)]
  have p : (transferStart rt false s).2.pins.logwpN = true := by rw [e]; simp only [showSlots_pins]; exact hp
  have t : (transferStart rt false s).2.post.transfer = some ⟨s.otherSlot, 0, rt, false⟩ := by rw [e]; simp only [showSlots_post]
  simp [stage, p, t, logWriteNow, logNow]
theorem witness_PostmasterServes :
    let armed := live.wr TLR_STAT_ARMED 1
    let back : State := { live with post := { live.post with restarting := true, coresUp := [] } }
    let due : State := { live with post := { live.post with lastExpiry := [(0, 0)] } }
    live.Calm ∧ live.stopped = false ∧ 0 ∈ live.post.coresUp ∧
    (match regAt 0x910000 with
     | some (d, i, r) => r == 0 && !d.banked && !(live.regAbsent d i) && live.pstRefusal d i 1 1 == none && live.pstRefusal d i (2 ^ 63) 0 == some 1
     | none => false) = true ∧ live.hostw (.head 0) = false ∧ live.modeCode = 3 ∧
    live.rdB MOD_CTL_BUSY = false ∧ (sending none true 0).Calm ∧ (logWriteNow 1 256 [1, 2, 3] (sending none true 0)).1 = 0 ∧
    (stage 0 [1, 2, 3] (sending none true 0)).1 = 0 ∧ live.post.restarting = false ∧ live.post.lastExpiry.find 0 = none ∧ due.Calm ∧
    due.post.lastExpiry.find 0 = some 0 ∧ due.standbyMs < 0 + 3600000 ∧ due.rdB FLT_U_FATAL (unitIdx 8 0) = false ∧ back.Calm ∧
    back.post.restarting = true ∧ live.pwr.converters = true ∧ live.post.heldHalt = none ∧ Attends armed .mgmt ∧ armed.hostw .mgmt = true ∧
    armed.pins.logwpN = true ∧ armed.post.transfer = none ∧ armed.post.applying = none ∧ (transferStart (some .mgmt) false armed).1 = 0 ∧
    (transferStart none true armed).1 = 0 ∧
    (stage 0 [] (transferStart (some .mgmt) false armed).2).1 = 0 ∧ (sending (some .mgmt) false 0).post.transfer = some ⟨0, 0, some .mgmt, false⟩ ∧
    [0, 1].find? (fun k => live.slotState k == 3) = none :=
  ⟨live_calm, by decide +kernel, by decide +kernel, by decide +kernel, by decide +kernel,
    by decide +kernel, by decide +kernel, calm_of _ (by decide +kernel), by decide +kernel, by decide +kernel, by decide +kernel, by decide +kernel,
    calm_of _ (by decide +kernel), by decide +kernel, by decide +kernel, by decide +kernel, calm_of _ (by decide +kernel), by decide +kernel, by decide +kernel, by decide +kernel,
    mgmt_of _ (by decide +kernel), by decide +kernel, by decide +kernel, by decide +kernel, by decide +kernel, by decide +kernel, by decide +kernel,
    start_takes _ _ (by decide +kernel) (by decide +kernel), by decide +kernel, by decide +kernel⟩
theorem witness_FaultCommandsAct :
    let dead := (({ live with home := { live.home with dead := 1 } } : State).wr HOM_HEAD_DEAD 1 0).wr HPT_LNK_FCAUSE 3 0
    let d : Dma := ⟨0, 320, zeros 64⟩
    let sent : State := { cached with mgt := { cached.mgt with exporting := some (.mgmt, d), background := [(0xC021, .mgmt)] } }
    let ft := cached.wr MOD_STATE_STATE 0
    live.Calm ∧ live.post.coresUp ≠ [] ∧ live.stopped = false ∧ live.fencing (unitIdx 2 0) = false ∧ Attends live .mgmt ∧ live.hostw .mgmt = true ∧
    ({ live with home := { live.home with rebuilding := some 0 } } : State).fencing (unitIdx 2 0) = true ∧
    dead.Calm ∧ dead.headFenced 0 = true ∧ dead.rdB FLT_U_FATAL (unitIdx 1 0) = false ∧ dead.ports.moreCause.getLsbD 0 = false ∧
    live.bgBusy .mgmt = false ∧ live.mgt.exporting = none ∧ live.serving = true ∧ live.headExists 0 = true ∧ live.headFenced 0 = false ∧
    live.postOk 0 0 65600 = true ∧ sent.Calm ∧ sent.cnt.dump = none ∧ sent.cnt.due = none ∧ sent.postOk 0 d.addr 64 = true ∧ d.data.length = 64 ∧
    LineAtHand sent 0 (d.addr / 64) rg 5 80 fcl ∧ Attends live (.head 0) ∧ live.modeCode ≠ 0 ∧ ft.Calm ∧ ft.modeCode = 0 ∧ ft.view 0 5 = some (rg, 5) ∧
    ft.fcFind 5 = some 80 ∧ ft.fc.lines.find 80 = some fcl ∧ ft.flt.dead = [] ∧ live.pwr.converters = true ∧ live.evt.logs = [] :=
  ⟨live_calm, by decide +kernel, by decide +kernel, by decide +kernel, mgmt_of _ (by decide +kernel), by decide +kernel, by decide +kernel,
    calm_of _ (by decide +kernel), by decide +kernel, by decide +kernel, by decide +kernel, by decide +kernel, by decide +kernel, by decide +kernel,
    by decide +kernel, by decide +kernel, by decide +kernel, calm_of _ (by decide +kernel), by decide +kernel, by decide +kernel, by decide +kernel,
    by decide +kernel, atHand_of _ _ _ _ _ _ _ (by decide +kernel), head_of _ _ (by decide +kernel), by decide +kernel, calm_of _ (by decide +kernel),
    by decide +kernel⟩
theorem witness_LogbookWrites :
    let armed := live.wr TLR_STAT_ARMED 1
    let w : LogWrite := ⟨0, 2, 4, .bytes 0 [1], true⟩
    let p : LogPage := ⟨0xFFFF, 0, 1, false, 0, false, []⟩
    let run : State := { armed with book := { armed.book with pages := [(6768, p)], run := some ⟨w, 0, zeros 256, 6768, 0, []⟩ } }
    let back : State := { armed with book := { armed.book with refused := [w] } }
    let low : State := { live with pins := { live.pins with logwpN := false } }
    live.Calm ∧ live.pwr.converters = true ∧ live.modeCode ≠ 6 ∧ live.book.queue = [] ∧ live.flt.queue = [] ∧ live.flt.extra = [] ∧ live.book.run = none ∧
    0 + 1 ≤ 256 * live.rd LOG_PART_DATA 4 ∧ live.rdB LOG_PART_PROT 0 = true ∧ live.rdB LOG_PART_PROT 4 = false ∧ low.Calm ∧ low.pins.logwpN = false ∧
    live.rdB TLR_STAT_ARMED = false ∧ armed.Calm ∧ armed.shadow 4 = some (6768, 0) ∧ run.Calm ∧ run.book.pages.find 6768 = some p ∧ w.job.rest = none ∧
    back.Calm ∧ back.mode.halting = false ∧ back.writeTest w = none ∧ back.shadow w.part = some (6768, 0) ∧ (sending none true 0).post.transfer ≠ none ∧
    0 + 4 ≤ 256 * live.rd LOG_PART_DATA 0 ∧ Attends live .mgmt :=
  ⟨live_calm, by decide +kernel, by decide +kernel, rfl, rfl, rfl, rfl, by decide +kernel, by decide +kernel, by decide +kernel, calm_of _ (by decide +kernel),
    rfl, by decide +kernel, calm_of _ (by decide +kernel), by decide +kernel, calm_of _ (by decide +kernel), by decide +kernel, by decide +kernel,
    calm_of _ (by decide +kernel), by decide +kernel, by decide +kernel, by decide +kernel, by decide +kernel, by decide +kernel, mgmt_of _ (by decide +kernel)⟩
theorem witness_RegisterAccessesAct :
    let bell := withRing live (ring0 5 6 none)
    live.Calm ∧ live.reaches (.head 0) = true ∧ live.reaches .clerk = true ∧ regAt 0x8FFFF8 = none ∧
    (∀ off ∈ [9568280, 8519936, 9502752, 9502728, 0x910000], (match regAt off with
      | some (d, i, r) => r == 0 && off % 8 == 0 && !(live.regAbsent d i) | none => false) = true) ∧
    bell.Calm ∧ bell.routeUp (.head 0) = true ∧ bell.ring 0 = some (ring0 5 6 none) ∧ (live.wr CNT_UREN_UREN 1).rdBit CNT_UREN_UREN 0 = true ∧
    (live.wr CNT_SEL_PUBLIC 1 0).rd CNT_SEL_PUBLIC 0 = 1 ∧ ({ live with ports := { live.ports with msixPend := [3] } } : State).msixMasked 0 3 = true :=
  ⟨live_calm, by decide +kernel, by decide +kernel, by decide +kernel, by decide +kernel, calm_of _ (by decide +kernel), by decide +kernel⟩
theorem witness_CounterRingRuns :
    let good := ((live.wr CNT_RING_A_LOGSZ 4).wr CNT_RING_B_PERIOD 1000)
    let en := good.wr CNT_RING_B_EN 1
    let d : Dma := ⟨0, 320, zeros 64⟩
    let sent : State := { cached with cnt := { cached.cnt with dump := some d } }
    live.Calm ∧ Attends live .mgmt ∧ live.post.coresUp ≠ [] ∧ live.stopped = false ∧ live.hostw .mgmt = true ∧ eventDefined 0 = true ∧ eventDefined 0xFFF = false ∧
    good.Calm ∧ CNT_RING_A_LOGSZ.inRange (good.rd CNT_RING_A_LOGSZ) = true ∧ CNT_RING_B_PERIOD.inRange (good.rd CNT_RING_B_PERIOD) = true ∧
    good.postOk (good.rd CNT_RING_A_HEAD) (64 * good.rd CNT_RING_A_BASE) (2112 * 2 ^ good.rd CNT_RING_A_LOGSZ) = true ∧
    (good.wr CNT_RING_A_HEAD 7).postOk 7 0 2112 = false ∧ CNT_RING_A_LOGSZ.inRange 60 = false ∧ live.rd CNT_RING_B_EN = 0 ∧ en.Calm ∧ en.rd CNT_RING_B_EN = 1 ∧
    en.modeCode ≠ 6 ∧ en.pwr.converters = true ∧ (en.rd CNT_RING_C_PROD + 2 ^ 32 - en.rd CNT_RING_C_CONS) % 2 ^ 32 ≠ 2 ^ en.rd CNT_RING_A_LOGSZ ∧
    ((en.wr CNT_RING_C_PROD 16).rd CNT_RING_C_PROD + 2 ^ 32 - en.rd CNT_RING_C_CONS) % 2 ^ 32 = 2 ^ en.rd CNT_RING_A_LOGSZ ∧
    en.cnt.dump = none ∧ en.cnt.due = none ∧ en.mgt.exporting = none ∧ sent.Calm ∧ sent.cnt.dump = some d ∧ sent.cnt.due = none ∧
    sent.mgt.exporting = none ∧ sent.headFenced 0 = false ∧ d.data.length = 64 ∧ sent.postOk 0 d.addr 64 = true ∧
    LineAtHand sent 0 (d.addr / 64) rg 5 80 fcl :=
  ⟨live_calm, mgmt_of _ (by decide +kernel), by decide +kernel, by decide +kernel, by decide +kernel, by decide +kernel, by decide +kernel,
    calm_of _ (by decide +kernel), by decide +kernel, by decide +kernel, by decide +kernel, by decide +kernel, by decide +kernel, by decide +kernel,
    calm_of _ (by decide +kernel), by decide +kernel, by decide +kernel, by decide +kernel, by decide +kernel, by decide +kernel, by decide +kernel, by decide +kernel,
    by decide +kernel, calm_of _ (by decide +kernel), rfl, by decide +kernel, by decide +kernel, by decide +kernel, by decide +kernel, by decide +kernel,
    atHand_of _ _ _ _ _ _ _ (by decide +kernel)⟩
theorem witness_ManagementPlaneAnswers :
    let at0 : State := { live with mgt := { live.mgt with smbAddr := 9568256 }, pwr := { live.pwr with phase := .on } }
    let hot : State := { live with mgt := { live.mgt with sensors := [(1, 41)], alarmed := [3], receiver := some 9, locate := true } }
    live.Calm ∧ live.pwr.phase ≠ .off ∧ at0.Calm ∧ (regAt at0.mgt.smbAddr).isSome = true ∧ at0.railsOn = true ∧ regAt live.mgt.smbAddr = none ∧
    live.routeUp .mgmt = true ∧ live.clerksUp = true ∧ live.mgt.sessions = [] ∧ (session live .mgmt).Calm ∧ (⟨1, .mgmt⟩ : Session) ∈ (session live .mgmt).mgt.sessions ∧
    live.hasSensor 25 = false ∧ hot.Calm ∧ hot.mgt.sensors.find 1 = some 41 ∧ live.hasSensor 3 = true ∧ live.modeCode ≠ 6 ∧
    sensorLimits 1 = some ((40, some 14), (45, some 15)) ∧ 2 * 1 + 2 ∉ hot.mgt.alarmed ∧ 2 * 1 + 1 ∈ hot.mgt.alarmed ∧ 2 * 1 + 1 ∉ live.mgt.alarmed ∧
    Attends live .mgmt ∧ Attends live (.head 0) ∧ hot.mgt.locate = true ∧ hot.railsOn = true ∧ (live.wr PWR_STAT_PG 0).pwr.phase ≠ .off ∧
    (∀ h < 16, State.reset.linkUp h = false) ∧ live.pageRegion 0 = some rg ∧ live.rd MIL_KD_JTAG 0 = 0 ∧ (live.wr MIL_KD_JTAG 1 0).rd MIL_KD_JTAG 0 = 1 ∧
    live.keyed 0 = true :=
  ⟨live_calm, by decide +kernel, calm_of _ (by decide +kernel), by decide +kernel, by decide +kernel, by decide +kernel, by decide +kernel,
    by decide +kernel, by decide +kernel, calm_of _ (by decide +kernel), by decide +kernel, by decide +kernel, calm_of _ (by decide +kernel), by decide +kernel,
    by decide +kernel, by decide +kernel, by decide +kernel, by decide +kernel, by decide +kernel, by decide +kernel, mgmt_of _ (by decide +kernel),
    head_of _ _ (by decide +kernel), by decide +kernel⟩
/-! An image that passes its checks, wherever the free signature check passes every image and key 0 is not revoked: sections of zeros, but
for a migration reserve of 32 GiB. -/

def sections0 : List Sect := [⟨0x05, 1, 416, 8⟩, ⟨0x01, 1, 424, 16⟩, ⟨0x02, 1, 440, 136⟩, ⟨0x03, 1, 576, 8192⟩, ⟨0x04, 1, 8768, 8⟩,
  ⟨0x06, 1, 8776, 16384⟩, ⟨0x07, 1, 25160, 128⟩, ⟨0x08, 1, 25288, 64⟩, ⟨0x10, 0, 25352, 1152⟩, ⟨0x11, 0, 26504, 520⟩, ⟨0x12, 0, 27024, 0⟩,
  ⟨0x13, 0, 27024, 8192⟩, ⟨0x20, 0, 35216, 0⟩, ⟨0x21, 1, 35216, 0⟩]
def head0 : List Byte := leBytes 4 0x494D4D41 ++ leBytes 2 1 ++ leBytes 1 1 ++ leBytes 1 0 ++ leBytes 4 0 ++ leBytes 4 0 ++ leBytes 4 35312 ++
  leBytes 2 14 ++ zeros 170 ++
  sections0.flatMap (fun x => leBytes 2 x.typ ++ leBytes 1 x.cls ++ zeros 1 ++ leBytes 4 x.off ++ leBytes 4 x.len ++ zeros 4) ++ leBytes 8 32
@[irreducible] def image0 : List Byte := head0 ++ zeros 34888
theorem image0_eq : image0 = head0 ++ zeros 34888 := by unfold image0; rfl
theorem head0_length : head0.length = 424 := by decide +kernel
theorem image0_length : image0.length = 35312 := by
  rw [image0_eq, List.length_append, head0_length, zeros, List.length_replicate]
theorem image0_sects : imgSects image0 = sections0 := by decide +kernel
theorem slice_zeros (m o n : Nat) : slice (zeros m) o n = zeros n := by
  simp only [slice, fit, zeros, List.drop_replicate, List.take_replicate, List.length_replicate]
  rw [Nat.min_eq_right (by omega : min n (m - o) ≤ n), List.replicate_append_replicate]
  congr 1; omega
theorem slice_image0 (o n : Nat) (h : 424 ≤ o) : slice image0 o n = zeros n := by
  have : slice image0 o n = slice (zeros 34888) (o - 424) n := by
    rw [slice, slice, image0_eq, List.drop_append, head0_length, List.drop_eq_nil_of_le (by rw [head0_length]; exact h), List.nil_append]
  rw [this, slice_zeros]
theorem leNat_zeros (n : Nat) : leNat (zeros n) = 0 := by
  induction n with
  | zero => rfl
  | succ n ih => simp [zeros, List.replicate_succ, leNat] at *; exact ih
theorem fieldAt_zeros (m o n : Nat) : fieldAt (zeros m) o n = 0 := by simp only [fieldAt, slice_zeros, leNat_zeros]
theorem bits_zero (l w : Nat) : bits 0 l w = 0 := by simp [bits]
theorem sect_zeros (t n : Nat) (h : ∃ x ∈ sections0, sections0.find? (fun y => y.typ == t) = some x ∧ 424 ≤ x.off ∧ x.len = n) : sect image0 t = zeros n := by
  obtain ⟨x, _, hx, ho, rfl⟩ := h
  rw [sect, image0_sects, hx]
  exact slice_image0 _ _ ho
theorem s01 : sect image0 0x01 = zeros 16 := sect_zeros _ _ (by decide)
theorem s02 : sect image0 0x02 = zeros 136 := sect_zeros _ _ (by decide)
theorem s03 : sect image0 0x03 = zeros 8192 := sect_zeros _ _ (by decide)
theorem s04 : sect image0 0x04 = zeros 8 := sect_zeros _ _ (by decide)
theorem s06 : sect image0 0x06 = zeros 16384 := sect_zeros _ _ (by decide)
theorem s07 : sect image0 0x07 = zeros 128 := sect_zeros _ _ (by decide)
theorem s08 : sect image0 0x08 = zeros 64 := sect_zeros _ _ (by decide)
theorem s10 : sect image0 0x10 = zeros 1152 := sect_zeros _ _ (by decide)
theorem s11 : sect image0 0x11 = zeros 520 := sect_zeros _ _ (by decide)
theorem s12 : sect image0 0x12 = [] := sect_zeros _ 0 (by decide)
theorem s13 : sect image0 0x13 = zeros 8192 := sect_zeros _ _ (by decide)
theorem s05 : fieldAt (sect image0 0x05) 0 8 = 32 := by decide +kernel
theorem zeroAt_zeros (m o n : Nat) : zeroAt (zeros m) o n = true := by
  rw [zeroAt, slice_zeros, zeros, List.all_replicate]
  simp
theorem image0_reserved : imgReserved image0 = true := by
  have h : fieldAt image0 20 2 = 14 := by decide +kernel
  have a : zeroAt image0 22 42 = true := by decide +kernel
  have b : zeroAt image0 160 32 = true := by decide +kernel
  have c : (List.range 14).all (fun i => zeroAt image0 (195 + 16 * i) 1 && zeroAt image0 (204 + 16 * i) 4) = true := by decide +kernel
  simp only [imgReserved, h, a, b, c, s01, s03, s04, s06, s08, s11, s12, s05, zeroAt_zeros, fieldAt_zeros, Nat.zero_and, Nat.zero_le, Bool.and_true,
    decide_true, List.all_eq_true, Bool.and_eq_true]
  simp
theorem image0_formed : imgFormed image0 = true := by
  have a : fieldAt image0 0 4 = 0x494D4D41 := by decide +kernel
  have b : fieldAt image0 4 2 = 1 := by decide +kernel
  have c : imgLength image0 = 35312 := by decide +kernel
  have d : fieldAt image0 20 2 = 14 := by decide +kernel
  simp only [imgFormed, image0_sects, image0_reserved, image0_length, a, b, c, d]
  decide
theorem image0_units (s : State) (hp : s.part = .c960f) : imgUnits image0 s = true := by
  have a : (fieldAt image0 6 1).testBit 0 = true := by decide +kernel
  have p : s.part.code = 1 ∧ s.part.channels = 16 ∧ s.part.stacks = 16 ∧ s.part.couriers = 16 ∧ s.part.heads = 16 := by rw [hp]; decide
  simp only [imgUnits, s01, s02, s03, s06, s07, fieldAt_zeros, p, a, bits_zero]
  simp
/-- Fields whose value after a load of `image0` matters not, or is not zero. -/
def loose : List Nat := tuneRegs.flatMap (fun r => r.2.2.map (·.id)) ++ [CAP_SPACE_COMMIT_EXT.id, CAP_SPACE_ELASTIC_EXT.id, CAP_RGN_C_DCR.id,
  HOM_CFG_HASH.id, FCA_CFG_LOCKW.id, TIE_DWM_MIGRES.id, CAP_CLIM_CLIMIT.id, CAP_CLIM_PLIMIT.id, QOS_BUD_A_DRAM.id, QOS_BUD_A_COU.id]
/-- Each other field keeps its value or becomes zero. -/
def Zeroed (s t : State) : Prop := t.part = s.part ∧ ∀ (f : Fld) (i : Nat), f.id ∉ loose → t.rd f i = 0 ∨ t.rd f i = s.rd f i
theorem Zeroed.refl (s : State) : Zeroed s s := ⟨rfl, fun _ _ _ => .inr rfl⟩
theorem Zeroed.trans {s t u : State} (a : Zeroed s t) (b : Zeroed t u) : Zeroed s u :=
  ⟨b.1.trans a.1, fun f i h => by
    rcases b.2 f i h with e | e
    · exact .inl e
    · rcases a.2 f i h with g | g
      · exact .inl (e.trans g)
      · exact .inr (e.trans g)⟩
theorem Zeroed.zero {s t : State} (h : Zeroed s t) (f : Fld) (i : Nat) : Zeroed s (t.wr f 0 i) := by
  refine h.trans ⟨rfl, fun g j _ => ?_⟩
  by_cases e : g.id = f.id ∧ j = i
  · left
    have k : g.key j = f.key i := Fld.key_inj.2 e
    simp [State.rd, State.wr, k, Map.get_put]
  · exact .inr (State.rd_wr_of t f 0 i g j e)
theorem Zeroed.loose {s t : State} (h : Zeroed s t) (f : Fld) (v i : Nat) (k : f.id ∈ loose) : Zeroed s (t.wr f v i) :=
  h.trans ⟨rfl, fun g j hg => .inr (State.rd_wr_ne t f v i g j (fun e => hg (e ▸ k)))⟩
theorem Zeroed.forAll {α : Type} {s t : State} (h : Zeroed s t) (l : List α) (f : α → State → State) (k : ∀ a ∈ l, ∀ s, Zeroed s (f a s)) :
    Zeroed s (Sys2Proof.Machine.forAll l f t) := by
  refine h.trans ?_
  unfold Sys2Proof.Machine.forAll
  clear h
  induction l generalizing t with
  | nil => exact .refl t
  | cons a l ih => exact (k a (by simp) t).trans (ih (fun b hb => k b (by simp [hb])))
theorem Zeroed.word {s t : State} (h : Zeroed s t) (fs : List Fld) (i : Nat) : Zeroed s (loadWord fs i 0 t) := by
  unfold loadWord
  induction fs generalizing t with
  | nil => exact h
  | cons f l ih =>
    rw [List.foldl_cons, bits_zero]
    exact ih (h.zero f i)
theorem zeroed_regions (s : State) : Zeroed s (loadRegions image0 s) := by
  unfold loadRegions
  rw [s03]
  simp only [fieldAt_zeros, Nat.zero_mod, if_true]
  refine Zeroed.forAll ?_ _ _ (fun n _ s => (Zeroed.refl s).loose _ _ _ (by decide))
  refine Zeroed.loose (Zeroed.loose ?_ _ _ _ (by decide)) _ _ _ (by decide)
  exact (Zeroed.refl s).forAll _ _ (fun n _ s => ((Zeroed.refl s).word _ _).word _ _)
theorem zeroed_restart (s : State) : Zeroed s (loadRestart image0 s) := by
  unfold loadRestart loadQuads
  rw [s02, s01, s04, s06, s07]
  simp only [fieldAt_zeros]
  refine Zeroed.forAll (Zeroed.forAll ?_ _ _ (fun n _ s => (Zeroed.refl s).word _ _)) _ _ (fun n _ s => (Zeroed.refl s).word _ _)
  refine Zeroed.loose (Zeroed.loose (Zeroed.loose ?_ _ _ _ (by decide)) _ _ _ (by decide)) _ _ _ (by decide)
  refine Zeroed.trans ?_ (zeroed_regions _)
  exact (((Zeroed.refl s).zero _ _).word _ _).forAll _ _ (fun n _ s => (Zeroed.refl s).word _ _)
theorem zeroed_qos (s : State) : Zeroed s (loadQos image0 true s) := by
  unfold loadQos
  rw [s10]
  simp only [fieldAt_zeros, if_true]
  refine Zeroed.forAll ((Zeroed.refl s).forAll _ _ (fun n _ s => (Zeroed.refl s).word _ _)) _ _ (fun i _ s => ?_)
  exact ((((Zeroed.refl s).word _ _).word _ _).loose _ _ _ (by decide)).loose _ _ _ (by decide)
theorem zeroed_quotas (s : State) : Zeroed s (loadQuotas image0 s) := by
  unfold loadQuotas
  rw [s11]
  simp only [fieldAt_zeros]
  exact ((Zeroed.refl s).forAll _ _ (fun i _ s => (((Zeroed.refl s).word _ _).zero _ _).zero _ _)).zero _ _
theorem zeroed_tuning (s : State) : Zeroed s (loadTuning image0 s) := by
  unfold loadTuning
  simp only [tuneEntries, s12, List.length_nil, Nat.zero_div, List.range_zero, List.map_nil, List.find?_nil]
  refine (Zeroed.refl s).forAll _ _ (fun r hr s => (Zeroed.refl s).forAll _ _ (fun f hf s => (Zeroed.refl s).loose _ _ _ ?_))
  exact List.mem_append_left _ (List.mem_flatMap.2 ⟨r, hr, List.mem_map_of_mem hf⟩)
theorem zeroed_routes (s : State) : Zeroed s (loadRoutes image0 s) := by
  unfold loadRoutes
  rw [s13]
  simp only [fieldAt_zeros]
  refine (Zeroed.refl s).forAll _ _ (fun i _ s => ?_)
  split
  · exact .refl s
  · exact (Zeroed.refl s).word _ _
theorem zeroed_image (s : State) : Zeroed s (loadImage image0 s) :=
  ((((zeroed_restart s).trans (zeroed_qos _)).trans (zeroed_quotas _)).trans (zeroed_tuning _)).trans (zeroed_routes _)
/-- The fields that must be zero before the load, with their counts. -/
def zeroFlds : List (Fld × Nat) := [(CAP_RGN_A_VALID, 256), (MIL_KD_PERSIST, 4096), (FCA_LOCKQ_QUOTA, 16), (CAP_EQ_RSHARE, 16), (COU_RQ_QUOTA, 16),
  (QOS_BUD_A_CFG_DRAM, 64), (QOS_BUD_A_MEDIA, 64), (QOS_BUD_B_CFG_COU, 64), (QOS_BUD_B_TRK, 64), (QOS_BUD_B_WQ, 64), (QOS_BUD_B_FC, 64),
  (COU_PART_BASE, 16), (COU_PART_COUNT, 16)] ++ qmapFlds.map (fun f => (f, 1))
def Blank (s : State) : Prop := ∀ x ∈ zeroFlds, ∀ i < x.2, s.rd x.1 i = 0
theorem blank_of {s t : State} (h : Blank s) (z : Zeroed s t) : Blank t := by
  intro x hx i hi
  have k : ∀ x ∈ zeroFlds, x.1.id ∉ loose := by decide
  rcases z.2 x.1 i (k x hx) with e | e
  · exact e
  · exact e.trans (h x hx i hi)
theorem blank_regions {s : State} (h : Blank s) : s.regions = [] := by
  rw [State.regions, List.filterMap_eq_nil_iff]
  intro n hn
  have : s.rd CAP_RGN_A_VALID n = 0 := h (CAP_RGN_A_VALID, 256) (by decide) n (List.mem_range.1 hn)
  simp [State.region, State.rdB, this]
theorem word_rd (fs : List Fld) (j v : Nat) (s : State) (g : Fld) (i : Nat) (h : g.id ∉ fs.map (·.id)) : (loadWord fs j v s).rd g i = s.rd g i := by
  unfold loadWord
  induction fs generalizing s with
  | nil => rfl
  | cons f l ih =>
    simp only [List.map_cons, List.mem_cons, not_or] at h
    rw [List.foldl_cons, ih _ h.2, State.rd_wr_ne _ _ _ _ _ _ h.1]
theorem routes_rd (b : List Byte) (s : State) (g : Fld) (i : Nat) (h : g.id ∉ routeFlds.map (·.id)) : (loadRoutes b s).rd g i = s.rd g i := by
  unfold loadRoutes forAll
  generalize List.range 1024 = l
  induction l generalizing s with
  | nil => rfl
  | cons a l ih =>
    rw [List.foldl_cons, ih]
    show (if sourceReserved a then s else loadWord _ _ _ s).rd g i = _
    split
    · rfl
    · exact word_rd _ _ _ _ _ _ h
theorem tuned (s : State) : let c := loadTuning image0 s
    c.rd CAP_WM_LOW = 4096 ∧ c.rd CAP_WM_CRIT = 1024 ∧ c.rd TIE_DWM_START = 64 ∧ c.rd TIE_DWM_STOP = 128 ∧ c.rd DRM_CFG_WQ_LOW = 32 ∧
    c.rd DRM_CFG_WQ_HIGH = 96 ∧ c.rd MED_RCL_START = 8192 ∧ c.rd MED_RCL_STOP = 16384 ∧ c.rd MED_RCL2_FLOOR = 1024 := by
  simp only [loadTuning, tuneEntries, s12, List.length_nil, Nat.zero_div, List.range_zero, List.map_nil, List.find?_nil, tuneRegs, forAll,
    List.cons_append, List.nil_append, List.foldl_cons, List.foldl_nil]
  simp (disch := decide) only [State.rd_wr_ne, State.rd_wr_same]
  decide +kernel
theorem image0_order {s : State} (h : Blank s) : (loadImage image0 s).orderRules = true := by
  have b : Blank (loadImage image0 s) := blank_of h (zeroed_image s)
  obtain ⟨a1, a2, a3, a4, a5, a6, a7, a8, a9⟩ := tuned (loadQuotas image0 (loadQos image0 true (loadRestart image0 s)))
  simp only [State.orderRules, orderList, List.all_cons, List.all_nil, Bool.and_eq_true, decide_eq_true_eq]
  have r := fun (g : Fld) (hg : g.id ∉ routeFlds.map (·.id)) =>
    routes_rd image0 (loadTuning image0 (loadQuotas image0 (loadQos image0 true (loadRestart image0 s)))) g 0 hg
  have q := b (FCA_LOCKQ_QUOTA, 16) (by decide)
  have t := b (CAP_EQ_RSHARE, 16) (by decide)
  have u := b (COU_RQ_QUOTA, 16) (by decide)
  have sum : ∀ (f : Fld), (∀ i < 16, (loadImage image0 s).rd f i = 0) → (List.range 16).foldl (fun a h => a + (loadImage image0 s).rd f h) 0 = 0 := by
    intro f hf
    simp [List.range_succ, hf]
  rw [sum _ q, sum _ t]
  refine ⟨?_, ?_, ?_, ?_, ?_, by simp, by simp, ?_, trivial⟩
  · rw [show (loadImage image0 s).rd CAP_WM_CRIT = _ from r _ (by decide), show (loadImage image0 s).rd CAP_WM_LOW = _ from r _ (by decide), a1, a2]; decide
  · rw [show (loadImage image0 s).rd TIE_DWM_START = _ from r _ (by decide), show (loadImage image0 s).rd TIE_DWM_STOP = _ from r _ (by decide), a3, a4]; decide
  · rw [show (loadImage image0 s).rd DRM_CFG_WQ_LOW = _ from r _ (by decide), show (loadImage image0 s).rd DRM_CFG_WQ_HIGH = _ from r _ (by decide), a5, a6]; decide
  · rw [show (loadImage image0 s).rd MED_RCL_START = _ from r _ (by decide), show (loadImage image0 s).rd MED_RCL_STOP = _ from r _ (by decide), a7, a8]; decide
  · rw [show (loadImage image0 s).rd MED_RCL2_FLOOR = _ from r _ (by decide), show (loadImage image0 s).rd MED_RCL_START = _ from r _ (by decide), a9, a7]; decide
  · simp only [List.all_eq_true, List.mem_range, decide_eq_true_eq]
    intro i hi
    rw [u i hi]
    exact Nat.zero_le _
theorem sum64 (s : State) (f : Fld) (h : ∀ i < 64, s.rd f i = 0) : s.budSum f = 0 := by
  simp [State.budSum, List.range_succ, h]
theorem image0_rules {s : State} (h : Blank s) : imgRules image0 s = true := by
  have b : Blank (loadImage image0 s) := blank_of h (zeroed_image s)
  have rg := blank_regions b
  have ord := image0_order h
  unfold imgRules
  generalize loadImage image0 s = c at b rg ord
  have dom : c.domainsOk = true := by
    have p : (List.range 4096).filter (fun d => c.rdB MIL_KD_PERSIST d) = [] := by
      rw [List.filter_eq_nil_iff]
      intro d hd
      simp [State.rdB, b (MIL_KD_PERSIST, 4096) (by decide) d (List.mem_range.1 hd)]
    rw [State.domainsOk, rg, p]; rfl
  have lim : c.limitsOk = true := by rw [State.limitsOk, rg]; simp [chargeOf]
  have bud : c.budgetsOk = true := by
    have k : ∀ f, (f, 64) ∈ zeroFlds → c.budSum f = 0 := fun f hf => sum64 c f (b (f, 64) hf)
    have w : (List.range 16).foldl (fun a h => a + c.rd QOS_BUD_A_CFG_DRAM (4 * h)) 0 = 0 := by
      have := b (QOS_BUD_A_CFG_DRAM, 64) (by decide)
      simp [List.range_succ, this]
    rw [State.budgetsOk, k _ (by decide), k _ (by decide), k _ (by decide), k _ (by decide), k _ (by decide), k _ (by decide), w]
    simp
  have quads : c.quadsOk = true := by
    have k : ∀ q < 16, c.quad q = 0 := by
      intro q hq
      have m : ∀ q < 16, ∃ f, qmapFlds[q]? = some f ∧ (f, 1) ∈ zeroFlds := by decide
      obtain ⟨f, e, z⟩ := m q hq
      rw [State.quad, e]
      exact b (f, 1) z 0 Nat.one_pos
    simp only [State.quadsOk, List.all_eq_true, List.mem_range]
    intro q hq
    simp [k q hq]
  have parts : c.partsOk = true := by
    have p := b (COU_PART_BASE, 16) (by decide)
    have q := b (COU_PART_COUNT, 16) (by decide)
    simp only [State.partsOk, List.all_eq_true, List.mem_range]
    intro i hi
    simp [p i hi, q i hi]
  have tune : tuneOk image0 = true := by simp [tuneOk, tuneEntries, s12]
  have words : wordsOk image0 = true := by
    have m : TIE_DWM_MIGRES.inRange (bits 32 0 8) = true := by decide +kernel
    have x : wordInRange partFlds 0 = true ∧ wordInRange budBFlds 0 = true ∧ wordInRange [CAP_EQ_QUOTA, CAP_EQ_RSHARE] 0 = true := by decide +kernel
    simp [wordsOk, s04, s05, s07, s10, s11, fieldAt_zeros, bits_zero, m, x]
  have pins : pinsOk image0 = true := by
    simp only [pinsOk, s08, fieldAt_zeros]; decide
  simp only [dom, lim, bud, quads, parts, tune, words, pins, rg, ord]
  simp [regionsApart]
/-- Wherever the free signature check passes it, the image passes checks 1 to 6. -/
theorem image0_passes {s : State} (h : Blank s) (hp : s.part = .c960f) (hf : s.rd PST_STAT_FLOOR = 0)
    (sig : ∀ k d b, Config.signatureOk k d b = true) (rev : ∀ k, Config.keyRevoked k = false) : imgCheck6 image0 s = 0 := by
  have k : imgKeyidx image0 = 0 := by decide +kernel
  have l : imgLength image0 = 35312 := by decide +kernel
  have v : imgVersion image0 = 0 ∧ imgFloor image0 = 0 := by decide +kernel
  have c : imgCheck5 image0 s = 0 := by
    simp [imgCheck5, imgSigned, k, l, sig, rev, image0_formed, image0_units s hp, hf, v]
  simp [imgCheck6, c, image0_rules h]
def logged (lpage seq : Nat) (data : List Byte) : LogPage := ⟨lpage, seq, 0, true, tagCrc data lpage seq 0, false, data⟩
theorem logged_good (l q : Nat) (d : List Byte) : (logged l q d).good = true := by simp [LogPage.good, logged]
/-- `live` with no regions, quotas or budgets, the Tailrace armed. -/
def blank0 (m : Nat) : State := (((((live.wr MOD_STATE_STATE m).wr CAP_RGN_A_VALID 0).wr FCA_LOCKQ_QUOTA 0 0).wr HPT_QMAP_Q0 0).wr QOS_BUD_B_TRK 0 2).wr TLR_STAT_ARMED 1
def pages0 (st : Nat) : List (Nat × LogPage) := [(16, logged 0 5 (slotRecord 5 2 35312)), (3120, logged 0 1 (slotRecord 1 st 35312)),
  (3121, logged 1 2 (head0.take 256)), (3122, logged 2 3 (head0.drop 256 ++ zeros 88))]
def withPages (s : State) (l : List (Nat × LogPage)) (b : List Byte) : State :=
  { s with book := { s.book with pages := l }, post := { s.post with live := b, image := some 1 } }
theorem withPages_rd (s : State) (l : List (Nat × LogPage)) (b : List Byte) (f : Fld) (i : Nat) : (withPages s l b).rd f i = s.rd f i := rfl
theorem withPages_pages (s : State) (l : List (Nat × LogPage)) (b : List Byte) : (withPages s l b).book.pages = l := rfl
/-- Slot 0 current, slot 1 in a state with the image. -/
def slotted (st : Nat) (m : Nat) : State := withPages (blank0 m) (pages0 st) image0
theorem rd_zero (s : State) (f : Fld) (i : Nat) (h1 : f.initial s.part i % 2 ^ f.w = 0)
    (h2 : ∀ e ∈ s.regs, (Nat.unpair e.1).1 = f.id → e.2 % 2 ^ f.w = 0) : s.rd f i = 0 := by
  have k : ∀ (m : Map Nat), (∀ e ∈ m, (Nat.unpair e.1).1 = f.id → e.2 % 2 ^ f.w = 0) → m.get (f.key i) (f.initial s.part i) % 2 ^ f.w = 0 := by
    intro m
    induction m with
    | nil => intro _; exact h1
    | cons e m ih =>
      intro h
      by_cases q : e.1 = f.key i
      · have : Map.get (e :: m) (f.key i) (f.initial s.part i) = e.2 := by simp [Map.get, Map.find, q]
        rw [this]
        exact h e (by simp) (by rw [q, Fld.key, Nat.unpair_pair])
      · have : Map.get (e :: m) (f.key i) (f.initial s.part i) = Map.get m (f.key i) (f.initial s.part i) := by simp [Map.get, Map.find, q]
        rw [this]
        exact ih (fun e he => h e (by simp [he]))
  exact k s.regs h2
theorem blank0_blank (m : Nat) (hm : m = 2 ∨ m = 3) : Blank (blank0 m) := by
  have h : ∀ x ∈ zeroFlds, x.1.src = .image ∧ x.1.id ≠ MGT_SMB_ADDR.id ∧
      ∀ e ∈ (blank0 m).regs, (Nat.unpair e.1).1 = x.1.id → e.2 % 2 ^ x.1.w = 0 := by
    rcases hm with rfl | rfl <;> decide +kernel
  intro x hx i _
  obtain ⟨a, b, c⟩ := h x hx
  exact rd_zero (blank0 m) x.1 i (by simp [Fld.initial, a, b]) c
theorem slotted_rd (st m : Nat) (f : Fld) (i : Nat) : (slotted st m).rd f i = (blank0 m).rd f i := withPages_rd _ _ _ f i
theorem slotted_blank (st m : Nat) (hm : m = 2 ∨ m = 3) : Blank (slotted st m) := fun x hx i hi => (slotted_rd st m x.1 i).trans (blank0_blank m hm x hx i hi)
theorem slotted_pages (st m : Nat) (hm : m = 2 ∨ m = 3) : (slotted st m).partPages 1 = [(16, logged 0 5 (slotRecord 5 2 35312))] ∧
    (slotted st m).partPages 2 = [(3120, logged 0 1 (slotRecord 1 st 35312)), (3121, logged 1 2 (head0.take 256)), (3122, logged 2 3 (head0.drop 256 ++ zeros 88))] := by
  have a : ((blank0 m).rd LOG_PART_BASE 1, (blank0 m).rd LOG_PART_PAGES 1, (blank0 m).rd LOG_PART_BASE 2, (blank0 m).rd LOG_PART_PAGES 2) =
      (16, 3104, 3120, 3104) := by rcases hm with rfl | rfl <;> decide +kernel
  simp only [Prod.mk.injEq] at a
  have b : (slotted st m).book.pages = pages0 st := withPages_pages _ _ _
  simp only [State.partPages, State.part3, slotted_rd, a, b, pages0]
  simp
theorem copy_one (s : State) (p k : Nat) (a : LogPage) (h : s.partPages p = [(k, a)]) (g : a.good = true) (z : a.lpage = 0) : s.logPage p 0 = a.data := by
  simp [State.logPage, State.currentCopy, h, g, z]
theorem copy_three (s : State) (p j k m : Nat) (a b c : LogPage) (h : s.partPages p = [(j, a), (k, b), (m, c)])
    (g : a.good = true ∧ b.good = true ∧ c.good = true) (z : a.lpage = 0 ∧ b.lpage = 1 ∧ c.lpage = 2) (hp : p ≠ 0) :
    s.logPage p 0 = a.data ∧ s.logPage p 1 = b.data ∧ s.logPage p 2 = c.data ∧ ∀ i, s.logPage p (3 + i) = zeros 256 := by
  refine ⟨?_, ?_, ?_, fun i => ?_⟩
  iterate 3 (simp [State.logPage, State.currentCopy, h, g, z])
  have e : ((0 == 3 + i) = false) ∧ ((1 == 3 + i) = false) ∧ ((2 == 3 + i) = false) := by simp; omega
  simp only [State.logPage, State.currentCopy, h, g, z, List.filter_cons, List.filter_nil, e, hp]
  simp
theorem slotted_copy (st m : Nat) (hm : m = 2 ∨ m = 3) : (slotted st m).logPage 1 0 = slotRecord 5 2 35312 ∧ (slotted st m).logPage 2 0 = slotRecord 1 st 35312 ∧
    (slotted st m).logPage 2 1 = head0.take 256 ∧ (slotted st m).logPage 2 2 = head0.drop 256 ++ zeros 88 ∧ ∀ i, (slotted st m).logPage 2 (3 + i) = zeros 256 :=
  ⟨copy_one _ _ _ _ (slotted_pages st m hm).1 (logged_good _ _ _) rfl, copy_three _ _ _ _ _ _ _ _ (slotted_pages st m hm).2
    ⟨logged_good _ _ _, logged_good _ _ _, logged_good _ _ _⟩ ⟨rfl, rfl, rfl⟩ (by decide)⟩
theorem slot_rec (st m : Nat) (hm : m = 2 ∨ m = 3) (h : st < 3) : (slotted st m).slotRec 0 = (2, 5, 35312) ∧ (slotted st m).slotRec 1 = (st, 1, 35312) := by
  have c := slotted_copy st m hm
  simp only [State.slotRec, c.1, show (1 + 1 : Nat) = 2 from rfl, c.2.1, show (1 + 0 : Nat) = 1 from rfl]
  clear c; revert st; decide +kernel
theorem flatMap_zeros (n : Nat) : (List.range n).flatMap (fun _ => zeros 256) = zeros (n * 256) := by
  induction n with
  | zero => rfl
  | succ n ih =>
    rw [List.range_succ, List.flatMap_append, ih, List.flatMap_cons, List.flatMap_nil, List.append_nil, Nat.succ_mul, zeros, zeros,
      List.replicate_append_replicate, zeros]
theorem slotted_image (st m : Nat) (hm : m = 2 ∨ m = 3) (hs : st < 3) : (slotted st m).slotImage 1 = image0 := by
  have h : ((slotted st m).slotRec 1).2.2 = 35312 := by rw [(slot_rec st m hm hs).2]
  obtain ⟨_, _, h1, h2, hz⟩ := slotted_copy st m hm
  rw [State.slotImage, h, State.logRead]
  have r : (256 % 256 + min 35312 786432 + 255) / 256 = 2 + 136 := by simp
  rw [r, List.range_add, List.flatMap_append, List.flatMap_map]
  have t : (List.range 136).flatMap (fun i => (slotted st m).logPage (1 + 1) (256 / 256 + (2 + i))) = zeros (136 * 256) := by
    rw [← flatMap_zeros]
    refine congrArg (fun f => (List.range 136).flatMap f) (funext fun i => ?_)
    have := hz i
    rwa [show 256 / 256 + (2 + i) = 3 + i by omega]
  rw [t]
  have u : (List.range 2).flatMap (fun i => (slotted st m).logPage (1 + 1) (256 / 256 + i)) = head0 ++ zeros 88 := by
    have e : List.range 2 = [0, 1] := rfl
    rw [e, List.flatMap_cons, List.flatMap_cons, List.flatMap_nil, h1, h2, List.append_nil, ← List.append_assoc, List.take_append_drop]
  rw [u, List.append_assoc, zeros, zeros, List.replicate_append_replicate]
  have q : (head0 ++ List.replicate (88 + 136 * 256) (0 : Byte)).take 35312 = image0 := by
    rw [List.take_append, head0_length, List.take_of_length_le (by rw [head0_length]; decide), List.take_replicate,
      show min (35312 - 424) (88 + 136 * 256) = 34888 from rfl, image0_eq, zeros]
  rw [slice, fit, show 256 % 256 = 0 from rfl, List.drop_zero, show min 35312 786432 = 35312 from rfl, q, ← image0_length, List.take_length, Nat.sub_self]
  exact List.append_nil _
theorem slotted_part (st m : Nat) : (slotted st m).part = .c960f := rfl
theorem live_regions (st m : Nat) (hm : m = 2 ∨ m = 3) : (slotted st m).liveTable.regions = [] := by
  have h : (slotted st m).post.live = image0 := rfl
  rw [State.liveTable, h]
  split
  · exact blank_regions (blank_of (slotted_blank st m hm) (zeroed_restart _))
  · exact blank_regions (slotted_blank st m hm)
theorem compatible_none (b : List Byte) (back : Bool) (t : State) (h : t.regions = []) : compatible b back t = true := by
  simp [compatible, h]
theorem reserve_regs (n : Nat) (s : State) : (setReserve n s).regs = s.regs ∧ (setReserve n s).part = s.part := by
  constructor <;> (simp only [setReserve, moveCount, Bool.false_eq_true, if_false]; (repeat' split) <;> rfl)
theorem zeroed_carve (b : List Byte) (s : State) : Zeroed s (carve b s) := by
  unfold carve
  have h := reserve_regs (bits (fieldAt (sect b 0x05) 0 8) 0 8) s
  have z : Zeroed s (setReserve (bits (fieldAt (sect b 0x05) 0 8) 0 8) s) := ⟨h.2, fun f i _ => .inr (State.rd_congr h.1 h.2 f i)⟩
  exact (z.loose _ _ _ (by decide)).loose _ _ _ (by decide)
/-- The free signature check passes every image, and no key is revoked. -/
def Signed : Prop := (∀ k d b, Config.signatureOk k d b = true) ∧ ∀ k, Config.keyRevoked k = false
theorem floor_zero (st m : Nat) (hm : m = 2 ∨ m = 3) : (slotted st m).rd PST_STAT_FLOOR = 0 := by
  rw [slotted_rd]; rcases hm with rfl | rfl <;> decide +kernel
theorem slotted_check (st m : Nat) (hm : m = 2 ∨ m = 3) (h : Signed) : imgCheck6 image0 (slotted st m) = 0 :=
  image0_passes (slotted_blank st m hm) rfl (floor_zero st m hm) h.1 h.2
theorem witness_StartsAndFlushes_configure (h : Signed) :
    let s := slotted 1 2
    s.Calm ∧ s.modeCode = 2 ∧ s.stopped = false ∧ s.rdB TLR_STAT_ARMED = true ∧ s.post.applying = none ∧ s.post.rollback = false ∧ s.post.image = some 1 ∧
    imgCheck6 (s.slotImage 1) (carve (s.slotImage 1) s) = 0 ∧ compatible (s.slotImage 1) false s.liveTable = true := by
  intro s
  refine ⟨calm_of _ (by decide +kernel), by decide +kernel, by decide +kernel, by decide +kernel, rfl, rfl, rfl, ?_, compatible_none _ _ _ (live_regions 1 2 (.inl rfl))⟩
  have z := zeroed_carve image0 (slotted 1 2)
  rw [slotted_image 1 2 (.inl rfl) (by decide)]
  refine image0_passes (blank_of (slotted_blank 1 2 (.inl rfl)) z) (z.1.trans rfl) ?_ h.1 h.2
  rcases z.2 PST_STAT_FLOOR 0 (by decide) with e | e
  · exact e
  · exact e.trans (floor_zero 1 2 (.inl rfl))
theorem shadow_three (s : State) (p : Nat) (a b c : LogPage) (h : s.partPages p = [(3120, a), (3121, b), (3122, c)]) (hp : s.part3 p = (3120, 3104, 3073))
    (g : a.good = true ∧ b.good = true ∧ c.good = true) (z : a.lpage = 0 ∧ b.lpage = 1 ∧ c.lpage = 2) (w : a.wear = 0 ∧ b.wear = 0 ∧ c.wear = 0) :
    s.shadow p = some (3123, 0) := by
  simp only [State.shadow, hp, h, State.pageUsed, State.currentCopy, g, z, List.filter_cons, List.filter_nil, State.topWear, w, List.foldl_cons, List.foldl_nil]
  simp [State.shadow.firstBlank]
theorem write_now (s : State) (p : Nat) (data : List Byte) (hd : data.length = 256) (hr : s.book.run = none)
    (ht : ∀ w : LogWrite, w.part = p → w.job = .bytes 0 data → s.writeTest w = none) (hs : s.shadow p = some (3123, 0)) : (logWriteNow p 0 data s).1 = 0 := by
  have c : chooseShadow p 4096 s = (some (3123, 0), s) := by unfold chooseShadow; rw [hs]; rfl
  have n : data.isEmpty = false := by cases data with | nil => simp at hd | cons _ _ => rfl
  have d : data.drop (256 - 0 % 256) = [] := List.drop_eq_nil_of_le (by rw [hd])
  rw [logWriteNow, hd, show 256 / 256 + 2 = 2 + 1 from rfl, logNow]
  simp only [n, hr, ht ⟨s.book.nextId, 2, p, .bytes 0 data, false⟩ rfl rfl, c, d]
  simp [logNow]
theorem slotted_test (st m : Nat) (hm : m = 2 ∨ m = 3) (data : List Byte) (hd : data.length = 256) (w : LogWrite) (hp : w.part = 2) (hj : w.job = .bytes 0 data) :
    (slotted st m).writeTest w = none := by
  have a : (slotted st m).rd LOG_PART_DATA 2 = 3073 ∧ (slotted st m).rdB LOG_PART_PROT 2 = true ∧ (slotted st m).pins.logwpN = true ∧ (slotted st m).logEnergy = true := by
    have k : ∀ f i, (slotted st m).rd f i = (blank0 m).rd f i := slotted_rd st m
    refine ⟨?_, ?_, rfl, ?_⟩
    · rw [k]; rcases hm with rfl | rfl <;> decide +kernel
    · rw [State.rdB, k]; rcases hm with rfl | rfl <;> decide +kernel
    · simp only [State.logEnergy, State.rdB, k]; rcases hm with rfl | rfl <;> decide +kernel
  simp [State.writeTest, hp, hj, State.part3, a, LogJob.fits, hd]
theorem slotted_write (st m : Nat) (hm : m = 2 ∨ m = 3) (data : List Byte) (hd : data.length = 256) : (logWriteNow 2 0 data (slotted st m)).1 = 0 := by
  refine write_now _ _ _ hd rfl (slotted_test st m hm data hd) (shadow_three _ _ _ _ _ (slotted_pages st m hm).2 ?_
    ⟨logged_good _ _ _, logged_good _ _ _, logged_good _ _ _⟩ ⟨rfl, rfl, rfl⟩ ⟨rfl, rfl, rfl⟩)
  simp only [State.part3, slotted_rd]; rcases hm with rfl | rfl <;> decide +kernel
theorem slotRecord_length (a b c : Nat) : (slotRecord a b c).length = 256 := by
  have : ∀ n v, (leBytes n v).length = n := by intro n; induction n with | zero => simp [leBytes] | succ n ih => simp [leBytes, ih]
  simp only [slotRecord, List.length_append, this, zeros, List.length_replicate]
theorem slotted_current (st : Nat) (hs : st = 1 ∨ st = 2) (m : Nat) (hm : m = 2 ∨ m = 3) : (slotted st m).currentSlot = some 0 ∧
    (slotted st m).slotState 1 = (if st = 1 then 1 else 3) ∧ (slotted st m).slotState 0 = 2 ∧ (slotted st m).otherSlot = 1 := by
  have r := slot_rec st m hm (by omega)
  have c : (slotted st m).currentSlot = some 0 := by rw [State.currentSlot, r.1, r.2]; rcases hs with rfl | rfl <;> rfl
  refine ⟨c, ?_, ?_, ?_⟩
  · rw [State.slotState, c, r.2]; rcases hs with rfl | rfl <;> rfl
  · rw [State.slotState, c]; rfl
  · rw [State.otherSlot, c]
theorem made_current (n : Nat) (s : State) (w : ∀ seq len, (logWriteNow (1 + n) 0 (slotRecord seq 2 len) s).1 = 0) : (makeCurrent n s).1 = true := by
  simp only [makeCurrent, ne_eq, w, not_true_eq_false, if_false]
  repeat' split
  all_goals rfl
theorem slotted_made (st m : Nat) (hm : m = 2 ∨ m = 3) : (makeCurrent 1 (slotted st m)).1 = true :=
  made_current 1 _ (fun _ _ => slotted_write st m hm _ (slotRecord_length _ _ _))
theorem witness_PostmasterServes_image (h : Signed) :
    (∀ st, (st = 1 ∨ st = 2) → let s := slotted st 3
      s.Calm ∧ s.stopped = false ∧ Attends s .mgmt ∧ s.hostw .mgmt = true ∧ 0 ∈ s.post.coresUp ∧
      s.rdB MOD_CTL_BUSY = false ∧ s.pins.logwpN = true ∧ (s.slotState 1 = if st = 1 then 1 else 3) ∧ imgCheck6 (s.slotImage 1) s = 0 ∧
      (∀ back, compatible (s.slotImage 1) back s.liveTable = true) ∧ s.serving = true ∧ s.post.image ≠ none ∧ liveOnly s.post.live (s.slotImage 1) = true ∧
      (makeCurrent 1 s).1 = true ∧ sect s.post.live 0x20 = sect (s.slotImage 1) 0x20) ∧
    (slotted 1 3).otherSlot = 1 ∧ [0, 1].find? (fun k => (slotted 2 3).slotState k == 3) = some 1 ∧ liveOnly [] ((slotted 1 3).slotImage 1) = false := by
  refine ⟨fun st hs => ?_, (slotted_current 1 (.inl rfl) 3 (.inr rfl)).2.2.2, ?_, ?_⟩
  · intro s
    have i : s.slotImage 1 = image0 := slotted_image st 3 (.inr rfl) (by omega)
    have l : liveOnly image0 image0 = true := by simp [liveOnly]
    refine ⟨calm_of _ ?_, ?_, mgmt_of _ ?_, ?_, ?_, ?_, ?_, (slotted_current st hs 3 (.inr rfl)).2.1, ?_, fun back => compatible_none _ _ _ (live_regions st 3 (.inr rfl)),
      ?_, ?_, ?_, slotted_made st 3 (.inr rfl), ?_⟩
    iterate 6 (rcases hs with rfl | rfl <;> decide +kernel)
    · rfl
    · rw [i]; exact slotted_check st 3 (.inr rfl) h
    · rcases hs with rfl | rfl <;> decide +kernel
    · exact fun e => by cases e
    · rw [i]; exact l
    · rw [i]; rfl
  · have c := slotted_current 2 (.inr rfl) 3 (.inr rfl)
    simp [c.2.1, c.2.2.1]
  · rw [slotted_image 1 3 (.inr rfl) (by decide)]
    have a : sect [] 0x01 = [] := by decide +kernel
    simp only [liveOnly, sectTypes, List.all_cons, a, s01, Bool.and_eq_false_iff]
    left; decide
def withTransfer (s : State) (t : Transfer) : State := { s with post := { s.post with transfer := some t } }
theorem bumped (s : State) (t : Transfer) (g : Fld) : let u := (withTransfer s t).bump g 1
    u.post.transfer = some t ∧ u.book = s.book ∧ u.part = s.part ∧ u.pins = s.pins ∧ ∀ (f : Fld) (i : Nat), f.id ≠ g.id → u.rd f i = s.rd f i :=
  ⟨rfl, rfl, rfl, rfl, fun _ _ hf => (State.rd_bump_ne _ _ _ _ _ _ hf).trans rfl⟩
theorem slot_read : (slotted 1 3).logRead 2 256 35312 = image0 := by
  have k := slotted_image 1 3 (.inr rfl) (by decide)
  have e : min ((slotted 1 3).slotRec 1).2.2 786432 = 35312 := by rw [(slot_rec 1 3 (.inr rfl) (by decide)).2]; decide
  rw [State.slotImage, e] at k
  exact k
theorem logRead_congr (s t : State) (p off n : Nat) (h : ∀ p, s.partPages p = t.partPages p) : s.logRead p off n = t.logRead p off n := by
  simp only [State.logRead, State.logPage, State.currentCopy, h]
theorem transfer_ends (h : Signed) (u : State) (rd : ∀ (f : Fld) (i : Nat), f.id ≠ PST_CALLS_DONE.id → u.rd f i = (slotted 1 3).rd f i)
    (tr : u.post.transfer = some ⟨1, 35312, some .mgmt, false⟩) (bk : u.book = (slotted 1 3).book) (hp : u.part = (slotted 1 3).part)
    (pins : u.pins = (slotted 1 3).pins) : (transferEnd u).1 = 0 := by
  have p3 : ∀ p, u.part3 p = (slotted 1 3).part3 p := fun p => by
    simp only [State.part3, rd LOG_PART_BASE p (by decide), rd LOG_PART_PAGES p (by decide), rd LOG_PART_DATA p (by decide)]
  have pg : ∀ p, u.partPages p = (slotted 1 3).partPages p := fun p => by simp only [State.partPages, p3, bk]
  have im : u.logRead 2 256 35312 = image0 := by
    rw [logRead_congr u _ _ _ _ pg]
    exact slot_read
  have bl : Blank u := fun x hx i hi => by
    have n : ∀ x ∈ zeroFlds, x.1.id ≠ PST_CALLS_DONE.id := by decide
    rw [rd _ _ (n x hx)]
    exact slotted_blank 1 3 (.inr rfl) x hx i hi
  have ck : imgCheck6 image0 u = 0 := image0_passes bl (hp.trans rfl) ((rd _ _ (by decide)).trans (floor_zero 1 3 (.inr rfl))) h.1 h.2
  have wt : (logWriteNow 2 0 (slotRecord 0 1 35312) u).1 = 0 := by
    have run : u.book.run = none := by rw [bk]; rfl
    refine write_now _ _ _ (slotRecord_length _ _ _) run (fun w hw hj => ?_) (shadow_three _ _ _ _ _ ((pg 2).trans (slotted_pages 1 3 (.inr rfl)).2) ?_
      ⟨logged_good _ _ _, logged_good _ _ _, logged_good _ _ _⟩ ⟨rfl, rfl, rfl⟩ ⟨rfl, rfl, rfl⟩)
    · have t := slotted_test 1 3 (.inr rfl) _ (slotRecord_length 0 1 35312) w hw hj
      have e : u.logEnergy = (slotted 1 3).logEnergy := by
        unfold State.logEnergy State.rdB
        rw [rd TLR_STAT_ACTIVE 0 (by decide), rd TLR_PLAN_VABORT 0 (by decide), rd TLR_STAT_BANKV 0 (by decide), rd TLR_STAT_ARMED 0 (by decide)]
      rw [← t]
      unfold State.writeTest State.rdB
      rw [p3, e, rd LOG_PART_PROT w.part (by decide), pins]
    · rw [p3]; simp only [State.part3, slotted_rd]; decide +kernel
  simp only [transferEnd, tr, show (1 + 1 : Nat) = 2 from rfl, im, ck]
  generalize logWriteNow 2 0 (slotRecord 0 1 35312) u = q at wt ⊢
  obtain ⟨res, v⟩ := q
  obtain rfl : res = 0 := wt
  rfl
/-- The transfer of the image into slot 1, all of it staged. -/
def staged : State := withTransfer (slotted 1 3) ⟨1, 35312, some .mgmt, false⟩
theorem stage_none (s : State) (t : Transfer) (a : s.post.transfer = some t) (b : s.pins.logwpN = true) (h : t.offset ≤ 786432) :
    stage t.offset [] s = (0, s) := by
  have e : ¬ 786432 < t.offset := by omega
  simp [stage, a, b, e, logWriteNow, logNow]
  rw [← a]
theorem staged_calm : staged.Calm := calm_of _ (by decide +kernel)
theorem witness_PostmasterServes_transfer (h : Signed) :
    staged.Calm ∧ Attends staged .mgmt ∧ staged.pins.logwpN = true ∧ staged.post.transfer = some ⟨1, 35312, some .mgmt, false⟩ ∧
    (stage 35312 [] staged).1 = 0 ∧ (transferEnd ((stage 35312 [] staged).2.bump PST_CALLS_DONE 1)).1 = 0 := by
  have st : stage 35312 [] staged = (0, staged) := stage_none staged ⟨1, 35312, some .mgmt, false⟩ rfl (by decide +kernel) (by decide)
  refine ⟨staged_calm, mgmt_of _ (by decide +kernel), by decide +kernel, rfl, by rw [st], ?_⟩
  rw [st]
  show (transferEnd (staged.bump PST_CALLS_DONE 1)).1 = 0
  obtain ⟨tr, bk, hp, pins, rd⟩ := bumped (slotted 1 3) ⟨1, 35312, some .mgmt, false⟩ PST_CALLS_DONE
  exact transfer_ends h _ rd tr bk hp pins

end Sys2Proof.Tests
end

section
/-! PROOFS. Accesses to the windows of the BARs (chapter 23, R12, R13): registers fieldwise under their access codes, the register
window, user counter pages, MSI-X tables. -/
namespace Sys2Proof.Machine

/-- Settles O6: a register map is read at the place written or at another, and every read is cut to the field's width. -/
theorem registerFieldsAreIndependent : Obligations.RegisterFieldsAreIndependent := by
  intro s f v i
  refine ⟨s.rd_wr_same f v i, fun g j apart => s.rd_wr_of f v i g j ?_, s.rd_lt⟩
  rintro ⟨sameField, sameIndex⟩
  exact apart.elim (· sameField) (· sameIndex)

/-! What the register table says of its fields. -/

/-- The codes under which a direct write changes a field (R13). -/
def Acc.writable : Acc → Bool
  | .rw | .w1c | .w1s => true
  | _ => false

theorem Acc.writable_iff (a : Acc) : a.writable = true ↔ a = .rw ∨ a = .w1c ∨ a = .w1s := by cases a <;> decide

/-- A field is none of those in which the drop of a protected write is noted (R394). -/
def Fld.besideProt (f : Fld) : Bool := [PST_PROT_DROPS, PST_PROT_LAST, PST_PROT_HEAD, PST_PROT_CLERK].all (fun g => g.id != f.id)

theorem Fld.besideProt_iff (f : Fld) : f.besideProt = true ↔
    PST_PROT_DROPS.id ≠ f.id ∧ PST_PROT_LAST.id ≠ f.id ∧ PST_PROT_HEAD.id ≠ f.id ∧ PST_PROT_CLERK.id ≠ f.id := by
  simp only [Fld.besideProt, List.all_cons, List.all_nil, Bool.and_true, Bool.and_eq_true, bne_iff_ne]

theorem Fld.besideProt_congr {f g : Fld} (same : f.id = g.id) : f.besideProt = g.besideProt := by
  rw [Fld.besideProt, Fld.besideProt, same]

theorem regAt_mem {off j r : Nat} {d : RegDef} (found : regAt off = some (d, j, r)) : d ∈ regDefs := by
  obtain ⟨e, mem, hit⟩ := List.exists_of_findSome?_eq_some found
  split at hit
  · cases hit
  · split at hit
    · split at hit
      · cases hit; exact mem
      · cases hit
    · cases hit

theorem fields_nodup : ∀ d ∈ regDefs, (d.fields.map Fld.id).Nodup := by decide +kernel

/-- No access changes the mode or the state of a flush by itself. -/
theorem fields_spare_calm : ∀ d ∈ regDefs, ∀ f ∈ d.fields, f.acc = .rc ∨ f.acc.writable = true →
    f.id ≠ TLR_STAT_ACTIVE.id ∧ f.id ≠ MOD_STATE_STATE.id := by decide +kernel

theorem fields_spare_prot : ∀ d ∈ regDefs, ∀ f ∈ d.fields, f.acc.writable = true → f.besideProt = true := by decide +kernel

/-! An access that acts on each field of a register in turn. -/

/-- Applied to a field, an operation sets it at an index, and only where the field may change, or does nothing. -/
def ActsOn (may : Fld → Bool) (i : Nat) (op : Fld → State → State) : Prop :=
  ∀ f s, op f s = s ∨ (may f = true ∧ ∃ v, op f s = s.wr f v i)

section Fieldwise
variable {may : Fld → Bool} {i : Nat} {op : Fld → State → State}

theorem ActsOn.rd_of (acts : ActsOn may i op) {f g : Fld} {n : Nat} (apart : may f = true → ¬(g.id = f.id ∧ n = i)) (s : State) :
    (op f s).rd g n = s.rd g n := by
  rcases acts f s with same | ⟨ok, v, set⟩
  · rw [same]
  · rw [set]; exact s.rd_wr_of f v i g n (apart ok)

theorem ActsOn.fold_rd_of (acts : ActsOn may i op) {l : List Fld} {g : Fld} {n : Nat}
    (apart : ∀ f ∈ l, may f = true → ¬(g.id = f.id ∧ n = i)) (s : State) :
    (l.foldl (fun s f => op f s) s).rd g n = s.rd g n :=
  List.foldlRecOn l _ (motive := fun t => t.rd g n = s.rd g n) rfl
    fun t kept f mem => (acts.rd_of (apart f mem) t).trans kept

/-- Where no two fields share a number, a field reads after the whole access as its own part of the access leaves it. -/
theorem ActsOn.fold_rd_own (acts : ActsOn may i op) {l : List Fld} (nodup : (l.map Fld.id).Nodup) {f : Fld} (mem : f ∈ l)
    (φ : Nat → Nat) (own : ∀ s, (op f s).rd f i = φ (s.rd f i)) (s : State) :
    (l.foldl (fun s f => op f s) s).rd f i = φ (s.rd f i) := by
  induction l generalizing s with
  | nil => cases mem
  | cons a l ih =>
    obtain ⟨fresh, nodup⟩ := List.nodup_cons.1 nodup
    rw [List.foldl_cons]
    rcases List.mem_cons.1 mem with rfl | mem
    · rw [acts.fold_rd_of (fun b inl _ e => fresh (e.1 ▸ List.mem_map_of_mem inl)), own]
    · have other : f.id ≠ a.id := fun e => fresh (e ▸ List.mem_map_of_mem mem)
      rw [ih nodup mem, acts.rd_of (fun _ e => other e.1)]

theorem ActsOn.fold_calm (acts : ActsOn may i op) {l : List Fld}
    (spare : ∀ f ∈ l, may f = true → f.id ≠ TLR_STAT_ACTIVE.id ∧ f.id ≠ MOD_STATE_STATE.id) {s : State} (calm : s.Calm) :
    (l.foldl (fun s f => op f s) s).Calm :=
  List.foldlRecOn l _ (motive := State.Calm) calm fun t c f mem => by
    rcases acts f t with same | ⟨ok, v, set⟩
    · rw [same]; exact c
    · rw [set]; exact c.wr f v i (spare f mem ok).1 (spare f mem ok).2

theorem ActsOn.fold_out (acts : ActsOn may i op) (l : List Fld) (s : State) : (l.foldl (fun s f => op f s) s).out = s.out :=
  List.foldlRecOn l _ (motive := fun t : State => t.out = s.out) rfl fun t kept f _ => by
    rcases acts f t with same | ⟨_, v, set⟩
    · rw [same, kept]
    · rw [set, State.wr_out, kept]

end Fieldwise

/-! Reads: the RC fields covered are cleared. -/

/-- A read clears this field. -/
def Fld.clears (mask : Nat) (f : Fld) : Bool := f.acc = .rc && f.part mask != 0

theorem Fld.clears_iff (mask : Nat) (f : Fld) : f.clears mask = true ↔ f.acc = .rc ∧ f.part mask ≠ 0 := by
  simp [Fld.clears]

/-- What a read does to a field; `readClear` does it to each field of the register. -/
def clearFld (i mask : Nat) (f : Fld) (s : State) : State := if f.clears mask then s.wr f 0 i else s

theorem clearFld_acts (i mask : Nat) : ActsOn (Fld.clears mask) i (clearFld i mask) := by
  intro f s
  unfold clearFld
  split
  · rename_i clear; exact .inr ⟨clear, 0, rfl⟩
  · exact .inl rfl

theorem readClear_rd_cleared {d : RegDef} (known : d ∈ regDefs) {f : Fld} (mem : f ∈ d.fields) {i mask : Nat}
    (clear : f.clears mask = true) (s : State) : (readClear d i mask s).rd f i = 0 :=
  (clearFld_acts i mask).fold_rd_own (fields_nodup d known) mem (fun _ => 0)
    (fun s => by rw [clearFld, if_pos clear, s.rd_wr_same, Nat.zero_mod]) s

theorem readClear_rd_of {d : RegDef} {i mask : Nat} {f : Fld} {n : Nat}
    (apart : n ≠ i ∨ ∀ g ∈ d.fields, g.id = f.id → g.acc ≠ .rc ∨ ¬ g.part mask ≠ 0) (s : State) :
    (readClear d i mask s).rd f n = s.rd f n := by
  refine (clearFld_acts i mask).fold_rd_of (fun g mem clear ⟨sameField, sameIndex⟩ => ?_) s
  obtain ⟨rc, covered⟩ := (g.clears_iff mask).1 clear
  rcases apart with other | untouched
  · exact other sameIndex
  · exact (untouched g mem sameField.symm).elim (· rc) (· covered)

theorem readClear_calm {d : RegDef} (known : d ∈ regDefs) (i mask : Nat) {s : State} (calm : s.Calm) : (readClear d i mask s).Calm :=
  (clearFld_acts i mask).fold_calm (fun f mem clear => fields_spare_calm d known f mem (.inl ((f.clears_iff mask).1 clear).1)) calm

theorem readClear_out (d : RegDef) (i mask : Nat) (s : State) : (readClear d i mask s).out = s.out :=
  (clearFld_acts i mask).fold_out d.fields s

/-! Writes: each field under its own code. -/

/-- The fields of a register written, before protected fields are noted and triggers act. -/
def writeFlds (d : RegDef) (i mask v : Nat) (s : State) : State :=
  d.fields.foldl (fun s f => writeFld f i (f.part mask) (f.part v) s) s

theorem writeFld_acts (i mask v : Nat) : ActsOn (fun f => f.acc.writable) i (fun f => writeFld f i (f.part mask) (f.part v)) := by
  intro f s
  simp only [writeFld]
  cases f.acc with
  | rw | w1c | w1s => exact .inr ⟨rfl, _, rfl⟩
  | ro | rc | wo | img | pst => exact .inl rfl

theorem writeFlds_rd_rw {d : RegDef} (known : d ∈ regDefs) {f : Fld} (mem : f ∈ d.fields) (isRw : f.acc = .rw) (i mask v : Nat) (s : State) :
    (writeFlds d i mask v s).rd f i =
      ((s.rd f i &&& (2 ^ f.w - 1 - f.part mask)) ||| (f.part v &&& f.part mask)) % 2 ^ f.w :=
  (writeFld_acts i mask v).fold_rd_own (fields_nodup d known) mem
    (fun x => ((x &&& (2 ^ f.w - 1 - f.part mask)) ||| (f.part v &&& f.part mask)) % 2 ^ f.w)
    (fun s => by simp only [writeFld, isRw, State.rd_wr_same]) s

theorem writeFlds_rd_w1c {d : RegDef} (known : d ∈ regDefs) {f : Fld} (mem : f ∈ d.fields) (isW1c : f.acc = .w1c) (i mask v : Nat)
    (s : State) : (writeFlds d i mask v s).rd f i = s.rd f i &&& (2 ^ f.w - 1 - (f.part v &&& f.part mask)) :=
  (writeFld_acts i mask v).fold_rd_own (fields_nodup d known) mem (fun x => x &&& (2 ^ f.w - 1 - (f.part v &&& f.part mask)))
    (fun s => by
      have narrow : s.rd f i &&& (2 ^ f.w - 1 - (f.part v &&& f.part mask)) < 2 ^ f.w := Nat.and_le_left.trans_lt (s.rd_lt f i)
      simp only [writeFld, isW1c, State.rd_wr_same, Nat.mod_eq_of_lt narrow]) s

theorem writeFlds_rd_of {d : RegDef} {i : Nat} {f : Fld} {n : Nat}
    (apart : n ≠ i ∨ ∀ g ∈ d.fields, g.id = f.id → g.acc.writable = false) (mask v : Nat) (s : State) :
    (writeFlds d i mask v s).rd f n = s.rd f n := by
  refine (writeFld_acts i mask v).fold_rd_of (fun g mem writable ⟨sameField, sameIndex⟩ => ?_) s
  rcases apart with other | untouched
  · exact other sameIndex
  · exact Bool.false_ne_true ((untouched g mem sameField.symm).symm.trans writable)

theorem writeFlds_rd_prot {d : RegDef} (known : d ∈ regDefs) {f : Fld} (prot : f.besideProt = false) (i n mask v : Nat) (s : State) :
    (writeFlds d i mask v s).rd f n = s.rd f n :=
  writeFlds_rd_of (.inr fun g mem same => Bool.eq_false_iff.2 fun writable => Bool.false_ne_true
    (prot.symm.trans ((Fld.besideProt_congr same).symm.trans (fields_spare_prot d known g mem writable)))) mask v s

theorem writeFlds_calm {d : RegDef} (known : d ∈ regDefs) (i mask v : Nat) {s : State} (calm : s.Calm) : (writeFlds d i mask v s).Calm :=
  (writeFld_acts i mask v).fold_calm (fun f mem writable => fields_spare_calm d known f mem (.inr writable)) calm

/-! The drop of a protected write (R394). -/

theorem State.rd_bump_same (s : State) (f : Fld) (n i : Nat) : (s.bump f n i).rd f i = min (s.rd f i + n) (2 ^ f.w - 1) := by
  have := Nat.two_pow_pos f.w
  exact (s.rd_wr_same f _ i).trans (Nat.mod_eq_of_lt (by omega))

/-- Who made the dropped write; a Clerk leaves the head's number as it was (log entry 72). -/
def noteDropper (who : Requester) (s : State) : State :=
  match who with
  | .head h => (s.wr PST_PROT_HEAD h.val).wr PST_PROT_CLERK 0
  | .clerk => s.wr PST_PROT_CLERK 1

theorem protectedDrop_eq (who : Requester) (off : Nat) (s : State) :
    protectedDrop who off s = raise 87 (noteDropper who ((s.bump PST_PROT_DROPS 1).wr PST_PROT_LAST off)) := rfl

theorem noteDropper_rd (who : Requester) (s : State) {f : Fld} (n : Nat) (head : f.id ≠ PST_PROT_HEAD.id)
    (clerk : f.id ≠ PST_PROT_CLERK.id) : (noteDropper who s).rd f n = s.rd f n := by
  cases who with
  | head h => exact (State.rd_wr_ne _ _ _ _ _ _ clerk).trans (State.rd_wr_ne _ _ _ _ _ _ head)
  | clerk => exact State.rd_wr_ne _ _ _ _ _ _ clerk

theorem noteDropper_calm (who : Requester) {s : State} (calm : s.Calm) : (noteDropper who s).Calm := by
  cases who with
  | head h => exact (calm.wr PST_PROT_HEAD _ 0 (by decide) (by decide)).wr PST_PROT_CLERK _ 0 (by decide) (by decide)
  | clerk => exact calm.wr PST_PROT_CLERK _ 0 (by decide) (by decide)

theorem protectedDrop_rd (who : Requester) (off : Nat) (s : State) {f : Fld} (n : Nat) (closing : closingFlds.contains f.id = false)
    (other : f.besideProt = true) : (protectedDrop who off s).rd f n = s.rd f n := by
  obtain ⟨drops, last, head, clerk⟩ := f.besideProt_iff.1 other
  rw [protectedDrop_eq, (Keeps.raise 87 _).regs f n closing, noteDropper_rd who _ n head.symm clerk.symm,
    State.rd_wr_ne _ _ _ _ _ _ last.symm, State.rd_bump_ne _ _ _ _ _ _ drops.symm]

theorem protectedDrop_last (who : Requester) (off : Nat) (s : State) : (protectedDrop who off s).rd PST_PROT_LAST = off % 2 ^ 24 := by
  rw [protectedDrop_eq, raise_rd 87 _ _ _ (by decide), noteDropper_rd who _ 0 (by decide) (by decide), State.rd_wr_same]
  rfl

theorem protectedDrop_drops (who : Requester) (off : Nat) (s : State) :
    (protectedDrop who off s).rd PST_PROT_DROPS = min (s.rd PST_PROT_DROPS + 1) (2 ^ 24 - 1) := by
  rw [protectedDrop_eq, raise_rd 87 _ _ _ (by decide), noteDropper_rd who _ 0 (by decide) (by decide),
    State.rd_wr_ne _ _ _ _ _ _ (by decide), State.rd_bump_same]
  rfl

theorem protectedDrop_pend (who : Requester) (off : Nat) (s : State) :
    (protectedDrop who off s).rdBit EVT_PEND_PEND (87 % 64) (87 / 64) = true := raise_pend 87 _ (by decide)

theorem protectedDrop_calm (who : Requester) (off : Nat) {s : State} (calm : s.Calm) : (protectedDrop who off s).Calm :=
  (Keeps.raise 87 _).calm (noteDropper_calm who
    ((calm.bump PST_PROT_DROPS 1 0 (by decide) (by decide)).wr PST_PROT_LAST off 0 (by decide) (by decide)))

/-! A write without triggers. -/

/-- The access covers a protected field of the register. -/
def RegDef.protects (d : RegDef) (mask : Nat) : Bool := d.fields.any (fun f => f.acc = .pst && f.part mask != 0)

theorem RegDef.protects_of {d : RegDef} {mask : Nat} (covered : ∃ f ∈ d.fields, f.acc = .pst ∧ f.part mask ≠ 0) : d.protects mask = true := by
  obtain ⟨f, mem, pst, hit⟩ := covered
  exact List.any_eq_true.2 ⟨f, mem, by simp [pst, hit]⟩

theorem writeReg_quiet {d : RegDef} {mask v : Nat} (quiet : ∀ f ∈ d.fields, f.acc = .wo → (f.part mask &&& f.part v) ≠ 1)
    (who : Requester) (off i : Nat) (s : State) :
    writeReg who off d i mask v s =
      if d.protects mask then protectedDrop who off (writeFlds d i mask v s) else writeFlds d i mask v s := by
  refine List.foldlRecOn d.fields _ (motive := fun t => t = _) rfl fun t kept f mem => ?_
  rw [if_neg, kept]
  simp only [Bool.and_eq_true, decide_eq_true_eq, beq_iff_eq, not_and]
  exact quiet f mem

section Quiet
variable {who : Requester} {off i mask v : Nat} {d : RegDef} (known : d ∈ regDefs)
  (quiet : ∀ f ∈ d.fields, f.acc = .wo → (f.part mask &&& f.part v) ≠ 1)
include quiet

theorem writeReg_rd {f : Fld} (n : Nat) (closing : closingFlds.contains f.id = false) (other : f.besideProt = true) (s : State) :
    (writeReg who off d i mask v s).rd f n = (writeFlds d i mask v s).rd f n := by
  rw [writeReg_quiet quiet]
  split
  · exact protectedDrop_rd who off _ n closing other
  · rfl

include known

theorem writeReg_calm {s : State} (calm : s.Calm) : (writeReg who off d i mask v s).Calm := by
  rw [writeReg_quiet quiet]
  split
  · exact protectedDrop_calm who off (writeFlds_calm known i mask v calm)
  · exact writeFlds_calm known i mask v calm

theorem writeReg_protected (covered : ∃ f ∈ d.fields, f.acc = .pst ∧ f.part mask ≠ 0) (s : State) :
    (writeReg who off d i mask v s).rdBit EVT_PEND_PEND (87 % 64) (87 / 64) = true ∧
    (writeReg who off d i mask v s).rd PST_PROT_LAST = off % 2 ^ 24 ∧
    (writeReg who off d i mask v s).rd PST_PROT_DROPS = min (s.rd PST_PROT_DROPS + 1) (2 ^ 24 - 1) := by
  rw [writeReg_quiet quiet, if_pos (RegDef.protects_of covered)]
  refine ⟨protectedDrop_pend who off _, protectedDrop_last who off _, ?_⟩
  rw [protectedDrop_drops, writeFlds_rd_prot known (by decide)]

end Quiet

/-! The command, and an access to the register window. -/

theorem Ends.of_access {a : Access} {s x : State} (h : access a s = x) (calm : x.Calm) : Ends (.registerWrite a) s x :=
  Ends.of (congrArg (fun y => Host.Outcome.next (settle y)) h) calm

theorem Does.of_access {a : Access} {s x : State} {P : State → Prop} (h : access a s = x) (calm : x.Calm)
    (holds : ∀ t, Keeps x t → P t) : Does (.registerWrite a) s P := by
  obtain ⟨t, run, kept⟩ := Ends.of_access h calm
  exact ⟨t, run, holds t kept⟩

/-- The message that carries the data of a read. -/
def dataOut : Requester → Nat → Out
  | .head h, v => .io h v
  | .clerk, v => .mgmt 1 [v]

theorem answer_eq (who : Requester) (v : Nat) (s : State) : answer who v s = s.emit (dataOut who v) := by cases who <;> rfl

/-- The index an access reaches: the head's own copy of a banked register (R485). -/
def reachedIdx (who : Requester) (d : RegDef) (j : Nat) : Nat :=
  match who with
  | .head h => if d.banked then h.val else j
  | .clerk => j

/-- The bits of a register that an access at one of its bytes covers. -/
def accessMask (wide : Bool) (r : Nat) : Nat := if wide then 2 ^ 64 - 1 else (2 ^ 32 - 1) * 2 ^ (8 * r)

theorem access_window {who : Requester} {s : State} (reach : s.reaches who = true) {off : Nat} (window : 0x800000 ≤ off) (wide : Bool)
    (value : Option Nat) : access (.reg who off wide value) s = windowAccess who off wide value s := by
  unfold access barZero
  exact (if_pos reach).trans (if_pos window)

theorem windowAccess_hole {off : Nat} (hole : regAt off = none) (who : Requester) (wide : Bool) (value : Option Nat) (s : State) :
    windowAccess who off wide value s = if value.isNone then s.emit (dataOut who 0) else s := by
  unfold windowAccess
  rw [hole]
  cases value <;> simp [answer_eq]

theorem misaligned_eq (who : Requester) (read : Bool) (s : State) :
    misaligned who read s = mgmtFault 2 31 (if read then s.emit (dataOut who 0) else s) := by rw [misaligned, answer_eq]

theorem misaligned_calm (who : Requester) (read : Bool) {s : State} (calm : s.Calm) :
    (mgmtFault 2 31 (if read then s.emit (dataOut who 0) else s)).Calm := by
  refine (Keeps.mgmtFault 2 31 _).calm ?_
  cases read with
  | true => exact calm.emit _
  | false => exact calm

section Window
variable {off j r : Nat} {d : RegDef} (found : regAt off = some (d, j, r)) {wide : Bool}
include found

theorem windowAccess_misaligned (bad : off % (if wide then 8 else 4) ≠ 0 ∨ (wide = true ∧ d.width = 32)) (who : Requester)
    (value : Option Nat) (s : State) :
    windowAccess who off wide value s = mgmtFault 2 31 (if value.isNone then s.emit (dataOut who 0) else s) := by
  unfold windowAccess
  rw [found]
  exact (if_pos bad).trans (misaligned_eq who value.isNone s)

variable (aligned : off % (if wide then 8 else 4) = 0) (fits : wide = true → d.width ≠ 32) {who : Requester}
  (served : d.banked = true → who ≠ .clerk)
include aligned fits served

theorem windowAccess_read (s : State) :
    windowAccess who off wide none s = readClear d (reachedIdx who d j) (accessMask wide r)
      (s.emit (dataOut who (s.regWord d (reachedIdx who d j) / 2 ^ (8 * r) % 2 ^ (if wide then 64 else 32)))) := by
  unfold windowAccess
  rw [found]
  have good : ¬ (off % (if wide then 8 else 4) ≠ 0 ∨ (wide = true ∧ d.width = 32)) := fun bad =>
    bad.elim (· aligned) fun ⟨w, narrow⟩ => fits w narrow
  have answers : ¬ (d.banked && who == .clerk) = true := by simpa using served
  refine (if_neg good).trans ((if_neg answers).trans ?_)
  rw [← answer_eq]
  rfl

theorem windowAccess_write {s : State} (present : s.regAbsent d (reachedIdx who d j) = false) (v : Nat) :
    windowAccess who off wide (some v) s =
      writeReg who off d (reachedIdx who d j) (accessMask wide r) (v * 2 ^ (8 * r)) s := by
  unfold windowAccess
  rw [found]
  have good : ¬ (off % (if wide then 8 else 4) ≠ 0 ∨ (wide = true ∧ d.width = 32)) := fun bad =>
    bad.elim (· aligned) fun ⟨w, narrow⟩ => fits w narrow
  have answers : ¬ (d.banked && who == .clerk) = true := by simpa using served
  exact (if_neg good).trans ((if_neg answers).trans (if_neg (Bool.eq_false_iff.1 present)))

end Window

/-! What an access to the register window comes to. -/

theorem misalignedAccess_ends {s : State} {who : Requester} (reach : s.reaches who = true) (calm : s.Calm) (read : Bool) :
    Ends (.misalignedAccess who read) s (mgmtFault 2 31 (if read then s.emit (dataOut who 0) else s)) :=
  Ends.of (congrArg (fun x => Host.Outcome.next (settle x)) ((if_pos reach).trans (misaligned_eq who read s)))
    (misaligned_calm who read calm)

theorem hole_ends {s : State} {who : Requester} (reach : s.reaches who = true) (calm : s.Calm) {off : Nat} (window : 0x800000 ≤ off)
    (hole : regAt off = none) (wide : Bool) (value : Option Nat) :
    Ends (.registerWrite (.reg who off wide value)) s (if value.isNone then s.emit (dataOut who 0) else s) := by
  refine Ends.of_access ((access_window reach window wide value).trans (windowAccess_hole hole who wide value s)) ?_
  cases value with
  | none => exact calm.emit _
  | some v => exact calm

theorem misplaced_ends {s : State} {who : Requester} (reach : s.reaches who = true) (calm : s.Calm) {off : Nat} (window : 0x800000 ≤ off)
    {d : RegDef} {j r : Nat} (found : regAt off = some (d, j, r)) {wide : Bool}
    (bad : off % (if wide then 8 else 4) ≠ 0 ∨ (wide = true ∧ d.width = 32)) (value : Option Nat) :
    Ends (.registerWrite (.reg who off wide value)) s (mgmtFault 2 31 (if value.isNone then s.emit (dataOut who 0) else s)) :=
  Ends.of_access ((access_window reach window wide value).trans (windowAccess_misaligned found bad who value s))
    (misaligned_calm who value.isNone calm)

section WindowCommands
variable {s : State} (calm : s.Calm) {who : Requester} (reach : s.reaches who = true) {off j r : Nat} (window : 0x800000 ≤ off)
  {d : RegDef} (found : regAt off = some (d, j, r)) {wide : Bool} (aligned : off % (if wide then 8 else 4) = 0)
  (fits : wide = true → d.width ≠ 32) (served : d.banked = true → who ≠ .clerk)
include calm reach window found aligned fits served

theorem registerRead_does :
    Does (.registerWrite (.reg who off wide none)) s (fun t =>
      Sends s t (dataOut who (s.regWord d (reachedIdx who d j) / 2 ^ (8 * r) % 2 ^ (if wide then 64 else 32))) ∧
      (∀ f ∈ d.fields, f.acc = .rc → f.part (accessMask wide r) ≠ 0 → closingFlds.contains f.id = false →
        t.rd f (reachedIdx who d j) = 0) ∧
      ∀ (f : Fld) (n : Nat), closingFlds.contains f.id = false → (n ≠ reachedIdx who d j ∨ ∀ g ∈ d.fields, g.id = f.id →
        g.acc ≠ .rc ∨ ¬ g.part (accessMask wide r) ≠ 0) → t.rd f n = s.rd f n) := by
  have known := regAt_mem found
  refine Does.of_access ((access_window reach window wide none).trans (windowAccess_read found aligned fits served s))
    (readClear_calm known _ _ (calm.emit _)) fun t kept => ⟨?_, fun f mem rc covered closing => ?_, fun f n closing apart => ?_⟩
  · have sent := Sends.emit s (dataOut who (s.regWord d (reachedIdx who d j) / 2 ^ (8 * r) % 2 ^ (if wide then 64 else 32)))
    obtain ⟨l, more⟩ := kept.out
    exact sent.after ⟨l, by rw [more, readClear_out]⟩
  · exact (kept.regs f _ closing).trans (readClear_rd_cleared known mem ((f.clears_iff _).2 ⟨rc, covered⟩) _)
  · exact (kept.regs f n closing).trans (readClear_rd_of apart _)

theorem registerWrite_does (present : s.regAbsent d (reachedIdx who d j) = false) (v : Nat)
    (quiet : ∀ f ∈ d.fields, f.acc = .wo → (f.part (accessMask wide r) &&& f.part (v * 2 ^ (8 * r))) ≠ 1) :
    Does (.registerWrite (.reg who off wide (some v))) s (fun t =>
      (∀ f ∈ d.fields, closingFlds.contains f.id = false → f.acc = .rw →
        t.rd f (reachedIdx who d j) = ((s.rd f (reachedIdx who d j) &&& (2 ^ f.w - 1 - f.part (accessMask wide r))) |||
          (f.part (v * 2 ^ (8 * r)) &&& f.part (accessMask wide r))) % 2 ^ f.w) ∧
      (∀ f ∈ d.fields, closingFlds.contains f.id = false → f.acc = .w1c →
        t.rd f (reachedIdx who d j) =
          s.rd f (reachedIdx who d j) &&& (2 ^ f.w - 1 - (f.part (v * 2 ^ (8 * r)) &&& f.part (accessMask wide r)))) ∧
      (∀ (f : Fld) (n : Nat), closingFlds.contains f.id = false → f.besideProt = true → (n ≠ reachedIdx who d j ∨
        ∀ g ∈ d.fields, g.id = f.id → g.acc ≠ .rw ∧ g.acc ≠ .w1c ∧ g.acc ≠ .w1s) → t.rd f n = s.rd f n) ∧
      ((∃ f ∈ d.fields, f.acc = .pst ∧ f.part (accessMask wide r) ≠ 0) →
        t.rdBit EVT_PEND_PEND (87 % 64) (87 / 64) = true ∧ t.rd PST_PROT_LAST = off % 2 ^ 24 ∧
        t.rd PST_PROT_DROPS = min (s.rd PST_PROT_DROPS + 1) (2 ^ 24 - 1))) := by
  have known := regAt_mem found
  have spare : ∀ f ∈ d.fields, f.acc.writable = true → f.besideProt = true := fields_spare_prot d known
  refine Does.of_access ((access_window reach window wide (some v)).trans (windowAccess_write found aligned fits served present v))
    (writeReg_calm known quiet calm) fun t kept => ⟨fun f mem closing isRw => ?_, fun f mem closing isW1c => ?_,
      fun f n closing other apart => ?_, fun covered => ?_⟩
  · rw [kept.regs f _ closing, writeReg_rd quiet _ closing (spare f mem (by rw [isRw]; rfl)), writeFlds_rd_rw known mem isRw]
  · rw [kept.regs f _ closing, writeReg_rd quiet _ closing (spare f mem (by rw [isW1c]; rfl)), writeFlds_rd_w1c known mem isW1c]
  · rw [kept.regs f n closing, writeReg_rd quiet n closing other]
    refine writeFlds_rd_of (apart.imp_right fun codes g mem same => Bool.eq_false_iff.2 fun writable => ?_) _ _ s
    obtain ⟨notRw, notW1c, notW1s⟩ := codes g mem same
    rcases g.acc.writable_iff.1 writable with isRw | isW1c | isW1s
    · exact notRw isRw
    · exact notW1c isW1c
    · exact notW1s isW1s
  · obtain ⟨pend, last, drops⟩ := writeReg_protected known quiet covered s
    exact ⟨kept.pend 87 pend, (kept.regs _ 0 (by decide)).trans last, (kept.regs _ 0 (by decide)).trans drops⟩

end WindowCommands

/-! Doorbells (R486) and user counter pages (R467, R487). -/

theorem access_bell {h : Head} {s : State} (up : s.routeUp (.head h) = true) (off : Nat) (wide : Bool) (value : Option Nat) :
    access (.bell h off wide value) s = bellAccess h off wide value s := by
  unfold access
  exact if_pos up

theorem access_user {h : Head} {s : State} (up : s.routeUp (.head h) = true) (off : Nat) (wide : Bool) (value : Option Nat) :
    access (.user h off wide value) s = userAccess h off wide value s := by
  unfold access
  exact if_pos up

theorem bellAccess_tail (h : Head) (r : Nat) (wide : Bool) (v : Nat) (s : State) :
    bellAccess h (64 * r) wide (some v) s = doorbell h r (v % 2 ^ 32) s := by
  simp [bellAccess]

theorem bellAccess_head {h : Head} {r : Nat} {g : Ring} {s : State} (ring : s.ring r = some g) (own : g.head = h) :
    bellAccess h (64 * r + 8) false none s = s.emit (.io h g.hd) := by
  have place : (64 * r + 8) % 64 = 8 ∧ (64 * r + 8) / 64 = r := by omega
  simp [bellAccess, place, ring, own]

theorem bell_tail_exec {h : Head} {s : State} (up : s.routeUp (.head h) = true) (wide : Bool) (r v : Nat) :
    exec (.registerWrite (.bell h (64 * r) wide (some v))) s = exec (.doorbellTailWrite h r (v % 2 ^ 32)) s := by
  show execRegisterWrite _ s = execDoorbellTailWrite h r (v % 2 ^ 32) s
  rw [execRegisterWrite, access_bell up, bellAccess_tail]
  exact congrArg (fun tail => Host.Outcome.next (settle (doorbell h r tail s))) (Nat.mod_mod v (2 ^ 32)).symm

theorem bell_head_ends {h : Head} {s : State} (up : s.routeUp (.head h) = true) (calm : s.Calm) {r : Nat} {g : Ring}
    (ring : s.ring r = some g) (own : g.head = h) :
    Ends (.registerWrite (.bell h (64 * r + 8) false none)) s (s.emit (.io h g.hd)) :=
  Ends.of_access ((access_bell up _ _ _).trans (bellAccess_head ring own)) (calm.emit _)

theorem user_write_ends {h : Head} {s : State} (up : s.routeUp (.head h) = true) (calm : s.Calm) (off : Nat) (wide : Bool) (v : Nat) :
    Ends (.registerWrite (.user h off wide (some v))) s s := Ends.of_access (access_user up off wide (some v)) calm

theorem user_read_ends {h : Head} {s : State} (up : s.routeUp (.head h) = true) (calm : s.Calm) {off : Nat} (aligned : off % 8 = 0)
    {v : Nat} (slot : s.userSlot h off = v) : Ends (.registerWrite (.user h off true none)) s (s.emit (.io h v)) := by
  refine Ends.of_access ((access_user up off true none).trans ?_) (calm.emit _)
  have whole : off / 8 * 8 = off := by omega
  simp [userAccess, aligned, whole, slot]

/-- A head sees a counter that is its alone or public, where it may read counters at all. -/
theorem State.userSees_iff (s : State) (h i : Nat) : s.userSees h i = true ↔
    s.rdBit CNT_UREN_UREN h = true ∧ (s.rd CNT_SEL_HFILT i = 2 ^ h ∨ s.rd CNT_SEL_PUBLIC i = 1) := by
  simp [State.userSees, State.rdB]

theorem State.userSlot_live (s : State) (h : Nat) {i : Nat} (small : i < 256) :
    s.userSlot h (8 * i) = if s.userSees h i then s.rd CNT_VAL_VALUE i else 0 := by
  have place : 8 * i < 0x1000 ∧ 8 * i < 0x800 ∧ 8 * i / 8 % 256 = i := by omega
  obtain ⟨page, live, index⟩ := place
  simp only [State.userSlot, if_pos page, if_pos live, index]

theorem State.userSlot_snap (s : State) (h : Nat) {i : Nat} (small : i < 256) :
    s.userSlot h (0x800 + 8 * i) = if s.userSees h i then s.rd CNT_SNAP_VALUE i else 0 := by
  have place : 0x800 + 8 * i < 0x1000 ∧ ¬ 0x800 + 8 * i < 0x800 ∧ (0x800 + 8 * i) / 8 % 256 = i := by omega
  obtain ⟨page, snap, index⟩ := place
  simp only [State.userSlot, if_pos page, if_neg snap, index]

theorem State.userSlot_reserved (s : State) (h n : Nat) : s.userSlot h (0x1018 + 8 * n) = 0 := by
  have place : ¬ 0x1018 + 8 * n < 0x1000 ∧ 0x1018 + 8 * n ≠ 0x1000 ∧ 0x1018 + 8 * n ≠ 0x1008 ∧ 0x1018 + 8 * n ≠ 0x1010 := by omega
  obtain ⟨page, seq, time, freeze⟩ := place
  simp only [State.userSlot, if_neg page, if_neg seq, if_neg time, if_neg freeze]

/-- The user counter pages of a head: live values, snapshots, the snapshot's registers, zero elsewhere (R467). -/
theorem userPages_end {h : Head} {s : State} (up : s.routeUp (.head h) = true) (calm : s.Calm) :
    let user := fun (off v : Nat) => Ends (.registerWrite (.user h off true none)) s (s.emit (.io h v))
    let seen := fun (i : Nat) => s.rdBit CNT_UREN_UREN h = true ∧ (s.rd CNT_SEL_HFILT i = 2 ^ h.val ∨ s.rd CNT_SEL_PUBLIC i = 1)
    (∀ i < 256, (seen i → user (8 * i) (s.rd CNT_VAL_VALUE i) ∧ user (0x800 + 8 * i) (s.rd CNT_SNAP_VALUE i)) ∧
      (¬ seen i → user (8 * i) 0 ∧ user (0x800 + 8 * i) 0)) ∧
    user 0x1000 (s.rd CNT_CTL_SNAPSEQ) ∧ user 0x1008 (s.rd CNT_SNAPTS_TIME) ∧ user 0x1010 (s.rd CNT_CTL_FREEZE) ∧
    ∀ n : Nat, user (0x1018 + 8 * n) 0 := by
  intro user seen
  have slot : ∀ {off v : Nat}, off % 8 = 0 → s.userSlot h off = v → user off v := fun aligned shows => user_read_ends up calm aligned shows
  refine ⟨fun i small => ⟨fun visible => ?_, fun hidden => ?_⟩, slot (by decide) rfl, slot (by decide) rfl, slot (by decide) rfl,
    fun n => slot (by omega) (s.userSlot_reserved h n)⟩
  · have sees := (s.userSees_iff h i).2 visible
    exact ⟨slot (by omega) ((s.userSlot_live h small).trans (if_pos sees)), slot (by omega) ((s.userSlot_snap h small).trans (if_pos sees))⟩
  · have blind : ¬ s.userSees h i = true := fun sees => hidden ((s.userSees_iff h i).1 sees)
    exact ⟨slot (by omega) ((s.userSlot_live h small).trans (if_neg blind)), slot (by omega) ((s.userSlot_snap h small).trans (if_neg blind))⟩

/-! MSI-X (R332). -/

theorem forAll_emit {α : Type} (o : α → Out) (l : List α) (s : State) :
    forAll l (fun x s => s.emit (o x)) s = { s with out := s.out ++ l.map o } := by
  unfold forAll
  induction l generalizing s with
  | nil => simp
  | cons x l ih => exact (ih (s.emit (o x))).trans (by simp [State.emit])

/-- The pending messages of a head whose vectors are masked no more, the oldest first. -/
def State.msixDue (s : State) (h : Nat) : List Nat :=
  s.ports.msixPend.reverse.filter (fun x => x / 128 == h && !(s.msixMasked h (x % 128)))

theorem msixRelease_eq (h : Nat) (s : State) : msixRelease h s =
    { s with ports := { s.ports with msixPend := s.ports.msixPend.filter (fun x => !((s.msixDue h).contains x)) },
             out := s.out ++ (s.msixDue h).map (fun x => .msix h (x % 128)) } :=
  forAll_emit _ _ _

theorem msixRelease_calm (h : Nat) {s : State} (calm : s.Calm) : (msixRelease h s).Calm := by
  rw [msixRelease_eq]
  exact ⟨calm.drain, calm.flush, calm.plan, calm.audit⟩

theorem msixRelease_rd (h : Nat) (s : State) (f : Fld) (n : Nat) : (msixRelease h s).rd f n = s.rd f n := by
  rw [msixRelease_eq]; rfl

theorem msixRelease_word (h : Nat) (s : State) (k w : Nat) : (msixRelease h s).msixWord k w = s.msixWord k w := by
  rw [msixRelease_eq]; rfl

theorem msixRelease_fnMask (h : Nat) (s : State) : (msixRelease h s).ports.fnMask = s.ports.fnMask := by
  rw [msixRelease_eq]

theorem msixRelease_masked (h : Nat) (s : State) (k v : Nat) : (msixRelease h s).msixMasked k v = s.msixMasked k v := by
  rw [msixRelease_eq]; rfl

theorem msixRelease_sends {h vec : Nat} {s : State} (small : vec < 128) (free : s.msixMasked h vec = false)
    (waits : h * 128 + vec ∈ s.ports.msixPend) : Sends s (msixRelease h s) (.msix h vec) := by
  rw [msixRelease_eq]
  have place : (h * 128 + vec) / 128 = h ∧ (h * 128 + vec) % 128 = vec := by omega
  refine ⟨_, rfl, List.mem_map.2 ⟨h * 128 + vec, ?_, by rw [place.2]⟩⟩
  simp [State.msixDue, waits, place, free]

theorem Keeps.msixWord {s t : State} (kept : Keeps s t) (h w : Nat) : t.msixWord h w = s.msixWord h w := by
  unfold State.msixWord; rw [kept.ports]

theorem Keeps.fnMask {s t : State} (kept : Keeps s t) : t.ports.fnMask = s.ports.fnMask := by rw [kept.ports]

theorem Keeps.msixMasked {s t : State} (kept : Keeps s t) (h v : Nat) : t.msixMasked h v = s.msixMasked h v := by
  unfold State.msixMasked; rw [kept.fnMask, kept.msixWord]

theorem msixWrite_word (h w v : Nat) (s : State) (m : Nat) :
    (msixWrite h w v s).msixWord h m = if m = w then v % 2 ^ 32 else s.msixWord h m := by
  rw [msixWrite, msixRelease_word]
  simp only [State.msixWord, Map.get_put, Nat.add_left_cancel_iff]

theorem msixWrite_calm (h w v : Nat) {s : State} (calm : s.Calm) : (msixWrite h w v s).Calm :=
  msixRelease_calm h ⟨calm.drain, calm.flush, calm.plan, calm.audit⟩

theorem msixWrite_rd (h w v : Nat) (s : State) (f : Fld) (n : Nat) : (msixWrite h w v s).rd f n = s.rd f n :=
  msixRelease_rd h _ f n

theorem access_msix {h : Head} {s : State} (up : s.routeUp (.head h) = true) {n : Nat} (table : n < 512) (v : Nat) :
    access (.reg (.head h) (0x20000 + 4 * n) false (some v)) s = msixWrite h n (v % 2 ^ 32) s := by
  have place : ¬ 0x800000 ≤ 0x20000 + 4 * n ∧ ¬ 0x20000 + 4 * n < 0x20000 ∧ 0x20000 + 4 * n < 0x20810 ∧ (0x20000 + 4 * n) % 4 = 0 ∧
      ¬ 512 ≤ n := by omega
  obtain ⟨window, standard, msix, aligned, pba⟩ := place
  have reach : s.reaches (.head h) = true := up
  simp [access, reach, barZero, window, standard, msix, msixAccess, aligned, pba]

theorem msixTable_does {h : Head} {s : State} (up : s.routeUp (.head h) = true) (calm : s.Calm) {n : Nat} (table : n < 512) (v : Nat) :
    Does (.registerWrite (.reg (.head h) (0x20000 + 4 * n) false (some v))) s (fun t =>
      t.msixWord h n = v % 2 ^ 32 ∧ (∀ m, m ≠ n → t.msixWord h m = s.msixWord h m) ∧ RegsKept [] s t) := by
  refine Does.of_access (access_msix up table v) (msixWrite_calm h n _ calm) fun t kept =>
    ⟨?_, fun m other => ?_, fun f i closing _ => (kept.regs f i closing).trans (msixWrite_rd h n _ s f i)⟩
  · rw [kept.msixWord, msixWrite_word, if_pos rfl, Nat.mod_mod]
  · rw [kept.msixWord, msixWrite_word, if_neg other]

/-- A head's function masked or not. -/
def State.maskFn (s : State) (h : Nat) (masked : Bool) : State :=
  { s with ports := { s.ports with fnMask := if masked then s.ports.fnMask ||| headBit h else s.ports.fnMask &&& ~~~(headBit h) } }

theorem State.maskFn_bit (s : State) (h : Head) (masked : Bool) : (s.maskFn h masked).ports.fnMask.getLsbD h = masked := by
  have self : (headBit h).getLsbD h = true := by revert h; decide
  cases masked <;> simp [State.maskFn, self]

theorem access_fnMask {h : Head} {s : State} (up : s.routeUp (.head h) = true) (masked : Bool) :
    access (.fnMask h masked) s = msixRelease h (s.maskFn h masked) := by
  unfold access
  exact if_pos up

theorem fnMask_does {h : Head} {s : State} (up : s.routeUp (.head h) = true) (calm : s.Calm) (masked : Bool) :
    Does (.registerWrite (.fnMask h masked)) s (fun t =>
      t.ports.fnMask.getLsbD h = masked ∧ RegsKept [] s t ∧ ∀ vec < 128, t.msixMasked h vec = false → h * 128 + vec ∈ s.ports.msixPend →
        Sends s t (.msix h vec)) := by
  have calmMasked : (s.maskFn h masked).Calm := ⟨calm.drain, calm.flush, calm.plan, calm.audit⟩
  refine Does.of_access (access_fnMask up masked) (msixRelease_calm h calmMasked) fun t kept =>
    ⟨?_, fun f i closing _ => (kept.regs f i closing).trans (msixRelease_rd h _ f i), fun vec small free waits => ?_⟩
  · rw [kept.fnMask, msixRelease_fnMask, s.maskFn_bit]
  · rw [kept.msixMasked, msixRelease_masked] at free
    exact Sends.after (msixRelease_sends (s := s.maskFn h masked) small free waits) kept.out

/-! A Clerk outside its firewall (R394). -/

theorem outside_ends {s : State} (reach : s.reaches .clerk = true) (calm : s.Calm) (value : Option Nat) :
    Ends (.registerWrite (.outside value)) s (raise 88 (if value.isNone then s.emit (.mgmt 1 [0]) else s)) := by
  cases value with
  | none => exact Ends.of_access (if_pos reach) ((Keeps.raise 88 _).calm (calm.emit _))
  | some v => exact Ends.of_access (if_pos reach) ((Keeps.raise 88 _).calm calm)

/-- Settles O58: each clause is what one kind of access comes to, read off a calm state through the closing work. -/
theorem registerAccessesAct : Obligations.RegisterAccessesAct := by
  intro s calm on told
  refine ⟨fun who reach => ⟨fun read => ?_, fun off wide window => ⟨fun hole => ⟨?_, fun v => ?_⟩, fun d j r found =>
    ⟨fun bad => ⟨?_, fun v => ?_⟩, fun aligned fits served present => ⟨?_, fun v quiet => ?_⟩⟩⟩⟩, fun h w up => ?_, fun reach => ?_⟩
  · cases who <;> exact misalignedAccess_ends reach calm read
  · cases who <;> exact hole_ends reach calm window hole wide none
  · exact hole_ends reach calm window hole wide (some v)
  · cases who <;> exact misplaced_ends reach calm window found bad none
  · exact misplaced_ends reach calm window found bad (some v)
  · cases who <;> exact registerRead_does calm reach window found aligned fits served
  · cases who <;> exact registerWrite_does calm reach window found aligned fits served present v quiet
  · exact ⟨bell_tail_exec up w, fun r g ring own => bell_head_ends up calm ring own, fun off v => user_write_ends up calm off w v,
      userPages_end up calm, fun n v table => msixTable_does up calm table v, fnMask_does up calm⟩
  · exact ⟨outside_ends reach calm none, fun v => outside_ends reach calm (some v)⟩

end Sys2Proof.Machine
end

section
/-! PROOFS. The block as a whole (chapter 01): a cycle with no command waiting (R20, R439), and the way of a filled sheet from its stored
bytes to the front cache (R24, R102, R126, R161). -/
namespace Sys2Proof.Machine

/-! A cycle with no command waiting. -/

/-- While no performance counter runs, a cycle counts named events only. -/
theorem Keeps.cycleCounts (ticks : Nat) {s : State} (idle : s.cnt.live = []) : Keeps s (cycleCounts ticks s) := by
  have named := (Keeps.count 0x000 none 0x1F 1 s).trans (.count 0x001 none 0x1F ticks _)
  unfold Sys2Proof.Machine.cycleCounts
  dsimp only
  generalize Sys2Proof.Machine.count 0x001 none 0x1F ticks _ = u at named ⊢
  have waited := named.trans (.forAll u.home.reqs (fun q s => Sys2Proof.Machine.count 0x140 (some (q.head, clsBit q.cls q.ovd))
    (s.logicalSliceOf q.line) 1 s) (fun q _ s => .count _ _ _ _ s) u)
  rw [waited.cnt, idle]
  exact waited

theorem Keeps.clerkTake (s : State) : Keeps s (clerkTake s) := by
  unfold Sys2Proof.Machine.clerkTake
  split
  · refine Keeps.trans ?_ (.emit _ _)
    exact .evt s _ rfl rfl
  · exact .refl s

theorem resumeOpens_none {s : State} (none_waits : s.cou.opens = []) : resumeOpens s = s := by
  unfold resumeOpens
  rw [none_waits]
  exact ite_self s

theorem tick_calm {s : State} (calm : s.Calm) : (tick s).Calm := ⟨calm.drain, calm.flush, calm.plan, calm.audit⟩

/-- Settles O2: each part of a cycle but the tick only counts or delivers, and the closing work of a calm state does no more. -/
theorem idleStepTicks : Obligations.IdleStepTicks := by
  intro s empty calm opens live
  have delivered : Keeps (tick s) (clerkTake (cycleCounts (ticksBetween s (tick s)) (tick s))) :=
    (Keeps.cycleCounts _ (s := tick s) live).trans (.clerkTake _)
  refine ⟨idle s, step_nil s empty, ?_⟩
  unfold idle
  dsimp only
  rw [resumeOpens_none (by rw [delivered.cou]; exact opens)]
  exact delivered.next (tick_calm calm)

/-! A raw sheet opened. -/

theorem readBytes_length (m : List Host.Cell) (a n : Nat) : (readBytes m a n).length = n := by simp [readBytes]

theorem fit_whole {n : Nat} {b : List Byte} (whole : b.length = n) : fit n b = b := by simp [fit, zeros, ← whole]

/-- A raw sheet takes 256 bytes, packed or in a slot (R57, R135). -/
theorem sheetLen_raw (opq : Bool) : sheetLen opq 8 = 256 := by cases opq <;> rfl

/-- The four lines of 256 bytes. -/
def rawSheet (b : List Byte) : Sheet := (List.range 4).map (fun i => some (bytesLine ((b.drop (64 * i)).take 64)))

theorem rawSheet_line (b : List Byte) {i : Nat} (small : i < 4) :
    (rawSheet b)[i]? = some (some (bytesLine ((b.drop (64 * i)).take 64))) := by simp [rawSheet, small]

theorem decodeForm_raw (b : List Byte) : decodeForm 8 b = some (rawSheet b) := by
  simp [decodeForm, spreadLines, rawSheet, List.range_succ]

theorem decodeSheet_raw (page : Nat) (e : PageEntry) (plain : List Byte) (v : EngEnv) (s : State) :
    decodeSheet page e 8 plain v s = (.sheet (rawSheet plain), s) := by
  unfold decodeSheet
  rw [if_pos rfl, decodeForm_raw]

/-- An engine that does not err passes a right tag, and counts the sheet it opened (R161, R162). -/
theorem tagCheck_right (page n dom : Nat) (e : PageEntry) {v : EngEnv} (sound : v.sealBad = false) (master sl : Nat) (merge : Bool) (s : State) :
    tagCheck page n dom e true v master sl merge s = (true, s.bump MIL_SEAL_ENG_OPEN 1 (s.engine true v.sealEng)) := by
  simp [tagCheck, sound]

theorem State.bump_stopped (s : State) {f : Fld} (n i : Nat) (other : MOD_STATE_STATE.id ≠ f.id) : (s.bump f n i).stopped = s.stopped := by
  unfold State.stopped State.modeCode
  rw [State.rd_bump_ne _ _ _ _ _ _ other]
  rfl

/-- What is asked of a stored sheet so that it opens: it is raw and can be read, its domain has a key, its tag is right, and the device runs. -/
structure Opens (s : State) (page n : Nat) (e : PageEntry) (r : Region) (key : KeySlot) : Prop where
  runs : s.stopped = false
  region : s.pageRegion page = some r
  run : e.run ≠ 0
  raw : e.code n = 8
  ok : s.sheetOk r.opq e n = true
  keyed : s.keys.slots.find r.keydom = some key
  tag : s.tagSlot e n = sheetTag key page n r.keydom 8 e.gen (s.sheetBytes r.opq e n)

/-- The bytes that a raw sheet decrypts to (R151). -/
def State.rawBytes (s : State) (page n : Nat) (e : PageEntry) (r : Region) (key : KeySlot) : List Byte :=
  (xtsDec key page n (s.sheetBytes r.opq e n)).take 256

/-- A raw sheet opens to its bytes, and the engine that took it counts it. -/
theorem Opens.openSheet {s : State} {page n : Nat} {e : PageEntry} {r : Region} {key : KeySlot} (o : Opens s page n e r key) {v : EngEnv}
    (sound : v.sealBad = false) (unaltered : v.altered = none) (master sl : Nat) (merge : Bool) :
    openSheet page n e v master sl merge s =
      (.sheet (rawSheet (s.rawBytes page n e r key)), s.bump MIL_SEAL_ENG_OPEN 1 (s.engine true v.sealEng)) := by
  have whole : fit 256 (s.sheetBytes r.opq e n) = s.sheetBytes r.opq e n :=
    fit_whole (by rw [State.sheetBytes, readBytes_length, o.raw, sheetLen_raw])
  have readable := o.ok
  simp only [State.sheetOk, State.headerOk, o.raw, sheetLen_raw, Bool.and_eq_true, Bool.not_eq_true'] at readable
  obtain ⟨⟨⟨_, headReach⟩, _⟩, reach⟩ := readable
  unfold Sys2Proof.Machine.openSheet
  simp [o.raw, o.run, o.region, o.keyed, sheetLen_raw, headReach, reach, o.ok, unaltered, whole, o.tag, tagCheck_right _ _ _ _ sound,
    State.rawBytes, State.bump_stopped, o.runs, decodeSheet_raw, codeBytes, (by decide : MOD_STATE_STATE.id ≠ MIL_SEAL_ENG_OPEN.id)]

/-! The lines of a sheet installed. -/

/-- The record of a line that a fill installs (R102): clean, whole, with the owner and class of the fill. -/
def filledLine (r : Region) (f : Fill) (clock line : Nat) (d : Line) : FcLine :=
  ⟨line, false, decide (r.typ = 1), false, 0, false, f.head, f.cls, fullMask, d, clock⟩

/-- A line that a fill has to install: neither the front cache nor the write-back buffer holds it, its backing location is not poisoned, and
a way was chosen for it. -/
structure Vacant (s : State) (f : Fill) (line way : Nat) : Prop where
  cache : s.fcFind line = none
  buffer : s.wbLine line = none
  sound : s.mem.backPoison.contains line = false
  chosen : f.ways.find? (fun k => slotSetKey k % 4096 == fcSet line) = some way

theorem Vacant.fillLine {s : State} {f : Fill} {line way : Nat} (vacant : Vacant s f line way) (r : Region) (d : Line) :
    fillLine r line (some d) f.head f.cls (some way) s = install way (filledLine r f s.fc.clock line d) s := by
  unfold Sys2Proof.Machine.fillLine
  simp [vacant.cache, vacant.buffer, filledLine]

theorem install_find (k : Nat) (x : FcLine) (s : State) (j : Nat) :
    (install k x s).fc.lines.find j = if j = k then some x else s.fc.lines.find j := Map.find_put _ _ _ _

/-- A line put in a place leaves another line vacant. -/
theorem Vacant.install {s : State} {f : Fill} {line way : Nat} (vacant : Vacant s f line way) (k : Nat) {x : FcLine} (other : x.line ≠ line) :
    Vacant (install k x s) f line way where
  cache := by
    refine List.find?_eq_none.2 (fun j place => ?_)
    have before := List.find?_eq_none.1 vacant.cache j place
    rw [install_find]
    by_cases same : j = k
    · simpa [same] using other
    · simpa only [if_neg same] using before
  buffer := vacant.buffer
  sound := vacant.sound
  chosen := vacant.chosen

/-- A state with other records and another order of use in its front cache. -/
def State.recache (s : State) (lines : Map FcLine) (plru : Map Nat) : State := { s with fc := { s.fc with lines := lines, plru := plru } }

theorem State.Calm.recache {s : State} (calm : s.Calm) (lines : Map FcLine) (plru : Map Nat) : (s.recache lines plru).Calm :=
  ⟨calm.drain, calm.flush, calm.plan, calm.audit⟩

section Placed
variable (record : Nat → FcLine) (way : Nat → Nat)

/-- Lines put one after another in the places chosen for them. -/
def placeLines (ls : List Nat) (s : State) : State := forAll ls (fun l s => install (way l) (record l) s) s

/-- Only the front cache's records and its order of use change. -/
theorem placeLines_eq (ls : List Nat) (s : State) : ∃ lines plru,
    placeLines record way ls s = s.recache lines plru := by
  induction ls generalizing s with
  | nil => exact ⟨_, _, rfl⟩
  | cons l ls ih => exact ih (install (way l) (record l) s)

theorem placeLines_find_of {ls : List Nat} {k : Nat} (apart : ∀ l ∈ ls, way l ≠ k) (s : State) :
    (placeLines record way ls s).fc.lines.find k = s.fc.lines.find k := by
  induction ls generalizing s with
  | nil => rfl
  | cons l ls ih =>
    calc (placeLines record way ls (install (way l) (record l) s)).fc.lines.find k
        = (install (way l) (record l) s).fc.lines.find k := ih (fun m mem => apart m (List.mem_cons_of_mem _ mem)) _
      _ = s.fc.lines.find k := (install_find _ _ _ _).trans (if_neg (apart l List.mem_cons_self).symm)

/-- In places that are all different each line stands where it was put. -/
theorem placeLines_find {ls : List Nat} (apart : ∀ a ∈ ls, ∀ b ∈ ls, way a = way b → a = b) {l : Nat} (mem : l ∈ ls) (s : State) :
    (placeLines record way ls s).fc.lines.find (way l) = some (record l) := by
  induction ls generalizing s with
  | nil => cases mem
  | cons m ls ih =>
    by_cases later : l ∈ ls
    · exact ih (fun a ha b hb => apart a (List.mem_cons_of_mem _ ha) b (List.mem_cons_of_mem _ hb)) later _
    · obtain rfl : l = m := (List.mem_cons.1 mem).resolve_right later
      calc (placeLines record way ls (install (way l) (record l) s)).fc.lines.find (way l)
          = (install (way l) (record l) s).fc.lines.find (way l) :=
            placeLines_find_of record way (fun a ha same =>
              later (apart a (List.mem_cons_of_mem _ ha) l List.mem_cons_self same ▸ ha)) _
        _ = some (record l) := (install_find _ _ _ _).trans (if_pos rfl)

end Placed

theorem sheetLines_nodup (sheet : Nat) : (sheetLines sheet).Nodup := by simp [sheetLines]

theorem mem_sheetLines {sheet l : Nat} : l ∈ sheetLines sheet ↔ ∃ i < 4, l = 4 * sheet + i := by
  simp only [sheetLines, List.mem_cons, List.not_mem_nil, or_false]
  constructor
  · rintro (rfl | rfl | rfl | rfl)
    · exact ⟨0, by decide, rfl⟩
    · exact ⟨1, by decide, rfl⟩
    · exact ⟨2, by decide, rfl⟩
    · exact ⟨3, by decide, rfl⟩
  · rintro ⟨i, small, rfl⟩
    omega

/-- The record that the fill of a raw sheet gives a line. -/
def rawRecord (r : Region) (f : Fill) (clock : Nat) (b : List Byte) (line : Nat) : FcLine :=
  filledLine r f clock line (bytesLine ((b.drop (64 * (line % 4))).take 64))

/-- A raw sheet all of whose lines are vacant is put whole into the ways chosen for it. -/
theorem installSheet_vacant {s : State} {f : Fill} {way : Nat → Nat} (vacant : ∀ l ∈ sheetLines f.sheet, Vacant s f l (way l)) (r : Region)
    (b : List Byte) :
    installSheet r f (rawSheet b) s = placeLines (rawRecord r f s.fc.clock b) way (sheetLines f.sheet) s := by
  unfold installSheet placeLines forAll
  have distinct := sheetLines_nodup f.sheet
  generalize sheetLines f.sheet = ls at *
  induction ls generalizing s with
  | nil => rfl
  | cons l ls ih =>
    obtain ⟨new, distinct⟩ := List.nodup_cons.1 distinct
    have here := vacant l List.mem_cons_self
    have first : fillLine r l (if s.mem.backPoison.contains l then none else ((rawSheet b)[l % 4]?).getD none) f.head f.cls
        (f.ways.find? (fun k => slotSetKey k % 4096 == fcSet l)) s = install (way l) (rawRecord r f s.fc.clock b l) s := by
      rw [here.sound, here.chosen, rawSheet_line b (Nat.mod_lt l (by decide))]
      exact here.fillLine r _
    dsimp only [List.foldl_cons] at ih ⊢
    rw [first]
    exact ih (fun m mem => (vacant m (List.mem_cons_of_mem _ mem)).install _ (fun same => new ((show l = m from same) ▸ mem))) distinct

/-! What a fill reports: the heat of its page (R187, R189), and parcels that no fill reads any longer (R172). -/

/-- A state is another but for the counters of parcels, their states, the heat and the promotion queue. -/
structure Reports (s t : State) : Prop where
  regs : ∀ (f : Fld) (i : Nat), f.id ≠ TIE_STAT2_QDROP.id → t.rd f i = s.rd f i
  mem : t.mem = s.mem
  home : t.home = s.home
  fc : t.fc = s.fc
  mode : t.mode = s.mode
  walk : t.cap.auditWalk = s.cap.auditWalk

theorem Reports.trans {a b c : State} (h : Reports a b) (k : Reports b c) : Reports a c :=
  ⟨fun f i e => (k.regs f i e).trans (h.regs f i e), k.mem.trans h.mem, k.home.trans h.home, k.fc.trans h.fc,
    k.mode.trans h.mode, k.walk.trans h.walk⟩

theorem Reports.cap (s : State) {c : Cap} (walk : c.auditWalk = s.cap.auditWalk) : Reports s { s with cap := c } :=
  ⟨fun _ _ _ => rfl, rfl, rfl, rfl, rfl, walk⟩

theorem Reports.refl (s : State) : Reports s s := .cap s rfl

theorem Reports.queueDrop (s : State) : Reports s (s.bump TIE_STAT2_QDROP 1) :=
  ⟨fun _ _ other => State.rd_bump_ne _ _ _ _ _ _ other, rfl, rfl, rfl, rfl, rfl⟩

theorem Reports.forAll {α : Type} {f : α → State → State} (each : ∀ a s, Reports s (f a s)) (l : List α) (s : State) :
    Reports s (Sys2Proof.Machine.forAll l f s) := by
  induction l generalizing s with
  | nil => exact .refl s
  | cons a l ih => exact (each a s).trans (ih (f a s))

theorem Reports.ite {p : Prop} [Decidable p] {s a b : State} (h : Reports s a) (k : Reports s b) : Reports s (if p then a else b) := by
  split <;> assumption

theorem Reports.heatAdd (page : Nat) (s : State) : Reports s (heatAdd page s) := by
  unfold Sys2Proof.Machine.heatAdd
  split <;> exact .cap s rfl

theorem Reports.queuePromotion (page : Nat) (s : State) : Reports s (queuePromotion page s) := by
  unfold Sys2Proof.Machine.queuePromotion
  dsimp only
  exact .ite (.refl s) (.ite (.cap s rfl) (.queueDrop s))

theorem Reports.heatReport (sl page : Nat) (s : State) : Reports s (heatReport sl page s) := by
  unfold Sys2Proof.Machine.heatReport
  dsimp only
  split
  · exact .refl s
  · split
    · exact .cap s rfl
    · refine Reports.trans ?_ (.queuePromotion page _)
      refine Reports.trans ?_ (.heatAdd page _)
      exact .cap s rfl

theorem Reports.moveCount (media : Bool) (a b : PState) (n : Nat) (s : State) : Reports s (moveCount media a b n s) := by
  unfold Sys2Proof.Machine.moveCount
  split <;> exact .cap s rfl

theorem Reports.setPState (p : Nat) (k : PState) (s : State) : Reports s (setPState p k s) := .cap s rfl

theorem Reports.refillReserve (s : State) : Reports s (refillReserve s) := by
  unfold Sys2Proof.Machine.refillReserve
  split
  · exact (Reports.moveCount false .free .reserved 1 s).trans (.cap _ rfl)
  · exact .refl s

theorem Reports.staleToFree (p : Nat) (s : State) : Reports s (staleToFree p s) := by
  unfold Sys2Proof.Machine.staleToFree
  split
  · exact .refl s
  · exact ((Reports.moveCount false .stale .free 1 s).trans (.setPState p .free _)).trans (.refillReserve _)

theorem Reports.freeRead (e : PageEntry) (s : State) : Reports s (freeRead e s) :=
  .forAll (fun p s => by
    split
    · exact .staleToFree p s
    · exact .refl s) _ s

theorem Reports.calm {s t : State} (h : Reports s t) (calm : s.Calm) : t.Calm := by
  have mode : t.modeCode = s.modeCode := h.regs _ _ (by decide)
  refine ⟨?_, ?_, ?_, ?_⟩
  · rw [h.mode]; exact calm.drain
  · unfold State.rdB; rw [h.regs _ _ (by decide)]; exact calm.flush
  · rw [h.mode]; exact calm.plan
  · rw [h.walk, State.serving, mode, h.mode]; exact calm.audit

/-! The fill of a sheet done. -/

/-- The fills under way without those of a sheet. -/
def endFill (sheet : Nat) (s : State) : State :=
  { s with fc := { s.fc with fills := s.fc.fills.filter (fun g => g.sheet ≠ sheet) } }

theorem resumeFill_none {sheet : Nat} {s : State} (none_waits : ∀ q ∈ s.home.reqs, lineSheet q.line ≠ sheet) : resumeFill sheet s = s := by
  unfold resumeFill
  rw [List.filter_eq_nil_iff.2 (fun q mem => by simp [none_waits q mem])]
  rfl

theorem mopFilled_none {s : State} (none_runs : s.fc.mops = []) (sheet : Nat) : mopFilled sheet s = s := by
  unfold mopFilled
  rw [none_runs]
  rfl

/-- A fill whose sheet opens ends with its lines installed and its page's heat reported. -/
theorem fillDone_opened {s u : State} {sheet : Nat} {v : EngEnv} {f : Fill} {r : Region} {sh : Sheet}
    (found : s.fc.fills.find? (fun f => f.sheet == sheet) = some f) (region : s.pageRegion (sheetPage sheet) = some r)
    (runs : s.stopped = false) (still : ∀ w ∈ s.work, w.page ≠ sheetPage sheet)
    (opened : ∀ sl merge, openSheet (sheetPage sheet) (sheet % 16) (fillEntry s f) v 0 sl merge s = (.sheet sh, u)) :
    fillDone sheet v s = freeRead (fillEntry s f)
      (heatReport (physSlice s (logicalSlice s (sheetPage sheet))) (sheetPage sheet)
        (mopFilled sheet (resumeFill sheet (installSheet r f sh (endFill sheet u))))) := by
  have unlocked : s.work.any (fun w => w.page == sheetPage sheet && w.inPlace) = false :=
    List.any_eq_false.2 (fun w mem => by simp [still w mem])
  unfold fillDone
  simp only [found, region, runs, unlocked, opened, Bool.or_self, Bool.false_eq_true, if_false]
  rfl

/-- The state in which the lines of an opened sheet are installed: the sheet is counted (R161) and its fill is over. -/
def openedFill (sheet : Nat) (v : EngEnv) (s : State) : State :=
  endFill sheet (s.bump MIL_SEAL_ENG_OPEN 1 (s.engine true v.sealEng))

theorem openedFill_sees (sheet : Nat) (v : EngEnv) (s : State) : Sees s (openedFill sheet v s) :=
  ⟨rfl, (Sees.wr s MIL_SEAL_ENG_OPEN _ (s.engine true v.sealEng) (by decide)).regs, fun _ _ => rfl⟩

theorem Vacant.openedFill {s : State} {f : Fill} {line way : Nat} (vacant : Vacant s f line way) (sheet : Nat) (v : EngEnv) :
    Vacant (openedFill sheet v s) f line way :=
  ⟨((openedFill_sees sheet v s).fcFind rfl line).trans vacant.cache, vacant.buffer, vacant.sound, vacant.chosen⟩

theorem openedFill_calm (sheet : Nat) (v : EngEnv) {s : State} (calm : s.Calm) : (openedFill sheet v s).Calm :=
  (openedFill_sees sheet v s).calm rfl rfl calm

/-- A fill whose raw sheet opens, whose lines are all vacant and for which nothing waits leaves, but for its reports, each line in its way. -/
theorem fillDone_raw {s : State} {v : EngEnv} {f : Fill} {r : Region} {key : KeySlot} {way : Nat → Nat}
    (opens : Opens s (sheetPage f.sheet) (f.sheet % 16) (fillEntry s f) r key) (sound : v.sealBad = false) (unaltered : v.altered = none)
    (found : s.fc.fills.find? (fun g => g.sheet == f.sheet) = some f) (still : ∀ w ∈ s.work, w.page ≠ sheetPage f.sheet)
    (none_waits : ∀ q ∈ s.home.reqs, lineSheet q.line ≠ f.sheet) (none_runs : s.fc.mops = [])
    (vacant : ∀ l ∈ sheetLines f.sheet, Vacant s f l (way l))
    (apart : ∀ a ∈ sheetLines f.sheet, ∀ b ∈ sheetLines f.sheet, way a = way b → a = b) :
    ∃ lines plru, Reports ((openedFill f.sheet v s).recache lines plru) (fillDone f.sheet v s) ∧
      ∀ l ∈ sheetLines f.sheet, lines.find (way l) =
        some (rawRecord r f s.fc.clock (s.rawBytes (sheetPage f.sheet) (f.sheet % 16) (fillEntry s f) r key) l) := by
  have done := fillDone_opened found opens.region opens.runs still (fun _ merge => opens.openSheet sound unaltered 0 _ merge)
  generalize s.rawBytes (sheetPage f.sheet) (f.sheet % 16) (fillEntry s f) r key = plain at done ⊢
  obtain ⟨lines, plru, placed⟩ := placeLines_eq (rawRecord r f s.fc.clock plain) way (sheetLines f.sheet) (openedFill f.sheet v s)
  have installed : installSheet r f (rawSheet plain) (openedFill f.sheet v s) = (openedFill f.sheet v s).recache lines plru :=
    (installSheet_vacant (fun l mem => (vacant l mem).openedFill f.sheet v) r plain).trans placed
  have left := calc fillDone f.sheet v s
    _ = freeRead (fillEntry s f) (heatReport (physSlice s (logicalSlice s (sheetPage f.sheet))) (sheetPage f.sheet)
          (mopFilled f.sheet (resumeFill f.sheet (installSheet r f (rawSheet plain) (openedFill f.sheet v s))))) := done
    _ = freeRead (fillEntry s f) (heatReport (physSlice s (logicalSlice s (sheetPage f.sheet))) (sheetPage f.sheet)
          ((openedFill f.sheet v s).recache lines plru)) := by
        rw [installed, resumeFill_none (s := (openedFill f.sheet v s).recache lines plru) none_waits,
          mopFilled_none (s := (openedFill f.sheet v s).recache lines plru) none_runs]
  refine ⟨lines, plru, ?_, fun l mem => ?_⟩
  · rw [left]
    exact (Reports.heatReport _ _ _).trans (.freeRead _ _)
  · have stands := placeLines_find (rawRecord r f s.fc.clock plain) way apart mem (openedFill f.sheet v s)
    rw [placed] at stands
    exact stands

/-- Settles O25: the fill is over once its sheet opens, and neither its reports nor the closing work touch the lines it installed. -/
theorem sheetFillInstalls : Obligations.SheetFillInstalls := by
  intro s sheet v f r key way calm runs held mops found own region still idle sound _ unaltered
  dsimp only
  intro run raw ok keyed tag lines apart
  subst own
  have vacant : ∀ l ∈ sheetLines f.sheet, Vacant s f l (way l) := fun l mem => by
    obtain ⟨cache, buffer, sound, chosen⟩ := lines l mem
    exact ⟨cache, buffer, sound, chosen⟩
  obtain ⟨cached, plru, reports, stand⟩ := fillDone_raw ⟨runs, region, run, raw, ok, keyed, tag⟩ sound unaltered found still idle mops
    vacant apart
  obtain ⟨t, ran, kept⟩ : Ends (.sheetFillComplete f.sheet v) s (fillDone f.sheet v s) := by
    refine Ends.of (congrArg (fun x => Host.Outcome.next (settle x)) (releaseHeld_nil _ ?_))
      (reports.calm ((openedFill_calm f.sheet v calm).recache _ _))
    rw [reports.home]
    exact held
  have fc := kept.fc.trans reports.fc
  refine ⟨t, ran, ?_, ?_, ?_, ?_, ?_, ?_, ?_⟩
  · rw [fc]
    intro g mem
    simpa using List.of_mem_filter mem
  · intro i small
    rw [fc]
    refine (stand _ (mem_sheetLines.2 ⟨i, small, rfl⟩)).trans ?_
    rw [rawRecord, Nat.mul_add_mod, Nat.mod_eq_of_lt small]
    rfl
  · rw [kept.regs _ _ (by decide), reports.regs _ _ (by decide)]
    exact s.rd_bump_same _ _ _
  · rw [kept.mem, reports.mem]; rfl
  · rw [kept.mem, reports.mem]; rfl
  · exact kept.home.trans reports.home
  · intro g i closing except
    simp only [List.map_cons, List.map_nil, List.contains_cons, List.contains_nil, Bool.or_false, Bool.or_eq_false_iff,
      beq_eq_false_iff_ne] at except
    obtain ⟨counted, dropped⟩ := except
    rw [kept.regs g i closing, reports.regs g i dropped]
    exact s.rd_bump_ne _ _ _ _ _ counted

end Sys2Proof.Machine
end

section
/-! PROOFS. The address model (chapter 02): stored bytes (R9, R56), requests outside a head's view (R48, R333), Dynamic Capacity as it is
offered, accepted, asked for and listed (R50 to R54, R180, R469, R472). -/
namespace Sys2Proof

/-- A value that stays listed reads as what it was changed to. -/
theorem Map.find_filterMap {α : Type} {f : α → α} {drop : α → Bool} {k : Nat} {v : α} (stays : drop (f v) = false) {m : Map α}
    (found : m.find k = some v) : Map.find (m.filterMap (fun x => if drop (f x.2) then none else some (x.1, f x.2))) k = some (f v) := by
  induction m with
  | nil => cases found
  | cons x m ih =>
    obtain ⟨a, w⟩ := x
    rw [Map.find] at found
    split at found
    · rename_i here
      cases found
      simp [stays, Map.find, here]
    · rename_i other
      by_cases gone : drop (f w) = true
      · simpa [gone] using ih found
      · simpa [gone, Map.find, other] using ih found

namespace Machine

/-! Stored bytes (R9, R56). -/

/-- Settles O7: the byte store's laws, for the canonical form, for the bytes written and for those outside. -/
theorem storeReadsBack : Obligations.StoreReadsBack := fun m a l =>
  ⟨fun canonical => Memory.wf_writeBytes canonical a l, readByte_writeBytes_in m a l, readByte_writeBytes_out m a l⟩

/-! The answer without state (R48). -/

theorem Keeps.answerPlain (h haddr : Nat) (read : Bool) (s : State) : Keeps s (answerPlain h haddr read s) := by
  cases read with
  | false => exact .emit s _
  | true => exact (Keeps.emit s _).trans (.emit _ _)

theorem answerPlain_completes (h haddr : Nat) (read : Bool) (s : State) : Sends s (answerPlain h haddr read s) (.ndr h haddr .cmp 0) := by
  cases read with
  | false => exact Sends.emit s _
  | true => exact (Sends.emit (s.emit _) _).before ⟨_, rfl⟩

theorem answerPlain_poisons (h haddr : Nat) (s : State) :
    Sends s (answerPlain h haddr true s) (.memData h haddr 0 true .invalid 0) :=
  (Sends.emit s _).after ⟨_, rfl⟩

/-- A request outside the view is counted; its event is only delivered. -/
theorem Keeps.outOfView (h : Nat) (s : State) : Keeps (s.bump HPT_ERR2_OUTVIEW 1 h) (outOfView h s) := .raiseLimited _ _ _

theorem noteActivity_calm {s : State} (calm : s.Calm) : (noteActivity s).Calm := ⟨calm.drain, calm.flush, calm.plan, calm.audit⟩

section OutsideView
variable {s : State} {h : Head} {haddr : Nat} {k : ReqKind} (gate : s.gate h k haddr = .outside)
include gate

theorem arrive_outside (mv : Meta) (d : Line) (m : Mask) (p : Bool) :
    arrive h k haddr mv d m p s = answerPlain h haddr k.isRead (outOfView h (noteActivity s)) := by
  unfold arrive
  rw [gate]

/-- A message that arrives outside the view ends in its answer, with nothing held to go on. -/
theorem arriveOutside_ends (calm : s.Calm) (none_held : s.home.held = []) {c : Instr} {mv : Meta} {d : Line} {m : Mask} {p : Bool}
    (run : exec c s = .next (settle (releaseHeld (arrive h k haddr mv d m p (addUpsets [] s))))) :
    Ends c s (answerPlain h haddr k.isRead (outOfView h (noteActivity s))) := by
  have counted := Keeps.outOfView h (noteActivity s)
  have answered := counted.trans (.answerPlain h haddr k.isRead _)
  rw [addUpsets_nil, arrive_outside gate, releaseHeld_nil _ (by rw [answered.home]; exact none_held)] at run
  exact .of run (answered.calm ((noteActivity_calm calm).bump HPT_ERR2_OUTVIEW 1 h (by decide) (by decide)))

end OutsideView

/-- Settles O13: whatever the message, it ends in the plain answer, which changes nothing but the count of the head's OUTVIEW. -/
theorem outsideViewAnsweredPlain : Obligations.OutsideViewAnsweredPlain := by
  intro s h haddr k c calm none_held gate message
  obtain ⟨mv, d, m, p, run⟩ : ∃ mv d m p, exec c s = .next (settle (releaseHeld (arrive h k haddr mv d m p (addUpsets [] s)))) := by
    rcases message with ⟨rfl, mv, rfl⟩ | ⟨rfl, rfl⟩ | ⟨rfl, mv, rfl | rfl⟩ | ⟨rfl, rfl⟩ | ⟨rfl, mv, d, p, rfl⟩ | ⟨rfl, mv, d, m, p, rfl⟩
    all_goals exact ⟨_, _, _, _, rfl⟩
  obtain ⟨t, ran, closed⟩ := arriveOutside_ends gate calm none_held run
  have counted := Keeps.outOfView h (noteActivity s)
  have kept := (counted.trans (.answerPlain h haddr k.isRead _)).trans closed
  refine ⟨t, ran, fun read => ?_, ?_, ?_, kept.home, kept.fc, by rw [kept.mem]; rfl, by rw [kept.mem]; rfl, fun f i closing other => ?_⟩
  · rw [read] at closed
    exact ((answerPlain_poisons h haddr _).before counted.out).after closed.out
  · exact ((answerPlain_completes h haddr _ _).before counted.out).after closed.out
  · exact (kept.regs _ _ (by decide)).trans (State.rd_bump_same _ _ _ _)
  · have apart : f.id ≠ HPT_ERR2_OUTVIEW.id := by simpa using other
    exact (kept.regs f i closing).trans (State.rd_bump_ne _ _ _ _ _ _ apart)

/-! A mailbox that the Clerks serve runs its command. -/

theorem Attends.mailbox {s : State} {rt : Route} (served : Attends s rt) (f : State → State) : mailbox rt f s = f s := by
  obtain ⟨⟨on, link⟩, running, cores⟩ := served
  have up : s.routeUp rt = true := by
    cases rt with
    | mgmt => simp [State.routeUp, on]
    | head h => simpa [State.routeUp, on, or_assoc] using link h rfl
  simp [Sys2Proof.Machine.mailbox, up, running, cores]

theorem Attends.mboxMgmt {s : State} (served : Attends s .mgmt) (f : State → State) : mboxMgmt .mgmt f s = f s := served.mailbox _

theorem Attends.mboxHead {s : State} {h : Head} (served : Attends s (.head h)) (f : Nat → State → State) :
    mboxHead (.head h) f s = f h s := served.mailbox _

/-- A command whose work is known ends in it where it leaves a calm state. -/
theorem Ends.of_eq {c : Instr} {s x y : State} (run : exec c s = .next (settle y)) (work : y = x) (calm : x.Calm) : Ends c s x :=
  .of (work ▸ run) calm

/-! Operations folded over numbers that are all different. -/

/-- Where each operation changes what is seen at its own number alone, the fold changes each number listed once. -/
theorem forAll_own {β : Type} {seen : State → Nat → β} {φ : β → β} {f : Nat → State → State}
    (own : ∀ a u b, seen (f a u) b = if b = a then φ (seen u b) else seen u b) {l : List Nat} (nodup : l.Nodup) (s : State) (b : Nat) :
    seen (forAll l f s) b = if b ∈ l then φ (seen s b) else seen s b := by
  unfold forAll
  induction l generalizing s with
  | nil => simp
  | cons a l ih =>
    obtain ⟨fresh, nodup⟩ := List.nodup_cons.1 nodup
    rw [List.foldl_cons, ih nodup, own]
    by_cases first : b = a
    · subst first
      simp [fresh]
    · simp [first]

/-- The heads of a set, ascending. -/
def headList (m : Heads) : List Nat := (List.range 16).filter (fun h => m.getLsbD h)

theorem mem_headList {m : Heads} {h : Head} : h.val ∈ headList m ↔ m.getLsbD h = true := by simp [headList]

theorem headList_nodup (m : Heads) : (headList m).Nodup := List.nodup_range.filter _

theorem forHeads_eq (m : Heads) (f : Nat → State → State) (s : State) : forHeads m f s = forAll (headList m) f s := by
  unfold forHeads forAll headList
  rw [List.foldl_filter]

/-- What every operation leaves, the fold over a set of heads leaves. -/
theorem forHeads_kept {β : Type} {seen : State → β} {f : Nat → State → State} (each : ∀ h s, seen (f h s) = seen s) (m : Heads) (s : State) :
    seen (forHeads m f s) = seen s := by
  rw [forHeads_eq]
  exact List.foldlRecOn _ _ (motive := fun t => seen t = seen s) rfl fun t kept h _ => (each h t).trans kept

/-! What the flow of Dynamic Capacity changes: extents, the logs of the heads, RELREQ, messages. -/

/-- A state is another but for its extents, the Dynamic Capacity logs, the registers named and messages added. -/
structure DcOnly (except : List Fld) (s t : State) : Prop where
  regs : ∀ (f : Fld) (i : Nat), (except.map Fld.id).contains f.id = false → t.rd f i = s.rd f i
  mem : t.mem = { s.mem with extents := t.mem.extents }
  home : t.home = s.home
  fc : t.fc = s.fc
  keys : t.keys = s.keys
  cap : t.cap = s.cap
  mode : t.mode = s.mode
  out : ∃ l, t.out = s.out ++ l

section DcOnly
variable {except : List Fld}

theorem DcOnly.refl (s : State) : DcOnly except s s := ⟨fun _ _ _ => rfl, rfl, rfl, rfl, rfl, rfl, rfl, [], by simp⟩

theorem DcOnly.trans {a b c : State} (h : DcOnly except a b) (k : DcOnly except b c) : DcOnly except a c where
  regs f i e := (k.regs f i e).trans (h.regs f i e)
  mem := by rw [k.mem, h.mem]
  home := k.home.trans h.home
  fc := k.fc.trans h.fc
  keys := k.keys.trans h.keys
  cap := k.cap.trans h.cap
  mode := k.mode.trans h.mode
  out := by
    obtain ⟨l, hl⟩ := h.out
    obtain ⟨m, hm⟩ := k.out
    exact ⟨l ++ m, by rw [hm, hl, List.append_assoc]⟩

theorem DcOnly.forAll {f : Nat → State → State} (each : ∀ a s, DcOnly except s (f a s)) (l : List Nat) (s : State) :
    DcOnly except s (Sys2Proof.Machine.forAll l f s) :=
  List.foldlRecOn l _ (motive := DcOnly except s) (.refl s) fun t only a _ => only.trans (each a t)

theorem DcOnly.forHeads {f : Nat → State → State} (each : ∀ h s, DcOnly except s (f h s)) (m : Heads) (s : State) :
    DcOnly except s (Sys2Proof.Machine.forHeads m f s) := by
  rw [forHeads_eq]
  exact .forAll each _ s

theorem DcOnly.extents (s : State) (m : Map Extent) : DcOnly except s { s with mem := { s.mem with extents := m } } :=
  ⟨fun _ _ _ => rfl, rfl, rfl, rfl, rfl, rfl, rfl, [], by simp⟩

theorem DcOnly.emit (s : State) (o : Out) : DcOnly except s (s.emit o) :=
  ⟨fun _ _ _ => rfl, rfl, rfl, rfl, rfl, rfl, rfl, [o], rfl⟩

theorem DcOnly.dcSend (h kind : Nat) (exts : List Nat) (s : State) : DcOnly except s (dcSend h kind exts s) := by
  unfold Sys2Proof.Machine.dcSend
  split
  · exact .refl s
  · exact ⟨fun _ _ _ => rfl, rfl, rfl, rfl, rfl, rfl, rfl, [_], rfl⟩

theorem DcOnly.bump (s : State) (f : Fld) (n i : Nat) : DcOnly [f] s (s.bump f n i) :=
  ⟨fun _ _ other => State.rd_bump_ne _ _ _ _ _ _ (by simpa using other), rfl, rfl, rfl, rfl, rfl, rfl, [], by simp⟩

theorem DcOnly.calm {s t : State} (only : DcOnly except s t) (flush : (except.map Fld.id).contains TLR_STAT_ACTIVE.id = false)
    (state : (except.map Fld.id).contains MOD_STATE_STATE.id = false) (calm : s.Calm) : t.Calm := by
  have mode : t.modeCode = s.modeCode := only.regs _ _ state
  have serving : t.serving = s.serving := by rw [State.serving, State.serving, mode, only.mode]
  refine ⟨?_, ?_, ?_, ?_⟩
  · rw [only.mode]; exact calm.drain
  · rw [State.rdB, only.regs _ _ flush]; exact calm.flush
  · rw [only.mode]; exact calm.plan
  · rw [only.cap, serving]; exact calm.audit

end DcOnly

/-- Pages, stored bytes, the home, the front cache and the keys stand. -/
def DataKept (s t : State) : Prop :=
  t.mem.pages = s.mem.pages ∧ t.mem.store = s.mem.store ∧ t.home = s.home ∧ t.fc = s.fc ∧ t.keys = s.keys

section Closing
variable {except : List Fld} {s x t : State} (only : DcOnly except s x) (kept : Keeps x t)
include only kept

theorem DcOnly.dataKept : DataKept s t := by
  refine ⟨?_, ?_, kept.home.trans only.home, kept.fc.trans only.fc, kept.keys.trans only.keys⟩ <;> rw [kept.mem, only.mem]

theorem DcOnly.regsKept : RegsKept except s t := fun f i closing other => (kept.regs f i closing).trans (only.regs f i other)

end Closing

/-- A command that answers Success after changing the flow alone: what stands, what is sent, and the state left but for the closing work. -/
theorem DcOnly.does {except : List Fld} {s x y : State} (only : DcOnly except s x) (calm : s.Calm)
    (flush : (except.map Fld.id).contains TLR_STAT_ACTIVE.id = false) (state : (except.map Fld.id).contains MOD_STATE_STATE.id = false)
    {c : Instr} {rt : Route} (run : exec c s = .next (settle y)) (work : y = reply rt .success [] x) :
    Does c s (fun t => DataKept s t ∧ RegsKept except s t ∧ Sends s t (.mbox rt .success 0 []) ∧ Keeps x t) := by
  obtain ⟨t, ran, kept⟩ := Ends.of_eq run work ((only.calm flush state calm).emit _)
  have closed := (Keeps.emit x (.mbox rt .success 0 [])).trans kept
  exact ⟨t, ran, only.dataKept closed, only.regsKept closed, ((Sends.emit x _).before only.out).after kept.out, closed⟩

theorem Keeps.extent {s t : State} (kept : Keeps s t) (e : Nat) : t.extent e = s.extent e := by unfold State.extent; rw [kept.mem]

/-- A message that an operation sends for one head of a set is sent for the set. -/
theorem forHeads_sends {except : List Fld} {m : Heads} {f : Nat → State → State} {o : Out} {h : Head} (member : m.getLsbD h = true)
    (each : ∀ g u, DcOnly except u (f g u)) (here : ∀ u, Sends u (f h u) o) (s : State) : Sends s (forHeads m f s) o := by
  obtain ⟨before, after, split⟩ := List.append_of_mem (mem_headList.2 member)
  rw [forHeads_eq, split, forAll, List.foldl_append, List.foldl_cons]
  exact ((here _).before (DcOnly.forAll each before s).out).after (DcOnly.forAll each after _).out

theorem dcSend_mem (h kind : Nat) (exts : List Nat) (s : State) : (dcSend h kind exts s).mem = s.mem := by
  unfold dcSend; split <;> rfl

theorem dcSend_rd (h kind : Nat) (exts : List Nat) (s : State) (f : Fld) (i : Nat) : (dcSend h kind exts s).rd f i = s.rd f i := by
  unfold dcSend; split <;> rfl

theorem dcSend_sends (h kind : Nat) {exts : List Nat} (some_ext : exts ≠ []) (s : State) :
    Sends s (dcSend h kind exts s) (.dcEvent h kind exts) := by
  unfold dcSend
  rw [if_neg (by simpa using some_ext)]
  exact ⟨[_], rfl, List.mem_singleton_self _⟩

/-! Records of extents. -/

theorem State.extent_congr {s t : State} (same : t.mem = s.mem) (e : Nat) : t.extent e = s.extent e := by unfold State.extent; rw [same]

theorem setExtent_extent (e : Nat) (x : Extent) (s : State) (j : Nat) : (setExtent e x s).extent j = if j = e then x else s.extent j :=
  Map.get_put _ _ _ _ _

/-- The records of some extents changed, one after another. -/
def editExtents (φ : Extent → Extent) (exts : List Nat) (s : State) : State := forAll exts (fun e s => setExtent e (φ (s.extent e)) s) s

theorem editExtents_only {except : List Fld} (φ : Extent → Extent) (exts : List Nat) (s : State) :
    DcOnly except s (editExtents φ exts s) := .forAll (fun _ s => .extents s _) exts s

theorem editExtents_extent (φ : Extent → Extent) {exts : List Nat} (distinct : exts.Nodup) (s : State) (e : Nat) :
    (editExtents φ exts s).extent e = if e ∈ exts then φ (s.extent e) else s.extent e :=
  forAll_own (seen := State.extent) (fun a u b => by
    rw [setExtent_extent]
    split
    · rename_i same; rw [same]
    · rfl) distinct s e

/-! Initiate Add (R50, R469). -/

/-- An extent offered to some more heads, under a tag. -/
def Extent.offer (heads : Heads) (tag : Nat) (x : Extent) : Extent := { x with offered := x.offered ||| heads, tag }

/-- What INITIATE_DC_ADD does before its reply. -/
def offerExtents (heads : Heads) (tag : Nat) (exts : List Nat) (s : State) : State :=
  forHeads heads (fun h s => dcSend h 1 exts s) (editExtents (Extent.offer heads tag) exts s)

theorem initiateAdd_taken {s : State} {heads : Heads} {tag : Nat} {exts : List Nat} (served : Attends s .mgmt) (serving : s.serving = true)
    (some_ext : exts ≠ []) (distinct : exts.Nodup) (addable : exts.all (s.addable heads tag) = true) :
    initiateAdd .mgmt heads tag exts s = reply .mgmt .success [] (offerExtents heads tag exts s) := by
  have listed : exts.isEmpty = false := by simpa using some_ext
  unfold initiateAdd
  rw [served.mboxMgmt]
  simp only [serving, listed, distinct, addable, Bool.not_true, Bool.or_self, decide_true, Bool.false_eq_true, if_false]
  rfl

theorem offerExtents_only (heads : Heads) (tag : Nat) (exts : List Nat) (s : State) : DcOnly [] s (offerExtents heads tag exts s) :=
  (editExtents_only (Extent.offer heads tag) exts s).trans (.forHeads (fun h s => .dcSend h 1 exts s) heads _)

theorem offerExtents_extent (heads : Heads) (tag : Nat) {exts : List Nat} (distinct : exts.Nodup) (s : State) (e : Nat) :
    (offerExtents heads tag exts s).extent e = if e ∈ exts then (s.extent e).offer heads tag else s.extent e :=
  (State.extent_congr (forHeads_kept (seen := State.mem) (fun h s => dcSend_mem h 1 exts s) heads _) e).trans
    (editExtents_extent _ distinct s e)

theorem offerExtents_sends {heads : Heads} (tag : Nat) {exts : List Nat} (some_ext : exts ≠ []) (s : State) {h : Head}
    (member : heads.getLsbD h = true) : Sends s (offerExtents heads tag exts s) (.dcEvent h 1 exts) :=
  (forHeads_sends member (fun h s => DcOnly.dcSend (except := []) h 1 exts s) (dcSend_sends h 1 some_ext) _).before
    (editExtents_only (except := []) _ exts s).out

theorem initiateDcAdd_does {s : State} (calm : s.Calm) (serving : s.serving = true) (served : Attends s .mgmt) {heads : Heads} {tag : Nat}
    {exts : List Nat} (some_ext : exts ≠ []) (distinct : exts.Nodup) (addable : exts.all (s.addable heads tag) = true) :
    Does (.initiateDcAdd .mgmt heads tag exts) s (fun t => DataKept s t ∧ RegsKept [] s t ∧
      (∀ e, t.extent e = if e ∈ exts then (s.extent e).offer heads tag else s.extent e) ∧
      (∀ h : Head, heads.getLsbD h = true → Sends s t (.dcEvent h 1 exts)) ∧ Sends s t (.mbox .mgmt .success 0 [])) := by
  obtain ⟨t, ran, data, regs, replied, kept⟩ := (offerExtents_only heads tag exts s).does calm (by decide) (by decide)
    (c := .initiateDcAdd .mgmt heads tag exts) rfl (initiateAdd_taken served serving some_ext distinct addable)
  exact ⟨t, ran, data, regs, fun e => (kept.extent e).trans (offerExtents_extent heads tag distinct s e),
    fun h member => (offerExtents_sends tag some_ext s member).after kept.out, replied⟩

/-! Initiate Release (R54, R469). -/

/-- An extent that some more heads are asked to release. -/
def Extent.ask (heads : Heads) (x : Extent) : Extent := { x with requested := x.requested ||| heads }

/-- A head asked for some extents: counted and told. -/
def askHead (exts : List Nat) (h : Nat) (s : State) : State := dcSend h 2 exts (s.bump CAP_ED_RELREQ exts.length h)

/-- What INITIATE_DC_RELEASE does before its reply. -/
def askExtents (heads : Heads) (exts : List Nat) (s : State) : State :=
  editExtents (Extent.ask heads) exts (forHeads heads (askHead exts) s)

section InitiateRelease
variable {heads : Heads} {exts : List Nat}

theorem initiateRelease_taken {s : State} (served : Attends s .mgmt) (serving : s.serving = true) (some_ext : exts ≠ [])
    (distinct : exts.Nodup) (some_head : heads ≠ 0) (held : ∀ e ∈ exts, heads &&& ~~~((s.extent e).accepted) = 0) :
    initiateRelease .mgmt heads exts s = reply .mgmt .success [] (askExtents heads exts s) := by
  have listed : exts.isEmpty = false := by simpa using some_ext
  have holders : exts.all (fun e => heads != 0 && (heads &&& ~~~((s.extent e).accepted)) == 0) = true :=
    List.all_eq_true.2 fun e mem => by simpa [held e mem] using some_head
  unfold initiateRelease
  rw [served.mboxMgmt]
  simp only [serving, listed, distinct, holders, Bool.not_true, Bool.or_self, decide_true, Bool.false_eq_true, if_false]
  rfl

theorem askHead_only (exts : List Nat) (h : Nat) (s : State) : DcOnly [CAP_ED_RELREQ] s (askHead exts h s) :=
  (DcOnly.bump s CAP_ED_RELREQ _ h).trans (.dcSend h 2 exts _)

theorem askHead_mem (exts : List Nat) (h : Nat) (s : State) : (askHead exts h s).mem = s.mem := dcSend_mem h 2 exts _

theorem askHead_relreq (exts : List Nat) (h : Nat) (s : State) (g : Nat) : (askHead exts h s).rd CAP_ED_RELREQ g =
    if g = h then min (s.rd CAP_ED_RELREQ g + exts.length) (2 ^ CAP_ED_RELREQ.w - 1) else s.rd CAP_ED_RELREQ g := by
  rw [askHead, dcSend_rd]
  split
  · rename_i same; rw [same]; exact s.rd_bump_same _ _ _
  · rename_i other; exact s.rd_wr_of _ _ _ _ _ (fun same => other same.2)

theorem askExtents_only (heads : Heads) (exts : List Nat) (s : State) : DcOnly [CAP_ED_RELREQ] s (askExtents heads exts s) :=
  (DcOnly.forHeads (askHead_only exts) heads s).trans (editExtents_only _ exts _)

theorem askExtents_extent (heads : Heads) (distinct : exts.Nodup) (s : State) (e : Nat) :
    (askExtents heads exts s).extent e = if e ∈ exts then (s.extent e).ask heads else s.extent e := by
  have asked : (forHeads heads (askHead exts) s).extent e = s.extent e :=
    State.extent_congr (forHeads_kept (askHead_mem exts) heads s) e
  rw [askExtents, editExtents_extent _ distinct, asked]

theorem askExtents_relreq (heads : Heads) (exts : List Nat) (s : State) (h : Head) : (askExtents heads exts s).rd CAP_ED_RELREQ h =
    if heads.getLsbD h then min (s.rd CAP_ED_RELREQ h + exts.length) (2 ^ CAP_ED_RELREQ.w - 1) else s.rd CAP_ED_RELREQ h := by
  have counted := forAll_own (seen := fun s (g : Nat) => s.rd CAP_ED_RELREQ g) (φ := fun n => min (n + exts.length) (2 ^ CAP_ED_RELREQ.w - 1))
    (askHead_relreq exts) (headList_nodup heads) s h
  rw [askExtents, (editExtents_only (except := []) (Extent.ask heads) exts _).regs _ _ rfl, forHeads_eq, counted,
    if_congr mem_headList rfl rfl]

theorem askExtents_sends (some_ext : exts ≠ []) (s : State) {h : Head} (member : heads.getLsbD h = true) :
    Sends s (askExtents heads exts s) (.dcEvent h 2 exts) :=
  (forHeads_sends member (askHead_only exts) (fun u => (dcSend_sends h 2 some_ext (u.bump CAP_ED_RELREQ _ h)).before ⟨[], by simp⟩) s).after
    (editExtents_only (except := []) _ exts _).out

theorem initiateDcRelease_does {s : State} (calm : s.Calm) (serving : s.serving = true) (served : Attends s .mgmt) (some_ext : exts ≠ [])
    (distinct : exts.Nodup) (some_head : heads ≠ 0) (held : ∀ e ∈ exts, heads &&& ~~~((s.extent e).accepted) = 0) :
    Does (.initiateDcRelease .mgmt heads exts) s (fun t => DataKept s t ∧ RegsKept [CAP_ED_RELREQ] s t ∧
      (∀ e, t.extent e = if e ∈ exts then (s.extent e).ask heads else s.extent e) ∧
      (∀ h : Head, heads.getLsbD h = true → Sends s t (.dcEvent h 2 exts) ∧
        t.rd CAP_ED_RELREQ h = min (s.rd CAP_ED_RELREQ h + exts.length) (2 ^ CAP_ED_RELREQ.w - 1)) ∧
      (∀ h : Head, heads.getLsbD h = false → t.rd CAP_ED_RELREQ h = s.rd CAP_ED_RELREQ h) ∧ Sends s t (.mbox .mgmt .success 0 [])) := by
  obtain ⟨t, ran, data, regs, replied, kept⟩ := (askExtents_only heads exts s).does calm (by decide) (by decide)
    (c := .initiateDcRelease .mgmt heads exts) rfl (initiateRelease_taken served serving some_ext distinct some_head held)
  have counted := fun h : Head => (kept.regs CAP_ED_RELREQ h (by decide)).trans (askExtents_relreq heads exts s h)
  exact ⟨t, ran, data, regs, fun e => (kept.extent e).trans (askExtents_extent heads distinct s e),
    fun h member => ⟨(askExtents_sends some_ext s member).after kept.out, (counted h).trans (if_pos member)⟩,
    fun h other => (counted h).trans (if_neg (Bool.eq_false_iff.1 other)), replied⟩

end InitiateRelease

/-! Add Response (R50, R52, R180). -/

/-- An extent with no open offer to a head. -/
def Extent.decline (h : Nat) (x : Extent) : Extent := { x with offered := x.offered &&& ~~~(headBit h) }

/-- An extent that a head accepts: its offer is taken, and the head is charged for it where it was not live. -/
def Extent.accept (h : Nat) (x : Extent) : Extent :=
  { x with offered := x.offered &&& ~~~(headBit h), accepted := x.accepted ||| headBit h, charge := if x.accepted = 0 then h else x.charge }

/-- An extent of the free pool: no head has it, is offered it or is releasing it. -/
def Extent.idle (x : Extent) : Bool := x.offered == 0 && x.accepted == 0 && x.releasing == 0 && !x.clearing

/-- The records of extents with a head's open offers declined; extents of the free pool are listed no more. -/
def declined (h : Nat) (m : Map Extent) : Map Extent :=
  m.filterMap (fun x => if (x.2.decline h).idle then none else some (x.1, x.2.decline h))

/-- A head's open offers declined. -/
def declineOffers (h : Nat) (s : State) : State := { s with mem := { s.mem with extents := declined h s.mem.extents } }

theorem acceptExtent_eq (h e : Nat) (s : State) : acceptExtent h e s = setExtent e ((s.extent e).accept h) s := by
  by_cases free : (s.extent e).accepted = 0 <;> simp [acceptExtent, Extent.accept, free]

theorem Extent.decline_accept (h : Nat) (x : Extent) : (x.accept h).decline h = x.accept h := by
  simp [Extent.decline, Extent.accept, BitVec.and_assoc]

theorem Extent.accept_live (h : Head) (x : Extent) : (x.accept h).accepted ≠ 0 := by
  intro none
  exact headBit_ne h (BitVec.or_eq_zero_iff.1 none).2

theorem Extent.live_busy {x : Extent} (live : x.accepted ≠ 0) : x.idle = false := by
  simp only [Extent.idle, beq_eq_false_iff_ne.2 live, Bool.and_false, Bool.false_and]

theorem declineOffers_extent {s : State} {e : Nat} (live : (s.extent e).accepted ≠ 0) (h : Nat) :
    (declineOffers h s).extent e = (s.extent e).decline h := by
  obtain ⟨x, found⟩ : ∃ x, s.mem.extents.find e = some x := by
    refine Option.ne_none_iff_exists'.1 fun unlisted => live ?_
    rw [State.extent, Map.get, unlisted]
    rfl
  have here : s.extent e = x := by rw [State.extent, Map.get, found]; rfl
  have stays : (x.decline h).idle = false := Extent.live_busy (here ▸ live)
  rw [here, State.extent, Map.get, declineOffers, declined, Map.find_filterMap (f := Extent.decline h) (drop := Extent.idle) stays found]
  rfl

/-- What ADD_DC_RESPONSE does before its reply. -/
def acceptExtents (h : Nat) (exts : List Nat) (s : State) : State := declineOffers h (editExtents (Extent.accept h) exts s)

theorem acceptExtents_only (h : Nat) (exts : List Nat) (s : State) : DcOnly [] s (acceptExtents h exts s) :=
  (editExtents_only (Extent.accept h) exts s).trans (.extents _ _)

section AddResponse
variable {s : State} {h : Head} {exts : List Nat} (distinct : exts.Nodup)
include distinct

theorem addResponse_taken (served : Attends s (.head h)) (serving : s.serving = true)
    (offered : ∀ e ∈ exts, (s.extent e).offered.getLsbD h = true) :
    addResponse (.head h) exts s = reply (.head h) .success [] (acceptExtents h exts s) := by
  have all_offered : exts.all (fun e => (s.extent e).offered.getLsbD h) = true := List.all_eq_true.2 offered
  unfold addResponse
  rw [served.mboxHead]
  simp only [serving, distinct, all_offered, acceptExtent_eq, Bool.not_true, Bool.or_self, decide_true, Bool.false_eq_true, if_false]
  rfl

theorem acceptExtents_listed {e : Nat} (mem : e ∈ exts) : (acceptExtents h exts s).extent e = (s.extent e).accept h := by
  have accepted : (editExtents (Extent.accept h) exts s).extent e = (s.extent e).accept h :=
    (editExtents_extent _ distinct s e).trans (if_pos mem)
  rw [acceptExtents, declineOffers_extent (by rw [accepted]; exact Extent.accept_live h _), accepted, Extent.decline_accept]

theorem acceptExtents_other {e : Nat} (other : e ∉ exts) (live : (s.extent e).accepted ≠ 0) :
    (acceptExtents h exts s).extent e = (s.extent e).decline h := by
  have untouched : (editExtents (Extent.accept h) exts s).extent e = s.extent e :=
    (editExtents_extent _ distinct s e).trans (if_neg other)
  rw [acceptExtents, declineOffers_extent (by rw [untouched]; exact live), untouched]

theorem addDcResponse_does (calm : s.Calm) (serving : s.serving = true) (served : Attends s (.head h))
    (offered : ∀ e ∈ exts, (s.extent e).offered.getLsbD h = true) :
    Does (.addDcResponse (.head h) exts) s (fun t => DataKept s t ∧ RegsKept [] s t ∧ Sends s t (.mbox (.head h) .success 0 []) ∧
      (∀ e ∈ exts, t.extent e = (s.extent e).accept h) ∧
      (∀ e ∉ exts, (s.extent e).accepted ≠ 0 → t.extent e = (s.extent e).decline h)) := by
  obtain ⟨t, ran, data, regs, replied, kept⟩ := (acceptExtents_only h exts s).does calm (by decide) (by decide)
    (c := .addDcResponse (.head h) exts) rfl (addResponse_taken distinct served serving offered)
  exact ⟨t, ran, data, regs, replied, fun e mem => (kept.extent e).trans (acceptExtents_listed distinct mem),
    fun e other live => (kept.extent e).trans (acceptExtents_other distinct other live)⟩

end AddResponse

/-! The lists read back (R469, R472). -/

section Lists
variable {s : State} {c : Instr} (calm : s.Calm) (list : Nat → State → List Nat)
include calm

/-- A list that the fabric manager reads is its reply and changes nothing. -/
theorem mgmtList_ends (served : Attends s .mgmt) (h : Head)
    (run : exec c s = .next (settle (mboxMgmt .mgmt (fun s => reply .mgmt .success (list h s) s) s))) :
    Ends c s (reply .mgmt .success (list h s) s) := .of_eq run (served.mboxMgmt _) (calm.emit _)

/-- A list that a head reads of its own is its reply and changes nothing. -/
theorem ownList_ends {h : Head} (served : Attends s (.head h))
    (run : exec c s = .next (settle (mboxHead (.head h) (fun n s => reply (.head h) .success (list n s) s) s))) :
    Ends c s (reply (.head h) .success (list h s) s) := .of_eq run (served.mboxHead _) (calm.emit _)

end Lists

/-- Settles O33: each command of the flow changes the extents as it names them, tells the heads, and leaves the data where it was. -/
theorem dynamicCapacityFlow : Obligations.DynamicCapacityFlow := by
  intro s calm serving
  refine ⟨fun served heads tag exts some_ext distinct => ⟨fun addable => ?_, fun some_head held => ?_⟩,
    fun h exts served distinct offered => ?_, fun h => ⟨fun served => ⟨?_, ?_⟩, fun served => ⟨?_, ?_⟩⟩⟩
  · exact initiateDcAdd_does calm serving served some_ext distinct addable
  · exact initiateDcRelease_does calm serving served some_ext distinct some_head held
  · exact addDcResponse_does distinct calm serving served offered
  · exact mgmtList_ends calm (fun h s => s.dcRegions h) served h rfl
  · exact mgmtList_ends calm (fun h s => s.dcExtents h ++ (s.mem.extents.filter (fun x => x.2.offered.getLsbD h)).flatMap (fun x =>
      [s.headLine h (x.1 * 4194304), x.2.tag])) served h rfl
  · exact ownList_ends calm (fun h s => s.dcRegions h) served rfl
  · exact ownList_ends calm (fun h s => s.dcExtents h) served rfl

end Machine
end Sys2Proof
end

section
/-! PROOFS. The coherence home (chapter 03): requests that complete at once (R80), messages that no slice orders (R80, R329), snoops with their
responses, hold times and timeouts (R82 to R87, R91, R92), the rebuild of a slice (R94); the fetch of an entry line (R67, R69) and the retry of
a Halt record (R165). -/
namespace Sys2Proof.Machine

/-! Requests that complete at once (R80). -/

theorem rowSnoops_clnEvct (mv : Meta) (h : Nat) (e : Option FiltEntry) : rowSnoops .clnEvct mv h e = none := by
  cases e <;> rfl

/-- Settles O11: a MemClnEvct snoops nobody and needs no way, so it goes straight to its row's outcome. -/
theorem clnEvctRemovesHolder : Obligations.ClnEvctRemovesHolder := by
  intro s h haddr line r st served db shown
  have outcome : rowOutcome .clnEvct .invalid h (s.filt line) = (st, .cmp, .invalid) := by
    rw [shown]
    cases s.filt line with
    | none => simp [rowOutcome]
    | some e => rfl
  have alive : ∀ x hs, st = some (x, hs) → hs ≠ 0 ∧ hs &&& s.home.dead = 0 := by
    intro x hs left
    cases found : s.filt line with
    | none => simp [shown, found] at left
    | some e =>
      simp only [shown, found] at left
      split at left
      · cases left
      · rename_i some_left
        cases left
        exact ⟨some_left, sub_dead _ (filt_alive s line e found).2⟩
  have no_way : (rowOutcome .clnEvct .invalid h (s.filt line)).1.isSome = true → s.filt line = none →
      (s.filtOfSet (sliceOf s line) (filtSet line)).length < 16 := by
    intro keeps absent
    simp [absent, rowOutcome] at keeps
  exact ⟨_, rfl, serve_other s h .clnEvct (.inr rfl) haddr line .invalid r served db (fun e _ => rowSnoops_clnEvct _ _ e) no_way st .cmp
    .invalid outcome alive _ rfl⟩

/-- Settles O12: both kinds of write take the same way, a full line under the full mask. -/
theorem writePlacesBytes : Obligations.WritePlacesBytes := by
  intro s h haddr line slot mv d m r old sole room below found place
  refine ⟨fun served => ⟨_, rfl, ?_⟩, fun served => ⟨_, rfl, ?_⟩⟩
  · exact serve_write s h .wr (.inl rfl) haddr line slot mv d fullMask fullMask r old rfl served sole room below place found _ rfl
  · exact serve_write s h .wrPtl (.inr rfl) haddr line slot mv d m m r old rfl served sole room below place found _ rfl

/-! Messages that no slice orders (R80, R329). -/

theorem specRd_served {s : State} {h haddr line : Nat} {r : Region} (gate : s.gate h .rd haddr = .serve r line) :
    specRd h haddr s = fetchEntry (linePage line) (noteActivity s) := by
  unfold specRd
  rw [gate]

theorem fetchEntry_starts {s : State} {page : Nat} (unknown : s.entryKnown page = false) (fresh : entryLine page ∉ s.mem.entryWait) :
    fetchEntry page s = { s with mem := { s.mem with entryWait := s.mem.entryWait ++ [entryLine page] } } := by
  simp [fetchEntry, unknown, fresh]

theorem fetchEntry_idle {s : State} {page : Nat} (ready : s.entryKnown page = true ∨ entryLine page ∈ s.mem.entryWait) :
    fetchEntry page s = s := by
  simp [fetchEntry, ready]

theorem unsupportedMessage_taken {s : State} {h haddr : Nat} {read : Bool} (arrives : s.gate h (if read then .rd else .wr) haddr ≠ .none)
    (judged : s.gate h (if read then .rd else .wr) haddr ≠ .plain) :
    unsupportedMessage h haddr read s = answerPlain h haddr read (protoError h (noteActivity s)) := by
  unfold unsupportedMessage
  split
  · contradiction
  · contradiction
  · rfl

/-- A protocol error is counted; its event is only delivered. -/
theorem Keeps.protoError (h : Nat) (s : State) : Keeps (s.bump HPT_ERR2_PROTO 1 h) (protoError h s) := .raiseLimited _ _ _

/-- Settles O15: a MemSpecRd only starts a fetch, and an unsupported message gets the plain answer and is counted. -/
theorem specRdAndUnsupportedMessages : Obligations.SpecRdAndUnsupportedMessages := by
  refine ⟨fun s h haddr line r calm gate => ?_, fun s h haddr read calm arrives judged => ?_⟩
  · have noted := noteActivity_calm calm
    refine ⟨fun unknown fresh => ?_, fun ready => ?_⟩
    · exact .of_eq rfl ((specRd_served gate).trans (fetchEntry_starts unknown fresh)) ⟨noted.drain, noted.flush, noted.plan, noted.audit⟩
    · exact .of_eq rfl ((specRd_served gate).trans (fetchEntry_idle ready)) noted
  · have counted := Keeps.protoError h (noteActivity s)
    have answered := counted.trans (.answerPlain h haddr read _)
    obtain ⟨t, ran, closed⟩ : Ends (.unsupportedM2sMessage h haddr read) s (answerPlain h haddr read (protoError h (noteActivity s))) :=
      .of_eq rfl (unsupportedMessage_taken arrives judged)
        (answered.calm ((noteActivity_calm calm).bump HPT_ERR2_PROTO 1 h (by decide) (by decide)))
    have kept := answered.trans closed
    refine ⟨t, ran, fun isRead => ?_, ?_, ?_, kept.home, kept.fc, kept.mem, fun f i closing other => ?_⟩
    · subst isRead
      exact ((answerPlain_poisons h haddr _).before counted.out).after closed.out
    · exact ((answerPlain_completes h haddr read _).before counted.out).after closed.out
    · exact (kept.regs _ _ (by decide)).trans (State.rd_bump_same _ _ _ _)
    · have apart : f.id ≠ HPT_ERR2_PROTO.id := by simpa using other
      exact (kept.regs f i closing).trans (State.rd_bump_ne _ _ _ _ _ _ apart)

/-! Responses to snoops (R82, R84). -/

theorem Keeps.holdersOf {s t : State} (kept : Keeps s t) (line : Nat) : t.holdersOf line = s.holdersOf line :=
  holdersOf_congr (filt_congr line (by rw [kept.home]) (by rw [kept.home]))

theorem biconflict_ends {s : State} (calm : s.Calm) (h : Head) (haddr : Nat) :
    (s.takesRsp h = true → Ends (.biconflict h haddr) s ((s.bump HOM_HEAD_CONFLICT 1 h).emit (.ndr h haddr .conflictAck 0))) ∧
    (s.takesRsp h = false → Ends (.biconflict h haddr) s s) := by
  refine ⟨fun taken => ?_, fun dropped => ?_⟩
  · exact .of_eq rfl (if_pos taken) ((calm.bump HOM_HEAD_CONFLICT 1 h (by decide) (by decide)).emit _)
  · exact .of_eq rfl (if_neg (by simp [dropped])) calm

theorem snoopOf_head {s : State} {h line : Nat} {n : Snoop} (found : s.snoopOf h line = some n) : n.head = h := by
  have fits := List.find?_some found
  simp only [Bool.and_eq_true, beq_iff_eq] at fits
  exact fits.1

/-- BIRspI is permitted for every snoop, and stands as it was sent (R82). -/
theorem birspI_permitted (k : Snp) : isPermitted k .i = true ∧ permitted k .i = .i := by
  cases k <;> exact ⟨rfl, rfl⟩

/-- A permitted response for one line satisfies the snoop of its head (R82). -/
theorem birsp_line {s : State} {h haddr line : Nat} {r : Region} {n : Snoop} {rsp : Rsp} (taken : s.takesRsp h = true)
    (place : layoutFind (s.headRegions h) haddr = some (r, line)) (found : s.snoopOf h line = some n)
    (allowed : isPermitted n.kind rsp = true) :
    birsp h haddr false rsp s = releaseHeld (satisfy n line (permitted n.kind rsp) true s) := by
  simp [birsp, taken, place, found, allowed, forAll, rspLine]

section Response
variable {s : State} {h : Head} {haddr line : Nat} {r : Region} {n : Snoop} {e : FiltEntry} (calm : s.Calm) (taken : s.takesRsp h = true)
  (place : layoutFind (s.headRegions h) haddr = some (r, line)) (found : s.snoopOf h line = some n) (why : n.why = .rebuild ∨ n.why = .drain)
  (none_held : s.home.held = []) (shown : s.home.filt.find line = some e) (holds : e.holders.getLsbD h = true)
  (none_waits : ∀ q ∈ s.home.reqs, q.line ≠ line)
include calm taken place found why none_held shown holds none_waits

/-- A response to a snoop that serves no request: the line leaves the snoop, and the holders are those it reports. -/
theorem response_does {c : Instr} {rsp : Rsp} (run : exec c s = .next (settle (birsp h haddr false rsp s)))
    (allowed : isPermitted n.kind rsp = true) (as_sent : permitted n.kind rsp = rsp) :
    Does c s (fun t =>
      t.home.snoops = s.home.snoops.filterMap (fun m =>
        if m = n then (if (n.left.filter (· ≠ line)).isEmpty then none else some { n with left := n.left.filter (· ≠ line) }) else some m) ∧
      t.rd HOM_HEAD_TO_RUN h = (if (n.left.filter (· ≠ line)).isEmpty then 0 else s.rd HOM_HEAD_TO_RUN h) ∧
      t.holdersOf line = (holderAfter line h rsp s).holdersOf line ∧ t.fc = s.fc ∧ t.home.reqs = s.home.reqs ∧
      RegsKept [HOM_HEAD_TO_RUN] s t ∧ t.mem.store = s.mem.store) := by
  have own := snoopOf_head found
  obtain ⟨snoops, timeouts, only, mode, holders⟩ :=
    satisfy_holders n line rsp s e why shown (own ▸ holds) none_waits
  rw [own] at timeouts holders
  obtain ⟨t, ran, kept⟩ : Ends c s (satisfy n line rsp true s) := by
    refine .of_eq run ?_ (only.calm calm mode)
    rw [birsp_line taken place found allowed, as_sent, releaseHeld_nil _ (only.held.trans none_held)]
  refine ⟨t, ran, ?_, ?_, ?_, kept.fc.trans only.fc, ?_, fun f i closing other => ?_, ?_⟩
  · rw [kept.home]; exact snoops
  · rw [kept.regs _ _ (by decide)]; exact timeouts
  · exact (kept.holdersOf line).trans holders
  · rw [kept.home]; exact only.reqs
  · exact (kept.regs f i closing).trans (only.regs f i closing other)
  · rw [kept.mem, only.mem]

end Response

/-- Settles O16: each response is one that its snoop permits as it stands, so the holders are those that it reports. -/
theorem snoopResponsesAndConflicts : Obligations.SnoopResponsesAndConflicts := by
  refine ⟨fun s h haddr calm => biconflict_ends calm h haddr, fun s h haddr line r n e calm taken place found why none_held shown holds
    none_waits => ?_⟩
  have reported := fun rsp => holderAfter_holders line h rsp s e shown holds none_waits
  have does := fun {c : Instr} {rsp : Rsp} => response_does calm taken place found why none_held shown holds none_waits (c := c) (rsp := rsp)
  refine ⟨?_, fun shares => ?_, fun current => ?_⟩
  · obtain ⟨allowed, as_sent⟩ := birspI_permitted n.kind
    have answered := does (c := .birspI h haddr false) rfl allowed as_sent
    rw [reported] at answered
    exact answered
  · obtain ⟨allowed, as_sent⟩ : isPermitted n.kind .s = true ∧ permitted n.kind .s = .s := by
      cases kind : n.kind with
      | inv => exact absurd kind shares
      | data | cur => exact ⟨rfl, rfl⟩
    have answered := does (c := .birspS h haddr false) rfl allowed as_sent
    rw [reported] at answered
    exact answered
  · obtain ⟨allowed, as_sent⟩ : isPermitted n.kind .e = true ∧ permitted n.kind .e = .e := by rw [current]; exact ⟨rfl, rfl⟩
    have answered := does (c := .birspE h haddr false) rfl allowed as_sent
    rw [reported] at answered
    exact answered

/-! A response that lets a waiting request go on (R80, R82). -/

/-- The filter's mark on a line that a snoop of it is outstanding, set anew (R77). -/
def markPending (line : Nat) (s : State) : State :=
  match s.home.filt.find line with
  | some e => setFilt line (some { e with pending := s.snooped line }) s
  | none => s

theorem markPending_only (line : Nat) (s : State) : HomeOnly s (markPending line s) ∧ (markPending line s).home.snoops = s.home.snoops := by
  unfold markPending
  split
  · exact ⟨.setFilt _ _ _, rfl⟩
  · exact ⟨.refl s, rfl⟩

theorem markPending_regs (line : Nat) (s : State) : (markPending line s).regs = s.regs := by
  unfold markPending
  split <;> rfl

theorem markPending_holdersOf (line : Nat) (s : State) : (markPending line s).holdersOf line = s.holdersOf line := by
  unfold markPending
  split
  · rename_i e found
    exact holdersOf_same line s e _ found rfl rfl
  · rfl

theorem markPending_shown {s : State} {line : Nat} {e : FiltEntry} (shown : s.home.filt.find line = some e) :
    markPending line s = setFilt line (some { e with pending := s.snooped line }) s := by
  rw [markPending, shown]

/-- The filter after a response of a head for a line: the holders it reports, and the mark on the line (R82, R86). -/
def afterRsp (line h : Nat) (rsp : Rsp) (s : State) : State := markPending line (unsilence line h (holderAfter line h rsp s))

/-- The outstanding snoops after a line has left one of them. -/
def leaveSnoop (n : Snoop) (line : Nat) (s : State) : State :=
  let left := n.left.filter (· ≠ line)
  { s with home := { s.home with
    snoops := s.home.snoops.filterMap (fun m => if m = n then (if left.isEmpty then none else some { n with left }) else some m) } }

theorem satisfy_request {n : Snoop} {line id : Nat} (why : n.why = .request id) (last : n.left = [line]) (rsp : Rsp) (s : State) :
    satisfy n line rsp true s = resumeReq id ((afterRsp line n.head rsp (leaveSnoop n line s)).wr HOM_HEAD_TO_RUN 0 n.head) := by
  have gone : (n.left.filter (· ≠ line)).isEmpty = true := by simp [last]
  obtain ⟨head, first, blk, left, kind, purpose, sent⟩ := n
  subst why
  unfold satisfy
  dsimp only at gone ⊢
  rw [if_pos (by rw [gone]; rfl)]
  rfl

theorem afterRsp_only (line h : Nat) (rsp : Rsp) (s : State) :
    HomeOnly s (afterRsp line h rsp s) ∧ (afterRsp line h rsp s).home.snoops = s.home.snoops := by
  have reported := holderAfter_only line h rsp s
  have answered := unsilence_only line h (holderAfter line h rsp s)
  have marked := markPending_only line (unsilence line h (holderAfter line h rsp s))
  exact ⟨(reported.1.trans answered.1).trans marked.1, marked.2.trans (answered.2.trans reported.2)⟩

theorem holderAfter_regs (line h : Nat) (rsp : Rsp) (s : State) : (holderAfter line h rsp s).regs = s.regs := by
  unfold holderAfter
  split
  · rfl
  · split
    · rfl
    · cases rsp with
      | i =>
        dsimp only
        split
        · split <;> rfl
        · rfl
      | s | e => rfl

theorem unsilence_regs (line h : Nat) (s : State) : (unsilence line h s).regs = s.regs := by
  unfold unsilence
  split <;> rfl

theorem afterRsp_regs (line h : Nat) (rsp : Rsp) (s : State) : (afterRsp line h rsp s).regs = s.regs :=
  (markPending_regs _ _).trans ((unsilence_regs _ _ _).trans (holderAfter_regs _ _ _ _))

theorem afterRsp_holdersOf (line h : Nat) (rsp : Rsp) (s : State) :
    (afterRsp line h rsp s).holdersOf line = (holderAfter line h rsp s).holdersOf line :=
  (markPending_holdersOf _ _).trans (holdersOf_unsilence _ _ _)

theorem headBit_self (h : Head) : (headBit h).getLsbD h = true := by revert h; decide

/-- The only holder gone, no head holds the line. -/
theorem holderAfter_sole {s : State} {line : Nat} {h : Head} {e : FiltEntry} (shown : s.home.filt.find line = some e)
    (sole : e.holders = headBit h) : (holderAfter line h .i s).holdersOf line = none := by
  have gone : e.holders &&& ~~~(headBit h) = 0 := by simp [sole]
  unfold holderAfter
  simp only [shown, sole ▸ headBit_self h, Bool.not_true, Bool.false_eq_true, if_false, gone, if_true]
  split
  · rw [State.holdersOf, filt_setFilt]
    simp
  · rw [State.holdersOf, filt_setNone]
    rfl

theorem filt_none_of {s : State} {line : Nat} (free : s.holdersOf line = none) : s.filt line = none := Option.map_eq_none_iff.1 free

/-- A request whose snoops are all satisfied goes to its data stage. -/
theorem resumeReq_satisfied {s : State} {q : Req} (waits : s.home.reqs = [q]) (stage : q.stage = .snoop) (answered : s.home.snoops = []) :
    resumeReq q.id s = dataStage q s := by
  simp [resumeReq, State.req, waits, stage, answered]

/-- The response of the only holder to the only snoop: the state in which the request that it was sent for goes on. -/
theorem satisfy_sole {s : State} {n : Snoop} {q : Req} {line : Nat} {h : Head} {e : FiltEntry} (only_snoop : s.home.snoops = [n])
    (own : n.head = h) (last : n.left = [line]) (why : n.why = .request q.id) (shown : s.home.filt.find line = some e)
    (sole : e.holders = headBit h) (waits : s.home.reqs = [q]) (stage : q.stage = .snoop) :
    ∃ w, satisfy n line .i true s = dataStage q w ∧ HomeOnly s w ∧ w.home.snoops = [] ∧ w.filt line = none ∧
      ∀ (f : Fld) (i : Nat), f.id ≠ HOM_HEAD_TO_RUN.id → w.rd f i = s.rd f i := by
  have left : (leaveSnoop n line s).home.snoops = [] := by simp [leaveSnoop, only_snoop, last]
  have leaves : HomeOnly s (leaveSnoop n line s) := ⟨fun _ _ _ _ => rfl, rfl, rfl, rfl, rfl, rfl, rfl, rfl, rfl, rfl, rfl, rfl⟩
  obtain ⟨reports, snoops⟩ := afterRsp_only line h .i (leaveSnoop n line s)
  have regs := afterRsp_regs line h .i (leaveSnoop n line s)
  have holders := (afterRsp_holdersOf line h .i (leaveSnoop n line s)).trans (holderAfter_sole shown sole)
  rw [satisfy_request why last, own]
  generalize afterRsp line h .i (leaveSnoop n line s) = v at reports snoops regs holders
  have only : HomeOnly s (v.wr HOM_HEAD_TO_RUN 0 h) := (leaves.trans reports).trans
    ⟨fun f i _ other => State.rd_wr_ne _ _ _ _ _ _ (by simpa using other), rfl, rfl, rfl, rfl, rfl, rfl, rfl, rfl, rfl, rfl, rfl⟩
  refine ⟨_, resumeReq_satisfied (only.reqs.trans waits) stage (snoops.trans left), only, snoops.trans left, filt_none_of holders,
    fun f i other => ?_⟩
  exact (State.rd_wr_ne _ _ _ _ _ _ other).trans (State.rd_congr regs reports.part f i)

theorem HomeOnly.sees {s t : State} (only : HomeOnly s t) (regs : ∀ (f : Fld) (i : Nat), f.id ≠ HOM_HEAD_TO_RUN.id → t.rd f i = s.rd f i) :
    Sees s t where
  part := only.part
  regs f i seen := regs f i (fun same => absurd (same ▸ seen) (by decide))
  ext e h := by unfold State.accepted; rw [only.mem]

/-- Settles O17: the response leaves the line with no holder and no snoop, so the read that waited for it hits. -/
theorem responseCompletesRead : Obligations.ResponseCompletesRead := by
  intro s h haddr line r n e q l calm taken place region db only_snoop own last why none_held dead shown sole waits own_line kind mv stage
    mute ovd small cached sound whole
  have found : s.snoopOf h line = some n := by simp [State.snoopOf, only_snoop, own, last]
  obtain ⟨allowed, as_sent⟩ := birspI_permitted n.kind
  obtain ⟨w, goes_on, only, answered, unheld, regs⟩ := satisfy_sole only_snoop own last why shown sole waits stage
  have sees := only.sees regs
  obtain ⟨data, completes, holder, done, beside⟩ := hit_read_done q w r l line [] (only.reqs.trans waits) (by simp) own_line kind mute ovd
    small ((sees.regionOf _).trans region) db ((sees.fcLine (by rw [only.fc]) line).trans cached) sound whole (by simp) (by simp [unheld])
    (by simp [only.dead, dead])
  obtain ⟨none_left, kept⟩ := ends_quiet (sees.calm only.mode (by rw [only.cap]) calm) (only.held.trans none_held) beside
  have run : birsp h haddr false .i s = dataStage q w := by
    rw [birsp_line taken place found allowed, as_sent, goes_on, none_left]
  have sent : ∃ o, w.out = s.out ++ o := ⟨[], by rw [only.out, List.append_nil]⟩
  rw [mv] at data completes holder
  refine ⟨_, congrArg (fun x => Host.Outcome.next (settle x)) run, ?_, ?_, ?_, ?_, ?_, ?_, fun f i closing other => ?_, ?_⟩
  · exact (data.before sent).after kept.out
  · exact (completes.before sent).after kept.out
  · exact (kept.holdersOf line).trans holder
  · rw [kept.home, beside.around.snoops, answered]
  · rw [kept.home, done]
  · rw [kept.fc, beside.lines, only.fc]
  · exact ((kept.regs f i closing).trans (beside.regs f i closing rfl)).trans (only.regs f i closing other)
  · rw [kept.mem]
    exact beside.around.store.trans (by rw [only.mem])

/-! Requests that waited are taken up again (R75, R79, R87, R102). -/

theorem retryStage_alone {s : State} {q : Req} {line : Nat} {st : Stage} (waits : s.home.reqs = [q]) (own : q.line = line)
    (stage : q.stage = st) : retryStage line st s = releaseHeld (takeUp q s) := by
  simp [retryStage, waits, own, stage]

/-- The stages in which a request's data waits, its snoops being satisfied. -/
def Stage.inData : Stage → Bool
  | .alloc | .pdirty | .entry | .fill => true
  | .queued | .way | .hold | .snoop => false

theorem takeUp_read {s : State} {q : Req} (kind : q.kind = .rd) :
    takeUp q s = if q.stage.inData then dataStage q s else serveReq q.id s := by
  simp only [takeUp, kind, ReqKind.answers, Bool.false_eq_true, if_false]
  cases q.stage <;> rfl

theorem rowSnoops_sole {h : Nat} {o : Option FiltEntry} (sole : ∀ e, o = some e → e.holders = headBit h) (mv : Meta) :
    rowSnoops .rd mv h o = none := by
  cases o with
  | none => rfl
  | some e =>
    have none_else : e.holders &&& ~~~(headBit h) = 0 := by simp [sole e rfl]
    cases mv <;> simp [rowSnoops, none_else]

theorem asRead_rd {q : Req} (kind : q.kind = .rd) (o : Option FiltEntry) : asRead q o = q := by simp [asRead, kind]

/-- A read alone on a line that no other head holds reaches its data stage whatever it waited for. -/
theorem takeUp_alone {s : State} {q : Req} (waits : s.home.reqs = [q]) (kind : q.kind = .rd) (snooped : s.snooped q.line = false)
    (evicting : s.evicting q.line = false) (sole : SoleHolder s q.head q.line) :
    ∃ w, takeUp q s = dataStage q w ∧ Beside s w ∧ w.filt q.line = s.filt q.line ∧ w.home.reqs = [q] := by
  obtain ⟨w, served, beside, filt, reqs, -⟩ := serveReq_clear q s [] waits (by simp) snooped evicting (fun _ _ _ => sole.way) q
    (by rw [asRead_rd kind, ite_self]) (fun _ => by rw [kind]; exact rowSnoops_sole (fun e shown => (sole.holders e shown).1) _)
  rw [takeUp_read kind]
  split
  · exact ⟨s, rfl, .refl s, rfl, waits⟩
  · exact ⟨w, served, beside, filt, reqs⟩

/-- Settles O18: the event takes the read up, alone on its line, and it hits. -/
theorem waitingReadIsTakenUp : Obligations.WaitingReadIsTakenUp := by
  intro s line r q l c calm region db none_held waits own_line kind mute ovd small alive snooped evicting sole cached sound whole event
  subst own_line
  obtain ⟨w, taken_up, reached, filt, reqs⟩ := takeUp_alone waits kind snooped evicting sole
  obtain ⟨data, completes, holder, done, hit⟩ := hit_read_done q w r l q.line [] reqs (by simp) rfl kind mute ovd small
    ((RK.regionOf reached.regs _).trans region) db ((RK.fcLine reached.regs reached.lines _).trans cached) sound whole (by simp)
    (by rw [filt]; exact fun e shown => (sole.holders e shown).1) (by rw [reached.dead, BitVec.and_comm]; exact alive)
  have beside := reached.trans hit
  obtain ⟨none_left, kept⟩ := ends_quiet calm none_held beside
  have run : ∀ st, q.stage = st → retryStage q.line st s = dataStage q w := fun st stage => by
    rw [retryStage_alone waits rfl stage, taken_up, none_left]
  have ran : exec c s = .next (settle (dataStage q w)) := by
    rcases event with ⟨rfl, stage⟩ | ⟨rfl, stage⟩ | ⟨rfl, stage⟩
    all_goals exact congrArg (fun x => Host.Outcome.next (settle x)) (run _ stage)
  refine ⟨_, ran, ?_, ?_, ?_, ?_, ?_, beside.around.trans kept.around⟩
  · exact (data.before reached.out).after kept.out
  · exact (completes.before reached.out).after kept.out
  · rw [kept.holdersOf, holder, holdersOf_congr filt]
  · rw [kept.home, done]
  · rw [kept.fc, beside.lines]

/-! The end of a hold time (R87). -/

theorem retryStage_none {s : State} {line : Nat} {st : Stage} (none_waits : ∀ q ∈ s.home.reqs, q.line = line → q.stage ≠ st) :
    retryStage line st s = s := by
  have absent : s.home.reqs.find? (fun q => q.line == line && q.stage == st) = none :=
    List.find?_eq_none.2 (fun q mem => by simpa using none_waits q mem)
  rw [retryStage, absent]

/-- The mark of a hold cleared. -/
def endHold (line : Nat) (e : FiltEntry) (s : State) : State := setFilt line (some { e with held := false }) s

theorem endHold_calm {s : State} (calm : s.Calm) (line : Nat) (e : FiltEntry) : (endHold line e s).Calm :=
  ⟨calm.drain, calm.flush, calm.plan, calm.audit⟩

theorem holdEnd_retries {s x : State} {line : Nat} {e : FiltEntry} (shown : s.home.filt.find line = some e)
    (retried : retryStage line .hold (endHold line e s) = x) (no_rebuild : x.rdB HOM_SLMAP_REBUILD = false) : holdEnd line s = x := by
  unfold holdEnd
  rw [shown]
  dsimp only
  rw [← endHold, retried, no_rebuild]
  rfl

theorem filt_endHold {s : State} {line : Nat} {e : FiltEntry} (dead : s.home.dead = 0) (holders : e.holders ≠ 0) :
    (endHold line e s).filt line = some { e with held := false } := by
  have unmasked : e.holders &&& ~~~s.home.dead = e.holders := by rw [dead]; exact BitVec.and_allOnes
  rw [endHold, filt_setFilt]
  dsimp only
  rw [unmasked, if_neg holders]

theorem filt_setFilt_of (line : Nat) (e : Option FiltEntry) (s : State) {l : Nat} (other : l ≠ line) : (setFilt line e s).filt l = s.filt l := by
  unfold State.filt setFilt Map.upd
  cases e with
  | none => simp only [Map.find_del, if_neg other]
  | some e => simp only [Map.find_put, if_neg other]

theorem setStage_alone {s : State} {q : Req} (waits : s.home.reqs = [q]) (st : Stage) :
    (setStage q.id st s).home.reqs = [{ q with stage := st }] := by simp [setStage, waits]

theorem setStage_calm {s : State} (calm : s.Calm) (id : Nat) (st : Stage) : (setStage id st s).Calm :=
  ⟨calm.drain, calm.flush, calm.plan, calm.audit⟩

/-- Settles O20: without a waiting request only the mark goes; a waiting read for ownership finds the holder free to be snooped. -/
theorem holdTimeEndsGrant : Obligations.HoldTimeEndsGrant := by
  intro s line e calm shown no_rebuild
  refine ⟨fun none_waits => ?_, fun h h' q waits own_line stage kind mv head other_head sole dead none_held db snooped evicting apart => ?_⟩
  · exact .of_eq rfl (holdEnd_retries shown (retryStage_none none_waits) no_rebuild) (endHold_calm calm line e)
  · have free := filt_endHold (line := line) dead (sole ▸ headBit_ne h')
    have scattered : (endHold line e s).sheetAlike line = false :=
      sheetAlike_apart _ line (fun l mem other => (filt_setFilt_of line _ s other).trans (apart l mem other))
    have snoops := serveReq_snoops q (endHold line e s) [] { e with held := false } h h' line waits (by simp) own_line kind head mv snooped
      evicting db free sole rfl other_head scattered
    obtain ⟨sent, regs, home, fc, -, keeps_calm, -⟩ := sendSnoop_one h' line .inv (.request q.id) (endHold line e s) { e with held := false }
      ((Map.find_put _ _ _ _).trans (if_pos rfl))
    generalize sendSnoop h' line false [line] .inv (.request q.id) (endHold line e s) = w at snoops sent regs home fc keeps_calm
    have reqs : w.home.reqs = [q] := by rw [home]; exact waits
    have held : w.home.held = [] := by rw [home]; exact none_held
    have outstanding : ∃ n ∈ w.home.snoops, n.head = h' ∧ n.left = [line] ∧ n.kind = .inv ∧ n.why = .request q.id := by
      rw [home]
      exact ⟨_, List.mem_append_right _ (List.mem_singleton.2 rfl), rfl, rfl, rfl, rfl⟩
    have retried : retryStage line .hold (endHold line e s) = setStage q.id .snoop w := by
      rw [retryStage_alone (s := endHold line e s) waits own_line stage, takeUp_read kind, stage]
      exact (congrArg releaseHeld snoops).trans (releaseHeld_nil _ held)
    have rebuild : w.rd HOM_SLMAP_REBUILD = s.rd HOM_SLMAP_REBUILD := regs _ _ (by decide) (by decide)
    have unrebuilt : (setStage q.id .snoop w).rdB HOM_SLMAP_REBUILD = false := (congrArg (· == 1) rebuild).trans no_rebuild
    obtain ⟨t, ran, kept⟩ : Ends (.holdTimeEnd line) s (setStage q.id .snoop w) :=
      .of_eq rfl (holdEnd_retries shown retried unrebuilt) (setStage_calm (keeps_calm (endHold_calm calm line e)) _ _)
    refine ⟨t, ran, sent.after kept.out, ?_, ?_, kept.fc.trans fc,
      fun f i closing other => (kept.regs f i closing).trans (regs f i closing other)⟩
    · rw [kept.home]; exact outstanding
    · rw [kept.home]; exact setStage_alone reqs .snoop

/-! The end of a slice rebuild (R94). -/

theorem slice_event_raised {n : Nat} (small : n < 16) : sourceReserved (256 + 8 * n + 4) = false := by
  revert n; decide

/-- The registers and the home once the spare is in service. -/
def sparePlaced (s : State) : State :=
  { s.wr HOM_SLMAP_REBUILD 0 with home := { s.home with rebuilding := none, headPtr := s.home.headPtr.put 16 0 } }

theorem rebuildDone_places {s : State} (rebuilds : s.rdB HOM_SLMAP_REBUILD = true) (none_held : s.home.held = [])
    (filt : ∀ x ∈ s.home.filt, x.2.slice ≠ 16) (evt : ∀ x ∈ s.home.evt, x.slice ≠ 16)
    (wbuf : ∀ w ∈ s.fc.wbuf, w.slice ≠ s.home.rebuilding.getD 16) :
    rebuildDone s = raise (256 + 8 * s.rd HOM_SLMAP_SUB + 4) (sparePlaced s) := by
  have no_filt : s.home.filt.any (fun x => x.2.slice == 16) = false := List.any_eq_false.2 (fun x mem => by simpa using filt x mem)
  have no_evt : s.home.evt.any (fun t => t.slice == 16) = false := List.any_eq_false.2 (fun x mem => by simpa using evt x mem)
  have no_wbuf : s.fc.wbuf.any (fun w => w.slice == s.home.rebuilding.getD 16) = false :=
    List.any_eq_false.2 (fun w mem => by simpa using wbuf w mem)
  unfold rebuildDone
  rw [rebuilds]
  dsimp only
  rw [no_filt, no_evt, no_wbuf]
  exact releaseHeld_nil _ (by rw [(Keeps.raise _ _).home]; exact none_held)

/-- Settles O22: nothing is left to drain, so the spare is put into service. -/
theorem sliceRebuildEnds : Obligations.SliceRebuildEnds := by
  intro s calm rebuilds none_held filt evt wbuf small
  have placed : (sparePlaced s).Calm :=
    have cleared := calm.wr HOM_SLMAP_REBUILD 0 0 (by decide) (by decide)
    ⟨cleared.drain, cleared.flush, cleared.plan, cleared.audit⟩
  have raised := Keeps.raise (256 + 8 * s.rd HOM_SLMAP_SUB + 4) (sparePlaced s)
  obtain ⟨t, ran, closed⟩ : Ends .sliceRebuildDone s (raise (256 + 8 * s.rd HOM_SLMAP_SUB + 4) (sparePlaced s)) :=
    .of_eq rfl (rebuildDone_places rebuilds none_held filt evt wbuf) (raised.calm placed)
  have kept := raised.trans closed
  refine ⟨t, ran, ?_, by rw [kept.home]; rfl, by rw [kept.home]; rfl, ?_, kept.fc, by rw [kept.mem]; rfl, fun f i closing other => ?_⟩
  · exact (kept.regs _ _ (by decide)).trans (s.rd_wr_same HOM_SLMAP_REBUILD 0 0)
  · exact closed.pend _ (raise_pend _ _ (slice_event_raised small))
  · have apart : f.id ≠ HOM_SLMAP_REBUILD.id := by simpa using other
    exact (kept.regs f i closing).trans (s.rd_wr_ne HOM_SLMAP_REBUILD 0 0 f i apart)

/-! A snoop that expires (R91, R92). -/

/-- The outstanding snoops without one that expired. -/
def dropSnoop (n : Snoop) (s : State) : State := { s with home := { s.home with snoops := s.home.snoops.filter (· ≠ n) } }

/-- A line's record poisoned: dirty, whole, without data (R91, step 1). -/
def FcLine.poisoned (l : FcLine) : FcLine := { l with dirty := true, poison := true, mask := fullMask, data := 0 }

/-- A Dead-Letter Store with one record (R429). -/
def recordFirst (line cause head : Nat) (s : State) : State :=
  { s with flt := { s.flt with dead := [⟨line, false, cause, head, s.stamp⟩] } }

/-- A line poisoned in its place in the front cache, the first that the Dead-Letter Store records. -/
def poisonPlace (line slot cause head : Nat) (l : FcLine) (s : State) : State :=
  setSlot slot (some l.poisoned) (recordFirst line cause head (nextClock s))

theorem deadLetter_first {s : State} (none_dead : s.flt.dead = []) (line cause head : Nat) :
    deadLetter line cause head false s = recordFirst line cause head s := by
  simp [deadLetter, recordFirst, none_dead]

/-- A line that the front cache holds is poisoned in its place. -/
theorem poisonLine_cached {s : State} {line slot : Nat} {l : FcLine} (none_dead : s.flt.dead = []) (place : s.fcFind line = some slot)
    (held : s.fc.lines.find slot = some l) (cause head : Nat) :
    poisonLine line cause head s = poisonPlace line slot cause head l s := by
  have place' : (recordFirst line cause head (nextClock s)).fcFind line = some slot := place
  have held' : (recordFirst line cause head (nextClock s)).fc.lines.find slot = some l := held
  simp only [poisonLine, deadLetter_first (s := nextClock s) none_dead, place', modLine, held', FcLine.poisoned, poisonPlace]

theorem find_setFilt (line : Nat) (e : FiltEntry) (s : State) : (setFilt line (some e) s).home.filt.find line = some e :=
  (Map.find_put _ _ _ _).trans (if_pos rfl)

/-- The filter entry of a line whose holder was silent (R91, step 2). -/
def FiltEntry.silenced (e : FiltEntry) (h : Nat) (pending : Bool) : FiltEntry :=
  { e with timedOut := true, silent := e.silent ||| headBit h, pending }

theorem markSilent_shown {s : State} {n : Snoop} {line : Nat} {e : FiltEntry} (no_eviction : s.home.evt = [])
    (shown : s.home.filt.find line = some e) (holds : e.holders.getLsbD n.head = true) :
    markSilent n line s = setFilt line (some (e.silenced n.head (s.snooped line))) s := by
  have untracked : ({ s with home := { s.home with evt := [] } } : State) = s := by rw [← no_eviction]
  simp only [markSilent, no_eviction, List.map_nil]
  rw [untracked, shown]
  exact if_pos holds

theorem markPending_markSilent {s : State} {n : Snoop} {line : Nat} {e : FiltEntry} (no_eviction : s.home.evt = [])
    (shown : s.home.filt.find line = some e) (holds : e.holders.getLsbD n.head = true) : ∃ p,
    markPending line (markSilent n line s) =
      setFilt line (some (e.silenced n.head p)) (setFilt line (some (e.silenced n.head (s.snooped line))) s) := by
  rw [markSilent_shown no_eviction shown holds]
  exact ⟨_, markPending_shown (find_setFilt line (e.silenced n.head (s.snooped line)) s)⟩

/-- A read answered with poison, its tracker free and its line's filter entry set. -/
def answerPoisoned (q : Req) (f : FiltEntry) (s : State) : State :=
  ((setFilt q.line (some f) (dropReq q.id s)).emit (.memData q.head q.haddr 0 true .invalid 0)).emit (.ndr q.head q.haddr .cmp 0)

/-- A waiting read whose line was poisoned leaves its tracker with poison (R91, step 3); the holders stay. -/
theorem completePoisoned_read {s : State} {q : Req} {e : FiltEntry} (waits : s.home.reqs = [q]) (kind : q.kind = .rd) (mute : q.mute = false)
    (ovd : q.ovd = false) (shown : s.home.filt.find q.line = some e) (some_holder : e.holders ≠ 0) :
    completePoisoned q s = answerPoisoned q { e with pending := s.snooped q.line } s := by
  have few : (s.trackers (sliceOf s q.line)).length ≤ 480 :=
    (List.length_filter_le _ _).trans (by simp [waits])
  have shown' : (dropReq q.id s).home.filt.find q.line = some e := shown
  simp only [completePoisoned, ovd, devLoad_light s _ few, shown', if_neg some_holder, kind, respond, mute]
  rfl

/-- The two counts of a head that did not answer in time (R91, step 4). -/
def countSilence (h : Nat) (s : State) : State := (s.bump HOM_HEAD_TO_TOTAL 1 h).wr HOM_HEAD_TO_RUN (min (s.rd HOM_HEAD_TO_RUN h + 1) 8) h

theorem countSilence_run {s : State} {h : Nat} (few : s.rd HOM_HEAD_TO_RUN h < 8) :
    (countSilence h s).rd HOM_HEAD_TO_RUN h = s.rd HOM_HEAD_TO_RUN h + 1 := by
  have width : 2 ^ HOM_HEAD_TO_RUN.w = 16 := rfl
  rw [countSilence, State.rd_wr_same, width]
  omega

theorem countSilence_total (h : Nat) (s : State) :
    (countSilence h s).rd HOM_HEAD_TO_TOTAL h = min (s.rd HOM_HEAD_TO_TOTAL h + 1) (2 ^ HOM_HEAD_TO_TOTAL.w - 1) :=
  (State.rd_wr_ne _ _ _ _ _ _ (by decide)).trans (State.rd_bump_same _ _ _ _)

theorem countSilence_rd (h : Nat) (s : State) {f : Fld} (total : f.id ≠ HOM_HEAD_TO_TOTAL.id) (run : f.id ≠ HOM_HEAD_TO_RUN.id) (i : Nat) :
    (countSilence h s).rd f i = s.rd f i :=
  (State.rd_wr_ne _ _ _ _ _ _ run).trans (State.rd_bump_ne _ _ _ _ _ _ total)

/-- Below its limit a silent head is counted and not fenced (R92). -/
theorem Keeps.countTimeout {s : State} {h : Nat} (few : s.rd HOM_HEAD_TO_RUN h < 8)
    (below : s.rd HOM_HEAD_TO_RUN h + 1 < s.rd HOM_CFG_DEAD_N) : Keeps (countSilence h s) (countTimeout h s) := by
  have told := Keeps.raiseLimited (128 + 8 * h + 2) 0 (countSilence h s)
  unfold Sys2Proof.Machine.countTimeout
  dsimp only
  rw [← countSilence]
  generalize Sys2Proof.Machine.raiseLimited (128 + 8 * h + 2) 0 (countSilence h s) = u at told ⊢
  have run := (told.regs HOM_HEAD_TO_RUN h (by decide)).trans (countSilence_run few)
  have limit := (told.regs HOM_CFG_DEAD_N 0 (by decide)).trans (countSilence_rd h s (by decide) (by decide) 0)
  rw [if_neg (by simp [run, limit, below])]
  exact told

/-- What the first step for an expired snoop leaves (R91): the line poisoned in its place and recorded with cause 4, the snoop gone; the
requests, the registers and the messages sent are as they were. -/
structure Struck (line slot : Nat) (l : FcLine) (s c : State) : Prop where
  reqs : c.home.reqs = s.home.reqs
  held : c.home.held = s.home.held
  snoops : c.home.snoops = []
  cache : c.fc.lines.find slot = some l.poisoned
  dead : c.flt.dead = [⟨line, false, 4, 0, s.stamp⟩]
  regs : c.regs = s.regs
  part : c.part = s.part
  mode : c.mode = s.mode
  cap : c.cap = s.cap
  out : c.out = s.out

theorem poisonPlace_struck {s : State} {n : Snoop} (only_snoop : s.home.snoops = [n]) (line slot : Nat) (l : FcLine) :
    Struck line slot l s (poisonPlace line slot 4 0 l (dropSnoop n s)) := by
  have gone : s.home.snoops.filter (· ≠ n) = [] := by simp [only_snoop]
  exact ⟨rfl, rfl, gone, (Map.find_put _ _ _ _).trans (if_pos rfl), rfl, rfl, rfl, rfl, rfl, rfl⟩

theorem Struck.setFilt {line slot : Nat} {l : FcLine} {s c : State} (struck : Struck line slot l s c) (x : Nat) (e : Option FiltEntry) :
    Struck line slot l s (setFilt x e c) :=
  ⟨struck.reqs, struck.held, struck.snoops, struck.cache, struck.dead, struck.regs, struck.part, struck.mode, struck.cap, struck.out⟩

/-- The silent head stays the holder of the line, marked (R91, step 2). -/
def ShowsSilent (line h : Nat) (c : State) : Prop :=
  ∃ f, c.home.filt.find line = some f ∧ f.holders = headBit h ∧ f.timedOut = true ∧ f.silent.getLsbD h = true

section Expires
variable {s : State} {h : Head} {line slot : Nat} {n : Snoop} {e : FiltEntry} {q : Req} {l : FcLine} (only_snoop : s.home.snoops = [n])
  (own : n.head = h) (shown : s.home.filt.find line = some e) (sole : e.holders = headBit h)
include only_snoop own shown sole

theorem poisonPlace_marked (no_eviction : s.home.evt = []) :
    Struck line slot l s (markPending line (markSilent n line (poisonPlace line slot 4 0 l (dropSnoop n s)))) ∧
      ShowsSilent line h (markPending line (markSilent n line (poisonPlace line slot 4 0 l (dropSnoop n s)))) := by
  have holds : e.holders.getLsbD n.head = true := by rw [own, sole]; exact headBit_self h
  obtain ⟨p, marked⟩ := markPending_markSilent (s := poisonPlace line slot 4 0 l (dropSnoop n s)) no_eviction shown holds
  rw [marked]
  exact ⟨((poisonPlace_struck only_snoop line slot l).setFilt _ _).setFilt _ _, _, find_setFilt _ _ _, sole, rfl,
    by simp [FiltEntry.silenced, own, headBit_self]⟩

/-- The one snoop of a waiting request expires: the request is completed, and the silent head counted. -/
theorem bisnpTimeout_expires (last : n.left = [line]) (why : n.why = .request q.id) (no_eviction : s.home.evt = [])
    (waits : s.home.reqs = [q]) (none_dead : s.flt.dead = []) (place : s.fcFind line = some slot) (cached : s.fc.lines.find slot = some l) :
    ∃ c, (Struck line slot l s c ∧ ShowsSilent line h c) ∧ bisnpTimeout h line s = releaseHeld (countTimeout h (completePoisoned q c)) := by
  have expired := poisonPlace_marked (l := l) (slot := slot) only_snoop own shown sole no_eviction
  rw [← poisonLine_cached (s := dropSnoop n s) none_dead place cached 4 0] at expired
  refine ⟨_, expired, ?_⟩
  have found : s.snoopOf h line = some n := by simp [State.snoopOf, only_snoop, own, last]
  have holds : (dropSnoop n s).holds h line = true := by
    show s.holds h line = true
    simp [State.holds, shown, sole, headBit_self]
  have poisons : n.left.filter ((dropSnoop n s).holds h) = [line] := by simp [last, holds]
  have request := expired.1.reqs.trans waits
  unfold bisnpTimeout
  rw [found]
  dsimp only
  rw [← dropSnoop, poisons, last]
  show releaseHeld (countTimeout h (expireFor n (markPending line (markSilent n line (poisonLine line 4 0 (dropSnoop n s)))))) = _
  generalize markPending line (markSilent n line (poisonLine line 4 0 (dropSnoop n s))) = c at request
  simp [expireFor, why, State.req, request]

end Expires

theorem answerPoisoned_data (q : Req) (f : FiltEntry) (s : State) :
    Sends s (answerPoisoned q f s) (.memData q.head q.haddr 0 true .invalid 0) := (Sends.emit s _).after ⟨[_], rfl⟩

theorem answerPoisoned_completes (q : Req) (f : FiltEntry) (s : State) : Sends s (answerPoisoned q f s) (.ndr q.head q.haddr .cmp 0) :=
  (Sends.emit (s.emit _) _).before ⟨[_], rfl⟩

theorem answerPoisoned_leaves {s : State} {q : Req} (f : FiltEntry) (waits : s.home.reqs = [q]) : (answerPoisoned q f s).home.reqs = [] := by
  show s.home.reqs.filter (fun r => r.id ≠ q.id) = []
  simp [waits]

/-- Settles O21: the line is poisoned where it stands, the read leaves with poison, and its holder stays, marked and counted. -/
theorem snoopTimeoutPoisons : Obligations.SnoopTimeoutPoisons := by
  intro s h line slot n e q l calm only_snoop own _ last why none_held no_eviction shown sole dead waits own_line kind mute ovd place cached sound
    none_dead below few
  subst own_line
  obtain ⟨c, ⟨⟨reqs, held, snoops, poisoned, recorded, regs, part, mode, cap, out⟩, f, entry, holder, timed, silent⟩, expires⟩ :=
    bisnpTimeout_expires only_snoop own shown sole last why no_eviction waits none_dead place cached
  have request := reqs.trans waits
  rw [completePoisoned_read request kind mute ovd entry (holder ▸ headBit_ne h)] at expires
  generalize marked : ({ f with pending := c.snooped q.line } : FiltEntry) = g at expires
  have reads : ∀ f i, (answerPoisoned q g c).rd f i = s.rd f i := State.rd_congr regs part
  have calm_result : (answerPoisoned q g c).Calm := calm.of mode (fun f i _ _ => reads f i) (congrArg Cap.auditWalk cap)
    (by rw [State.serving, State.serving, State.modeCode, State.modeCode, reads, show (answerPoisoned q g c).mode = s.mode from mode])
  have counted : Keeps (countSilence h (answerPoisoned q g c)) (countTimeout h (answerPoisoned q g c)) :=
    .countTimeout (by rw [reads]; exact few) (by rw [reads, reads]; exact below)
  obtain ⟨t, ran, closed⟩ : Ends (.bisnpTimeout h q.line) s (countTimeout h (answerPoisoned q g c)) :=
    .of_eq rfl (expires.trans (releaseHeld_nil _ (by rw [counted.home]; exact held.trans none_held)))
      (counted.calm ((calm_result.bump HOM_HEAD_TO_TOTAL 1 h (by decide) (by decide)).wr HOM_HEAD_TO_RUN _ h (by decide) (by decide)))
  have kept := counted.trans closed
  have sent : ∃ o, c.out = s.out ++ o := ⟨[], by rw [out, List.append_nil]⟩
  refine ⟨t, ran, ⟨l.poisoned, ?_, rfl, rfl, rfl⟩, ⟨⟨q.line, false, 4, 0, s.stamp⟩, ?_, rfl, rfl⟩, ?_, ?_, ⟨g, ?_, ?_, ?_, ?_⟩, ?_, ?_, ?_, ?_,
    fun f i closing other => ?_⟩
  · rw [kept.fc]; exact poisoned
  · rw [kept.flt]; exact recorded
  · exact ((answerPoisoned_data q g c).before sent).after kept.out
  · exact ((answerPoisoned_completes q g c).before sent).after kept.out
  · rw [kept.home]; exact find_setFilt _ _ _
  · rw [← marked]; exact holder
  · rw [← marked]; exact timed
  · rw [← marked]; exact silent
  · rw [kept.home]; exact answerPoisoned_leaves g request
  · rw [kept.home]; exact snoops
  · rw [kept.regs _ _ (by decide), countSilence_total, reads]
  · rw [kept.regs _ _ (by decide), countSilence_run (by rw [reads]; exact few), reads]
  · simp only [List.map_cons, List.map_nil, List.contains_cons, List.contains_nil, Bool.or_false, Bool.or_eq_false_iff,
      beq_eq_false_iff_ne] at other
    rw [kept.regs f i closing, countSilence_rd h _ other.1 other.2, reads]

/-! The fetch of an entry line (R67, R69). -/

/-- An entry line last fetched and last used. -/
def entryFetched (line : Nat) (s : State) : State :=
  { s with mem := { s.mem with entryWait := s.mem.entryWait.filter (· ≠ line), cached := line :: s.mem.cached.filter (· ≠ line) } }

theorem cacheEntry_room {s : State} (line : Nat) (room : s.mem.cached.length < metaLines) :
    cacheEntry (4 * line) s = { s with mem := { s.mem with cached := line :: s.mem.cached.filter (· ≠ line) } } := by
  have own : entryLine (4 * line) = line := Nat.mul_div_cancel_left line (by decide)
  have fits : (s.mem.cached.filter (· ≠ line)).length < metaLines := (List.length_filter_le _ _).trans_lt room
  simp only [cacheEntry, own, if_pos fits]

/-- A fetch that is over. -/
def endFetch (line : Nat) (s : State) : State := { s with mem := { s.mem with entryWait := s.mem.entryWait.filter (· ≠ line) } }

theorem entryDone_verified {s : State} {line : Nat} (waited : s.mem.entryWait.contains line = true) (runs : s.stopped = false)
    (none_waits : ∀ q ∈ s.home.reqs, q.stage = .entry → entryLine (linePage q.line) ≠ line) (room : s.mem.cached.length < metaLines) :
    entryDone line .verified s = entryFetched line s := by
  have no_reqs : entryReqs (endFetch line s) line = [] :=
    List.filter_eq_nil_iff.2 (fun q mem => by simpa using none_waits q mem)
  calc entryDone line .verified s
      = forAll (entryReqs (endFetch line s) line) dataStage (cacheEntry (4 * line) (endFetch line s)) := by
        unfold entryDone
        rw [waited, runs]
        rfl
    _ = cacheEntry (4 * line) (endFetch line s) := by rw [no_reqs]; rfl
    _ = entryFetched line s := cacheEntry_room (s := endFetch line s) line room

/-! The retry of a Halt record (R165). -/

/-- What a record written at once leaves alone: the mode, the data plane, the pins, a flush and a walk audit under way. -/
structure Booked (s t : State) : Prop where
  active : t.rd TLR_STAT_ACTIVE = s.rd TLR_STAT_ACTIVE
  mode : t.mode = s.mode
  home : t.home = s.home
  fc : t.fc = s.fc
  keys : t.keys = s.keys
  store : t.mem.store = s.mem.store
  pins : t.pins = s.pins
  walk : t.cap.auditWalk = s.cap.auditWalk

theorem Booked.trans {a b c : State} (h : Booked a b) (k : Booked b c) : Booked a c :=
  ⟨k.active.trans h.active, k.mode.trans h.mode, k.home.trans h.home, k.fc.trans h.fc, k.keys.trans h.keys, k.store.trans h.store,
    k.pins.trans h.pins, k.walk.trans h.walk⟩

theorem Keeps.booked {s t : State} (kept : Keeps s t) : Booked s t :=
  ⟨kept.regs _ _ (by decide), kept.mode, kept.home, kept.fc, kept.keys, by rw [kept.mem], kept.pins, by rw [kept.cap]⟩

theorem Booked.bump (s : State) (f : Fld) (n i : Nat) (other : TLR_STAT_ACTIVE.id ≠ f.id) : Booked s (s.bump f n i) :=
  ⟨State.rd_bump_ne _ _ _ _ _ _ other, rfl, rfl, rfl, rfl, rfl, rfl, rfl⟩

theorem Booked.rebase (s : State) : Booked s (rebase s) := ⟨rfl, rfl, rfl, rfl, rfl, rfl, rfl, rfl⟩

theorem Booked.commitPage (r : LogRun) (s : State) : Booked s (commitPage r s) := by
  have counted : ∀ t : State, Booked t
      (((Sys2Proof.Machine.count 0xA10 none 0x1F 1 (t.bump LOG_CNT_WRITES 1)).bump LOG_PART_W_WRITES 1 r.req.part).wr LOG_STAT_LASTRES 0) :=
    fun t => (((Booked.bump t LOG_CNT_WRITES 1 0 (by decide)).trans (Keeps.count _ _ _ _ _).booked).trans
      (.bump _ LOG_PART_W_WRITES 1 _ (by decide))).trans (Keeps.wr _ LOG_STAT_LASTRES 0 0 (by decide) (by decide) (by decide)).booked
  unfold Sys2Proof.Machine.commitPage
  dsimp only
  refine Booked.trans ?_ (counted _)
  split
  · exact (Keeps.book s _).booked.trans (.rebase _)
  · exact (Keeps.book s _).booked

/-- A record written at once, or refused, touches the Logbook alone. -/
theorem Booked.recordNow (r : FaultRec) (s : State) : Booked s (recordNow r s).2 := by
  unfold Sys2Proof.Machine.recordNow
  extract_lets u w
  have began : Booked s u := by
    unfold u
    split
    · exact (Booked.commitPage _ s).trans (Keeps.book _ _).booked
    · exact (Keeps.refl s).booked
  refine began.trans ?_
  clear_value u
  split
  · exact (Keeps.refuseWrite w _ u).booked
  · have chosen := Keeps.chooseShadow 7 4096 u
    split
    · rename_i v found
      have kept : Keeps u v := by rw [found] at chosen; exact chosen
      exact ((kept.trans (.raise 978 v)).trans (.refuseWrite w 4 _)).booked
    · rename_i k wear v found
      have kept : Keeps u v := by rw [found] at chosen; exact chosen
      exact (kept.trans (.book v _)).booked.trans (.commitPage ⟨w, _, _, k, 0, []⟩ _)

theorem haltWrite_busy {s : State} (busy : (recordNow s.haltRecord s).1 = 1) :
    haltWrite s = { (recordNow s.haltRecord s).2 with mode := { (recordNow s.haltRecord s).2.mode with halting := true } } := if_pos busy

theorem haltWrite_written {s : State} (written : (recordNow s.haltRecord s).1 ≠ 1) :
    haltWrite s = haltDone (recordNow s.haltRecord s).2 := if_neg written

/-- The Halt waits no more, and memory is not active. -/
def leaveHalting (s : State) : State := { s with mode := { s.mode with halting := false, memActive := false } }

/-- The last step of the Halt before its count and its event: mode 7, FAULT_N asserted (R165, step 5). -/
def halted (s : State) : State :=
  let u := setMode 7 (leaveHalting s)
  { u with pins := { u.pins with faultN := false } }

theorem haltDone_eq (s : State) : haltDone s = raise 76 (bumpDurable 4 (halted s)) := by
  simp only [haltDone, halted, leaveHalting]

theorem Keeps.haltDone (s : State) : Keeps (halted s) (haltDone s) := by
  rw [haltDone_eq]
  exact (Keeps.logSend 2 6 (.counter 4 1 false) true (halted s)).trans (.raise 76 _)

theorem haltDone_pend (s : State) : (haltDone s).rdBit EVT_PEND_PEND (76 % 64) (76 / 64) = true := raise_pend 76 _ (by decide)

theorem setMode_keeps (m : Nat) (s : State) : Keeps ((s.wr MOD_STATE_PREV s.modeCode).wr MOD_STATE_STATE m) (setMode m s) := .raise 64 _

/-- What the last step of the Halt leaves: the mode, the pin, and the data plane, a flush and a walk audit as they were. -/
structure Halted (s t : State) : Prop where
  code : t.modeCode = 7
  mode : t.mode = { s.mode with halting := false, memActive := false }
  faultN : t.pins.faultN = false
  modeEvent : t.rdBit EVT_PEND_PEND (64 % 64) (64 / 64) = true
  home : t.home = s.home
  fc : t.fc = s.fc
  keys : t.keys = s.keys
  store : t.mem.store = s.mem.store
  walk : t.cap.auditWalk = s.cap.auditWalk
  active : t.rd TLR_STAT_ACTIVE = s.rd TLR_STAT_ACTIVE

theorem halted_spec (s : State) : Halted s (halted s) := by
  have set := setMode_keeps 7 (leaveHalting s)
  have code := setMode_code 7 (leaveHalting s) (by decide)
  have told : (setMode 7 (leaveHalting s)).rdBit EVT_PEND_PEND (64 % 64) (64 / 64) = true := raise_pend 64 _ (by decide)
  have active := setMode_rd 7 (leaveHalting s) TLR_STAT_ACTIVE 0 (by decide) (by decide) (by decide)
  have booked := set.booked
  unfold halted
  generalize setMode 7 (leaveHalting s) = u at booked code told active
  exact ⟨code, booked.mode, rfl, told, booked.home, booked.fc, booked.keys, booked.store, booked.walk, active⟩

/-- A state with no walk audit is calm where it drains, plans and flushes no more than a calm one. -/
theorem State.Calm.unwalked {s t : State} (calm : s.Calm) (drain : t.mode.stopStep = s.mode.stopStep)
    (plan : t.mode.planWait = s.mode.planWait) (active : t.rd TLR_STAT_ACTIVE = s.rd TLR_STAT_ACTIVE) (no_walk : t.cap.auditWalk = none) :
    t.Calm :=
  ⟨drain.trans calm.drain, (congrArg (· == 1) active).trans calm.flush, plan.trans calm.plan, .inl no_walk⟩

theorem Halted.calm {s u t : State} (halt : Halted u t) (booked : Booked s u) (calm : s.Calm) (no_walk : s.cap.auditWalk = none) :
    t.Calm :=
  calm.unwalked (by rw [halt.mode, booked.mode]) (by rw [halt.mode, booked.mode]) (halt.active.trans booked.active)
    ((halt.walk.trans booked.walk).trans no_walk)

theorem haltRecordRetry_tries {s x : State} (waits : s.mode.halting = true) (tried : haltWrite s = x) (calm : x.Calm) :
    Ends .haltRecordRetry s x := .of_eq rfl ((if_pos waits).trans tried) calm

/-- Settles O28: a verified line is only cached, and a retry ends the Halt exactly where the record is not refused Busy. -/
theorem fetchesAndHaltGoOn : Obligations.FetchesAndHaltGoOn := by
  refine fun s calm => ⟨fun line waited runs none_held none_waits room => ?_, fun waits no_walk => ⟨fun written => ?_, fun busy => ?_⟩⟩
  · exact .of_eq rfl ((congrArg releaseHeld (entryDone_verified waited runs none_waits room)).trans (releaseHeld_nil _ none_held))
      ⟨calm.drain, calm.flush, calm.plan, calm.audit⟩
  · have booked := Booked.recordNow s.haltRecord s
    have tried := haltWrite_written written
    generalize (recordNow s.haltRecord s).2 = u at booked tried
    have halt := halted_spec u
    have done := Keeps.haltDone u
    obtain ⟨t, ran, closed⟩ := haltRecordRetry_tries waits tried (done.calm (halt.calm booked calm no_walk))
    have kept := done.trans closed
    have code : t.modeCode = 7 := kept.modes.elim (·.trans halt.code) (fun served => absurd served.1 (by rw [halt.code]; decide))
    refine ⟨t, ran, code, ?_, ?_, ?_, kept.pend 64 halt.modeEvent, closed.pend 76 (haltDone_pend u), ?_, ?_, ?_, ?_⟩
    · rw [kept.mode, halt.mode]
    · rw [kept.mode, halt.mode]
    · rw [kept.pins, halt.faultN]
    · rw [kept.fc, halt.fc, booked.fc]
    · rw [kept.home, halt.home, booked.home]
    · rw [kept.keys, halt.keys, booked.keys]
    · rw [kept.mem]; exact halt.store.trans booked.store
  · have booked := Booked.recordNow s.haltRecord s
    have tried := haltWrite_busy busy
    generalize (recordNow s.haltRecord s).2 = u at booked tried
    have still : { u.mode with halting := true } = s.mode := by rw [booked.mode, ← waits]
    rw [still] at tried
    obtain ⟨t, ran, kept⟩ := haltRecordRetry_tries waits tried
      (calm.unwalked rfl rfl booked.active (booked.walk.trans no_walk))
    exact ⟨t, ran, kept.mode, kept.fc.trans booked.fc, kept.pins.trans booked.pins⟩

end Sys2Proof.Machine
end

section
/-! PROOFS. The front cache (chapter 04): a write held at the persistent dirty limit (R104), maintenance operations of one line (R105 to R107,
R113, R116), the end of an operation and the vendor command that asks for one (R114, R116, R471, R473). -/
namespace Sys2Proof.Machine

/-! A write held at the persistent dirty limit (R104). -/

/-- A request that waits in its data stage and answers no snoop goes on there (R82, R104). -/
theorem takeUp_data {s : State} {q : Req} (unsnooped : s.snooped q.line = false) (stage : q.stage.inData = true) :
    takeUp q s = dataStage q s := by
  have answers_none : (if q.kind.answers then s.snoopOf q.head q.line else none) = none := by
    rw [snoopOf_none s _ _ unsnooped, ite_self]
  unfold takeUp
  rw [answers_none]
  cases waits : q.stage with
  | alloc | pdirty | entry | fill => rfl
  | queued | way | hold | snoop => simp [waits, Stage.inData] at stage

/-- Settles O19: below the limit the write goes on in its data stage, alone in the slice, and finds its line in place. -/
theorem heldPersistentWriteProceeds : Obligations.HeldPersistentWriteProceeds := by
  intro s line slot r q old calm region none_held waits own_line kind sound stage mute ovd small alive unsnooped place cached unpoisoned
    below room
  subst own_line
  obtain ⟨completes, placed, others, -, done, regs, store, calm_after, held⟩ := write_done q s r q.line slot fullMask [] (some old) waits
    (by simp) rfl (.inl kind) mute ovd sound small (by rw [kind]; rfl) region below room ⟨place, unpoisoned⟩ cached (by simp)
    ((BitVec.and_comm _ _).trans alive) calm
  have goes_on : retryStage q.line .pdirty s = dataStage q s := by
    rw [retryStage_alone waits rfl stage, takeUp_data unsnooped (by rw [stage]; rfl), releaseHeld_nil _ (held.trans none_held)]
  obtain ⟨t, ran, kept⟩ : Ends (.persistDirtyWaitEnd q.line) s (dataStage q s) := .of_eq rfl goes_on calm_after
  refine ⟨t, ran, completes.after kept.out, ?_, fun j other => ?_, ?_, RK.trans regs (RK.of kept), ?_⟩
  · rw [kept.fc]; exact placed
  · rw [kept.fc]; exact others j other
  · rw [kept.home]; exact done
  · rw [kept.mem]; exact store

/-! What a maintenance operation may change. -/

/-- What the operation of a head and its lines leave alone: every register but those named, and all beside the front cache and page work. -/
structure MopOnly (except : List Fld) (s t : State) : Prop where
  regs : ∀ (f : Fld) (i : Nat), (except.map Fld.id).contains f.id = false → t.rd f i = s.rd f i
  part : t.part = s.part
  mem : t.mem = s.mem
  home : t.home = s.home
  mode : t.mode = s.mode
  cap : t.cap = s.cap
  upsets : t.upsets = s.upsets

/-- The registers in which an operation and its progress show (R105, R116). -/
def mopFlds : List Fld :=
  [FCA_MOP_CTL_LINES, FCA_MOP_CTL_OP, FCA_MOP_STAT_BUSY, FCA_MOP_STAT_DONE, FCA_MOP_STAT_SKIP, FCA_LOCKQ_USED]

section MopOnly
variable {except : List Fld}

theorem MopOnly.refl (s : State) : MopOnly except s s := ⟨fun _ _ _ => rfl, rfl, rfl, rfl, rfl, rfl, rfl⟩

theorem MopOnly.trans {a b c : State} (h : MopOnly except a b) (k : MopOnly except b c) : MopOnly except a c :=
  ⟨fun f i other => (k.regs f i other).trans (h.regs f i other), k.part.trans h.part, k.mem.trans h.mem, k.home.trans h.home,
    k.mode.trans h.mode, k.cap.trans h.cap, k.upsets.trans h.upsets⟩

theorem MopOnly.wr {f : Fld} (named : (except.map Fld.id).contains f.id = true) (v i : Nat) (s : State) : MopOnly except s (s.wr f v i) :=
  ⟨fun g j other => s.rd_wr_ne f v i g j (fun same => by rw [same, named] at other; cases other), rfl, rfl, rfl, rfl, rfl, rfl⟩

/-- An operation lies outside the registers that say where lines are and whose they are. -/
theorem MopOnly.sees {s t : State} (only : MopOnly except s t)
    (apart : viewFlds.all (fun i => !(except.map Fld.id).contains i) = true) : Sees s t where
  part := only.part
  regs f i seen := only.regs f i (by simpa using List.all_eq_true.1 apart f.id (List.contains_iff_mem.1 seen))
  ext e h := by unfold State.accepted; rw [only.mem]

theorem MopOnly.calm {s t : State} (only : MopOnly except s t)
    (apart : viewFlds.all (fun i => !(except.map Fld.id).contains i) = true) (calm : s.Calm) : t.Calm :=
  (only.sees apart).calm only.mode (congrArg Cap.auditWalk only.cap) calm

theorem MopOnly.setMop (h : Nat) (m : Option Mop) (s : State) : MopOnly except s (setMop h m s) :=
  ⟨fun _ _ _ => rfl, rfl, rfl, rfl, rfl, rfl, rfl⟩

theorem MopOnly.setSlot (k : Nat) (l : Option FcLine) (s : State) : MopOnly except s (setSlot k l s) :=
  ⟨fun _ _ _ => rfl, rfl, rfl, rfl, rfl, rfl, rfl⟩

/-- What is left alone under a list of registers is left alone under a longer one. -/
theorem MopOnly.widen {more : List Fld} {s t : State} (only : MopOnly except s t)
    (sub : (except.map Fld.id).all (fun i => (more.map Fld.id).contains i) = true) : MopOnly more s t :=
  { only with
    regs := fun f i other => only.regs f i (Bool.eq_false_iff.2 (fun named => by
      rw [List.all_eq_true.1 sub f.id (List.contains_iff_mem.1 named)] at other; cases other)) }

end MopOnly

/-! An operation begins, shows its progress, and ends (R113, R114, R116). -/

/-- An operation in progress with none of its lines done. -/
def mopBegun (m : Mop) (s : State) : State :=
  setMop m.head (some m) (((s.wr FCA_MOP_STAT_BUSY 1 m.head).wr FCA_MOP_STAT_DONE 0 m.head).wr FCA_MOP_STAT_SKIP 0 m.head)

/-- An operation in progress, its counts shown. -/
def mopShown (m : Mop) (s : State) : State :=
  setMop m.head (some m) ((s.wr FCA_MOP_STAT_DONE m.done m.head).wr FCA_MOP_STAT_SKIP m.skip m.head)

/-- An operation gone, its final values shown. -/
def mopOver (m : Mop) (result : Nat) (s : State) : State :=
  ((((setMop m.head none s).wr FCA_MOP_STAT_BUSY 0 m.head).wr FCA_MOP_STAT_RESULT result m.head).wr FCA_MOP_STAT_DONE m.done m.head).wr
    FCA_MOP_STAT_SKIP m.skip m.head

theorem MopOnly.begun (m : Mop) (s : State) :
    MopOnly [FCA_MOP_STAT_BUSY, FCA_MOP_STAT_DONE, FCA_MOP_STAT_SKIP] s (mopBegun m s) :=
  (((MopOnly.wr (by decide) _ _ s).trans (.wr (by decide) _ _ _)).trans (.wr (by decide) _ _ _)).trans (.setMop _ _ _)

theorem MopOnly.shown (m : Mop) (s : State) : MopOnly [FCA_MOP_STAT_DONE, FCA_MOP_STAT_SKIP] s (mopShown m s) :=
  ((MopOnly.wr (by decide) _ _ s).trans (.wr (by decide) _ _ _)).trans (.setMop _ _ _)

theorem MopOnly.over (m : Mop) (result : Nat) (s : State) :
    MopOnly [FCA_MOP_STAT_BUSY, FCA_MOP_STAT_RESULT, FCA_MOP_STAT_DONE, FCA_MOP_STAT_SKIP] s (mopOver m result s) :=
  ((((MopOnly.setMop _ _ s).trans (.wr (by decide) _ _ _)).trans (.wr (by decide) _ _ _)).trans (.wr (by decide) _ _ _)).trans
    (.wr (by decide) _ _ _)

theorem mopBegun_busy (m : Mop) (s : State) : (mopBegun m s).rd FCA_MOP_STAT_BUSY m.head = 1 :=
  (State.rd_wr_ne _ _ _ _ _ _ (by decide)).trans ((State.rd_wr_ne _ _ _ _ _ _ (by decide)).trans (State.rd_wr_same _ _ _ _))

theorem mopShown_done (m : Mop) (s : State) : (mopShown m s).rd FCA_MOP_STAT_DONE m.head = m.done % 2 ^ FCA_MOP_STAT_DONE.w :=
  (State.rd_wr_ne _ _ _ _ _ _ (by decide)).trans (State.rd_wr_same _ _ _ _)

theorem mopShown_skip (m : Mop) (s : State) : (mopShown m s).rd FCA_MOP_STAT_SKIP m.head = m.skip % 2 ^ FCA_MOP_STAT_SKIP.w :=
  State.rd_wr_same _ _ _ _

theorem mopOver_busy (m : Mop) (result : Nat) (s : State) : (mopOver m result s).rd FCA_MOP_STAT_BUSY m.head = 0 := by
  unfold mopOver
  rw [State.rd_wr_ne _ _ _ _ _ _ (by decide), State.rd_wr_ne _ _ _ _ _ _ (by decide), State.rd_wr_ne _ _ _ _ _ _ (by decide),
    State.rd_wr_same]
  rfl

theorem mopOver_result (m : Mop) (result : Nat) (s : State) :
    (mopOver m result s).rd FCA_MOP_STAT_RESULT m.head = result % 2 ^ FCA_MOP_STAT_RESULT.w := by
  unfold mopOver
  rw [State.rd_wr_ne _ _ _ _ _ _ (by decide), State.rd_wr_ne _ _ _ _ _ _ (by decide), State.rd_wr_same]

theorem mopOver_done (m : Mop) (result : Nat) (s : State) :
    (mopOver m result s).rd FCA_MOP_STAT_DONE m.head = m.done % 2 ^ FCA_MOP_STAT_DONE.w := by
  unfold mopOver
  rw [State.rd_wr_ne _ _ _ _ _ _ (by decide), State.rd_wr_same]

theorem mopOver_skip (m : Mop) (result : Nat) (s : State) :
    (mopOver m result s).rd FCA_MOP_STAT_SKIP m.head = m.skip % 2 ^ FCA_MOP_STAT_SKIP.w := State.rd_wr_same _ _ _ _

theorem mopOver_gone (m : Mop) (result : Nat) (s : State) : ∀ x ∈ (mopOver m result s).fc.mops, x.head ≠ m.head := by
  intro x mem
  have left : x ∈ s.fc.mops.filter (fun x => x.head ≠ m.head) ++ [] := mem
  simp only [List.append_nil, List.mem_filter, decide_eq_true_eq] at left
  exact left.2

/-- A head runs one operation at a time, and it is the one last set. -/
theorem setMop_find (m : Mop) (s : State) : (setMop m.head (some m) s).fc.mops.find? (fun x => x.head == m.head) = some m := by
  have gone : (s.fc.mops.filter (fun x => x.head ≠ m.head)).find? (fun x => x.head == m.head) = none := List.find?_eq_none.2 (by simp)
  show (s.fc.mops.filter (fun x => x.head ≠ m.head) ++ [m]).find? (fun x => x.head == m.head) = some m
  rw [List.find?_append, gone]
  simp

theorem setMop_mops_twice (m n : Mop) {s t : State} (same : n.head = m.head) (mops : t.fc.mops = (setMop m.head (some m) s).fc.mops) :
    (setMop n.head (some n) t).fc.mops = s.fc.mops.filter (fun x => x.head ≠ m.head) ++ [n] := by
  show t.fc.mops.filter (fun x => x.head ≠ n.head) ++ [n] = _
  rw [mops, same]
  simp [setMop, List.filter_filter]

theorem mopStart_begins {h op haddr lines : Nat} {rt : Option Route} {s : State} (unfenced : s.headFenced h = false) :
    mopStart h op haddr lines rt s =
      mopStep ⟨h, op, haddr, lines, [], 0, 0, 0, rt⟩ (mopBegun ⟨h, op, haddr, lines, [], 0, 0, 0, rt⟩ s) := by
  have still : (mopBegun ⟨h, op, haddr, lines, [], 0, 0, 0, rt⟩ s).headFenced h = false :=
    (((MopOnly.begun _ s).sees (by decide)).headFenced h).trans unfenced
  exact if_neg (Bool.eq_false_iff.1 still)

/-- An operation after its only line: done, and counted as skipped or not. -/
def Mop.afterOne (m : Mop) (skipped : Nat) : Mop :=
  { m with haddr := m.haddr + 1, left := 0, done := m.done + 1, skip := m.skip + skipped }

theorem mopStep_afterOne {m : Mop} {s v : State} (one : m.left = 1) (runs : s.stopped = false) {result : MopLine} {skipped : Nat}
    (counted : result = .done ∧ skipped = 0 ∨ result = .skipped ∧ skipped = 1)
    (worked : mopLine m.head m.op m.haddr s = (result, v)) : mopStep m s = mopShown (m.afterOne skipped) v := by
  simp only [State.stopped, Bool.or_eq_false_iff, beq_eq_false_iff_ne] at runs
  rcases counted with ⟨rfl, rfl⟩ | ⟨rfl, rfl⟩ <;>
    simp [mopStep, mopRun, one, runs, worked, mopShown, Mop.afterOne]

theorem mopStep_finished {m : Mop} {s : State} (finished : m.left = 0) : mopStep m s = mopShown m s := by
  simp [mopStep, mopRun, finished, mopShown]

/-! The work on a line that is present (R105 to R107, R113). -/

/-- A head line of an operation whose line stands in the front cache, no upset cell waiting to be found. -/
structure MopAt (s : State) (h haddr : Nat) (r : Region) (line k : Nat) (l : FcLine) : Prop where
  upsets : s.upsets = []
  view : s.mopView h haddr = some (r, line)
  place : s.fcFind line = some k
  held : s.fc.lines.find k = some l

theorem MopAt.cached {s : State} {h haddr : Nat} {r : Region} {line k : Nat} {l : FcLine} (found : MopAt s h haddr r line k l) :
    s.fcLine line = some l := by
  rw [State.fcLine, found.place]
  exact found.held

theorem MopAt.seen {s t : State} {h haddr : Nat} {r : Region} {line k : Nat} {l : FcLine} (found : MopAt s h haddr r line k l)
    (sees : Sees s t) (lines : t.fc.lines = s.fc.lines) (upsets : t.upsets = s.upsets) : MopAt t h haddr r line k l :=
  ⟨upsets.trans found.upsets, (sees.mopView h haddr).trans found.view, (sees.fcFind lines line).trans found.place, by
    rw [lines]; exact found.held⟩

theorem find_upd {α : Type} (m : Map α) (k : Nat) (v : Option α) (j : Nat) : (m.upd k v).find j = if j = k then v else m.find j := by
  cases v with
  | none => exact m.find_del k j
  | some v => exact m.find_put k v j

/-- The work of an operation on the line in a place: that place alone, page work, and the lock use of a head. -/
structure LineWork (k : Nat) (l' : Option FcLine) (s t : State) : Prop where
  only : MopOnly [FCA_LOCKQ_USED] s t
  mops : t.fc.mops = s.fc.mops
  lines : ∀ j, t.fc.lines.find j = if j = k then l' else s.fc.lines.find j

theorem LineWork.stays {s : State} {k : Nat} {l : FcLine} (held : s.fc.lines.find k = some l) : LineWork k (some l) s s :=
  ⟨.refl s, rfl, fun j => by split <;> simp [*]⟩

theorem LineWork.setSlot (k : Nat) (l : Option FcLine) (s : State) : LineWork k l s (setSlot k l s) :=
  ⟨.setSlot k l s, rfl, find_upd s.fc.lines k l⟩

theorem LineWork.wr_used {s t : State} {k : Nat} {l : Option FcLine} (work : LineWork k l s t) (v h : Nat) :
    LineWork k l s (t.wr FCA_LOCKQ_USED v h) := ⟨work.only.trans (.wr (by decide) v h t), work.mops, work.lines⟩

theorem unlockLine_unlocked {s : State} {line : Nat} {l : FcLine} (cached : s.fcLine line = some l) (unlocked : l.locked = false) :
    unlockLine line s = s := by
  simp [unlockLine, cached, unlocked]

/-- Of the lines of a sheet only one is of interest. -/
theorem filterMap_sheetLines_one {β : Type} {g : Nat → Option β} {line : Nat} {b : β} (own : g line = some b)
    (others : ∀ x ∈ sheetLines (lineSheet line), x ≠ line → g x = none) : (sheetLines (lineSheet line)).filterMap g = [b] := by
  have place : line = 4 * lineSheet line ∨ line = 4 * lineSheet line + 1 ∨ line = 4 * lineSheet line + 2 ∨ line = 4 * lineSheet line + 3 := by
    unfold lineSheet; omega
  simp only [sheetLines, List.mem_cons, List.not_mem_nil, or_false, forall_eq_or_imp, forall_eq] at others ⊢
  obtain ⟨zeroth, first, second, third⟩ := others
  generalize lineSheet line = n at *
  rcases place with rfl | rfl | rfl | rfl
  · simp [own, first, second, third]
  · simp [own, zeroth, second, third]
  · simp [own, zeroth, first, third]
  · simp [own, zeroth, first, second]

/-- The line of a sheet taken into a write-back buffer entry for an operation (R103, R113). -/
def bufferLine (line : Nat) (l : FcLine) (mop : Option Nat) (s : State) : State :=
  { s with fc := { s.fc with
    wbuf := s.fc.wbuf ++ [⟨s.fc.nextWb, sliceOf s line, lineSheet line, [⟨line % 4, l.mask, l.data, l.poison⟩], l.owner, l.cls, mop⟩]
    nextWb := s.fc.nextWb + 1 } }

/-- The write-back of a line alone dirty in its sheet: buffered, its page work waiting, the line left clean. -/
def writeBackLine (line k : Nat) (l : FcLine) (mop : Option Nat) (s : State) : State :=
  addWork (linePage line) (lineSheet line) (.writeBack s.fc.nextWb)
    (bufferLine line l mop (setSlot k (some { l with dirty := false }) s))

theorem LineWork.writeBackLine (line k : Nat) (l : FcLine) (mop : Option Nat) (s : State) :
    LineWork k (some { l with dirty := false }) s (writeBackLine line k l mop s) :=
  ⟨⟨fun _ _ _ => rfl, rfl, rfl, rfl, rfl, rfl, rfl⟩, rfl, find_upd s.fc.lines k (some { l with dirty := false })⟩

theorem sheetPage_lineSheet (line : Nat) : sheetPage (lineSheet line) = linePage line := Nat.div_div_eq_div_mul line 4 16

/-- Only the dirty line of a sheet is gathered. -/
theorem gatherSheet_alone {s : State} {line k : Nat} {l : FcLine} (place : s.fcFind line = some k) (held : s.fc.lines.find k = some l)
    (dirty : l.dirty = true) (alone : ∀ x ∈ sheetLines (lineSheet line), x ≠ line → s.fcLine x = none) (mop : Option Nat) :
    gatherSheet (lineSheet line) [] mop s = writeBackLine line k l mop s := by
  have cached : s.fcLine line = some l := by rw [State.fcLine, place]; exact held
  have gathered : (sheetLines (lineSheet line)).filterMap
      (fun x => (s.fcLine x).bind (fun r => if r.dirty then some (x, r) else none)) = [(line, l)] :=
    filterMap_sheetLines_one (by simp [cached, dirty]) (fun x mem other => by simp [alone x mem other])
  unfold gatherSheet
  dsimp only
  rw [gathered]
  simp only [forAll, List.foldl_cons, List.foldl_nil, modLine, place, held, sheetPage_lineSheet]
  rfl

section Line
variable {s : State} {h haddr : Nat} {r : Region} {line k : Nat} {l : FcLine} (found : MopAt s h haddr r line k l)
include found

theorem mopLine_flush_clean (clean : l.dirty = false) : mopLine h 0 haddr s = (.done, s) := by
  simp [mopLine, found.view, checkLine_nil _ _ found.upsets, found.cached, clean]

theorem mopLine_flush_dirty (dirty : l.dirty = true) (alone : ∀ x ∈ sheetLines (lineSheet line), x ≠ line → s.fcLine x = none)
    (room : s.wbUsed (sliceOf s line) < 64) : mopLine h 0 haddr s = (.done, writeBackLine line k l (some h) s) := by
  simp [mopLine, found.view, checkLine_nil _ _ found.upsets, found.cached, dirty, Nat.not_le.2 room,
    gatherSheet_alone found.place found.held dirty alone]

theorem mopLine_invalidate (clean : l.dirty = false) (unlocked : l.locked = false) :
    mopLine h 1 haddr s = (.done, setSlot k none s) := by
  simp [mopLine, found.view, checkLine_nil _ _ found.upsets, found.cached, clean, unlockLine_unlocked found.cached unlocked, found.place]

theorem lockLine_locks (unlocked : l.locked = false) (set_room : s.setLocks k < s.rd FCA_CFG_LOCKW)
    (within : s.rd FCA_LOCKQ_USED h + 1 ≤ s.rd FCA_LOCKQ_QUOTA h) : lockLine h line s =
      (.done, setSlot k (some { l with locked := true, lockHead := h }) (s.wr FCA_LOCKQ_USED (s.rd FCA_LOCKQ_USED h + 1) h)) := by
  simp [lockLine, found.place, found.held, unlocked, Nat.not_le.2 set_room, Nat.not_lt.2 within]

/-- Lock-preload of a line that is present, and Pin, are its lock. -/
theorem mopLine_lock {op : Nat} (locks : op = 2 ∨ op = 3) (volatile : r.typ ≠ 1) : mopLine h op haddr s = lockLine h line s := by
  rcases locks with rfl | rfl <;>
    simp [mopLine, found.view, checkLine_nil _ _ found.upsets, volatile, preloadLine, found.place]

theorem mopLine_unlock (locked : l.locked = true) :
    mopLine h 4 haddr s = (.done, unlockUse l.lockHead (setSlot k (some { l with locked := false }) s)) := by
  simp [mopLine, found.view, checkLine_nil _ _ found.upsets, unlockLine, found.cached, locked, modLine, found.place, found.held]

end Line

/-! A line's operation through its registers (R105, R106, R113, R116). -/

/-- What an operation of one line shows when it has run: its registers, the place of the line, the lock use of the heads, its record. -/
def MopRan (s : State) (h : Head) (op k : Nat) (l' : Option FcLine) (used : Nat → Nat) (t : State) : Prop :=
  t.rd FCA_MOP_CTL_OP h = op ∧ t.rd FCA_MOP_CTL_LINES h = 1 ∧ t.rd FCA_MOP_STAT_BUSY h = 1 ∧ t.rd FCA_MOP_STAT_DONE h = 1 ∧
  t.rd FCA_MOP_STAT_SKIP h = 0 ∧ (∀ j, t.fc.lines.find j = if j = k then l' else s.fc.lines.find j) ∧
  (∀ i, t.rd FCA_LOCKQ_USED i = used i) ∧
  t.fc.mops = s.fc.mops.filter (fun m => m.head ≠ h.val) ++ [⟨h.val, op, s.rd FCA_MOP_ADDR_LINE h + 1, 0, [], 1, 0, 0, none⟩] ∧
  RegsKept [FCA_MOP_CTL_LINES, FCA_MOP_CTL_OP, FCA_MOP_STAT_BUSY, FCA_MOP_STAT_DONE, FCA_MOP_STAT_SKIP, FCA_LOCKQ_USED] s t ∧
  t.home = s.home ∧ t.mem.store = s.mem.store ∧ t.mem.pages = s.mem.pages

/-- The operation that a head's registers ask for. -/
def askedMop (h : Head) (op : Nat) (s : State) : Mop := ⟨h, op, s.rd FCA_MOP_ADDR_LINE h, 1, [], 0, 0, 0, none⟩

/-- OP and LINES as written, and the operation that they ask for begun. -/
def mopAsked (h : Head) (op : Nat) (s : State) : State :=
  mopBegun (askedMop h op s) ((s.wr FCA_MOP_CTL_LINES 1 h).wr FCA_MOP_CTL_OP op h)

theorem mopAsked_only (h : Head) (op : Nat) (s : State) : MopOnly mopFlds s (mopAsked h op s) :=
  ((MopOnly.wr (by decide) _ _ s).trans (.wr (by decide) _ _ _)).trans ((MopOnly.begun _ _).widen (by decide))

theorem mopAsked_used (h : Head) (op : Nat) (s : State) (i : Nat) : (mopAsked h op s).rd FCA_LOCKQ_USED i = s.rd FCA_LOCKQ_USED i :=
  ((MopOnly.begun _ _).regs _ _ (by decide)).trans
    ((State.rd_wr_ne _ _ _ _ _ _ (by decide)).trans (State.rd_wr_ne _ _ _ _ _ _ (by decide)))

theorem mopAsked_op (h : Head) {op : Nat} (valid : op ≤ 4) (s : State) : (mopAsked h op s).rd FCA_MOP_CTL_OP h = op := by
  rw [mopAsked, (MopOnly.begun _ _).regs _ _ (by decide), State.rd_wr_same]
  exact Nat.mod_eq_of_lt (valid.trans_lt (by decide))

theorem mopAsked_lines (h : Head) (op : Nat) (s : State) : (mopAsked h op s).rd FCA_MOP_CTL_LINES h = 1 := by
  rw [mopAsked, (MopOnly.begun _ _).regs _ _ (by decide), State.rd_wr_ne _ _ _ _ _ _ (by decide), State.rd_wr_same]
  rfl

section OneLine
variable {s : State} {h : Head} (calm : s.Calm) (runs : s.stopped = false) (up : s.routeUp (.head h) = true)
  (idle : s.rdB FCA_MOP_STAT_BUSY h = false) (unfenced : s.headFenced h = false)
include runs up idle unfenced

/-- A head that may start an operation of one line has it done at once where the line does not wait (R113, R116). -/
theorem mopGo_runs {op : Nat} (valid : op ≤ 4) {v : State}
    (worked : mopLine h op (s.rd FCA_MOP_ADDR_LINE h) (mopAsked h op s) = (.done, v)) :
    mopGo h op 1 s = mopShown ((askedMop h op s).afterOne 0) v := by
  have asked := (mopAsked_only h op s).sees (by decide)
  have addr : ((s.wr FCA_MOP_CTL_LINES 1 h).wr FCA_MOP_CTL_OP op h).rd FCA_MOP_ADDR_LINE h = s.rd FCA_MOP_ADDR_LINE h :=
    (State.rd_wr_ne _ _ _ _ _ _ (by decide)).trans (State.rd_wr_ne _ _ _ _ _ _ (by decide))
  have still : ((s.wr FCA_MOP_CTL_LINES 1 h).wr FCA_MOP_CTL_OP op h).headFenced h = false :=
    (((Sees.wr s FCA_MOP_CTL_LINES 1 h (by decide)).trans (.wr _ FCA_MOP_CTL_OP op h (by decide))).headFenced h).trans unfenced
  have well : mopValid op 1 = true := by simp [mopValid, valid]
  unfold mopGo
  simp only [Fin.ofNat_val_eq_self, up, idle, well, addr, Bool.not_true, Bool.false_eq_true, if_false, if_true, mopStart_begins still]
  exact mopStep_afterOne rfl ((asked.stopped (mopAsked_only h op s).mode).trans runs) (.inl ⟨rfl, rfl⟩) worked

include calm in
/-- An operation of one line whose work on the line is known. -/
theorem mop_does {c : Instr} {op : Nat} (run : exec c s = .next (settle (mopGo h op 1 (addUpsets [] s)))) (valid : op ≤ 4) {v : State}
    (worked : mopLine h op (s.rd FCA_MOP_ADDR_LINE h) (mopAsked h op s) = (.done, v)) {k : Nat} {l' : Option FcLine}
    (work : LineWork k l' (mopAsked h op s) v) {used : Nat → Nat} (counts : ∀ i, v.rd FCA_LOCKQ_USED i = used i) :
    Does c s (fun t => MopRan s h op k l' used t ∧ t.fc.wbuf = v.fc.wbuf ∧ t.work = v.work) := by
  have shown := MopOnly.shown ((askedMop h op s).afterOne 0) v
  have beside : ∀ (f : Fld) (i : Nat), f.id ≠ FCA_LOCKQ_USED.id → f.id ≠ FCA_MOP_STAT_DONE.id → f.id ≠ FCA_MOP_STAT_SKIP.id →
      (mopShown ((askedMop h op s).afterOne 0) v).rd f i = (mopAsked h op s).rd f i := fun f i a b c =>
    (shown.regs f i (by simp [b, c])).trans (work.only.regs f i (by simp [a]))
  have only := ((mopAsked_only h op s).trans (work.only.widen (by decide))).trans (shown.widen (by decide))
  have done := mopShown_done ((askedMop h op s).afterOne 0) v
  have skip := mopShown_skip ((askedMop h op s).afterOne 0) v
  have mops := setMop_mops_twice (askedMop h op s) ((askedMop h op s).afterOne 0) rfl work.mops
  rw [addUpsets_nil, mopGo_runs runs up idle unfenced valid worked] at run
  obtain ⟨t, ran, kept⟩ : Ends c s (mopShown ((askedMop h op s).afterOne 0) v) := .of run (only.calm (by decide) calm)
  refine ⟨t, ran, ⟨?_, ?_, ?_, ?_, ?_, fun j => ?_, fun i => ?_, ?_, fun f i closing other => ?_, ?_, ?_, ?_⟩, ?_, ?_⟩
  · rw [kept.regs _ _ (by decide), beside _ _ (by decide) (by decide) (by decide), mopAsked_op h valid]
  · rw [kept.regs _ _ (by decide), beside _ _ (by decide) (by decide) (by decide), mopAsked_lines]
  · rw [kept.regs _ _ (by decide), beside _ _ (by decide) (by decide) (by decide)]
    exact mopBegun_busy (askedMop h op s) _
  · exact (kept.regs _ _ (by decide)).trans done
  · exact (kept.regs _ _ (by decide)).trans skip
  · rw [kept.fc]; exact work.lines j
  · rw [kept.regs _ _ (by decide), shown.regs _ _ (by decide), counts]
  · rw [kept.fc]; exact mops
  · exact (kept.regs f i closing).trans (only.regs f i other)
  · rw [kept.home, only.home]
  · rw [kept.around.store, only.mem]
  · rw [kept.around.pages, only.mem]
  · rw [kept.fc]; rfl
  · rw [kept.work]; rfl

end OneLine

theorem Does.mono {c : Instr} {s : State} {P Q : State → Prop} (does : Does c s P) (weaker : ∀ t, P t → Q t) : Does c s Q := by
  obtain ⟨t, ran, holds⟩ := does
  exact ⟨t, ran, weaker t holds⟩

/-- A lock taken within its quota raises the count of its head, which has room for it (R106). -/
theorem lockUse_raised {s : State} {h : Nat} (within : s.rd FCA_LOCKQ_USED h + 1 ≤ s.rd FCA_LOCKQ_QUOTA h) (i : Nat) :
    (s.wr FCA_LOCKQ_USED (s.rd FCA_LOCKQ_USED h + 1) h).rd FCA_LOCKQ_USED i =
      if i = h then s.rd FCA_LOCKQ_USED h + 1 else s.rd FCA_LOCKQ_USED i := by
  have fits : s.rd FCA_LOCKQ_USED h + 1 < 2 ^ FCA_LOCKQ_USED.w := within.trans_lt (s.rd_lt FCA_LOCKQ_QUOTA h)
  rw [State.rd_wr, Nat.mod_eq_of_lt fits]

/-- A lock given back lowers the count of its head (R107). -/
theorem lockUse_lowered (s : State) (h i : Nat) :
    (unlockUse h s).rd FCA_LOCKQ_USED i = if i = h then s.rd FCA_LOCKQ_USED i - 1 else s.rd FCA_LOCKQ_USED i := by
  rw [unlockUse, State.rd_wr, Nat.mod_eq_of_lt ((Nat.sub_le _ _).trans_lt (s.rd_lt FCA_LOCKQ_USED h))]
  split
  · next own => rw [own]
  · rfl

/-- Settles O23: each operation does its work on the line at once, in the state in which it has begun, and its counts show it. -/
theorem maintenanceOfOneLine : Obligations.MaintenanceOfOneLine := by
  intro s h r line k l calm runs none_upset up idle unfenced view place held
  have here : MopAt s h (s.rd FCA_MOP_ADDR_LINE h) r line k l := ⟨none_upset, view, place, held⟩
  have asked := fun op => (mopAsked_only h op s).sees (by decide)
  have found := fun op => here.seen (asked op) rfl (mopAsked_only h op s).upsets
  refine ⟨fun clean => ?_, fun dirty _ alone room => ?_, fun clean unlocked => ?_, fun volatile unlocked set_room within c op locks => ?_,
    fun locked => ?_⟩
  · exact mop_does calm runs up idle unfenced rfl (by decide) (mopLine_flush_clean (found 0) clean) (.stays (found 0).held)
      (mopAsked_used h 0 s)
  · have worked := mopLine_flush_dirty (found 0) dirty
      (fun x mem other => ((asked 0).fcLine rfl x).trans (alone x mem other)) (by rw [(asked 0).sliceOf]; exact room)
    refine (mop_does calm runs up idle unfenced rfl (by decide) worked (.writeBackLine line k l (some h.val) _) (mopAsked_used h 0 s)).mono
      fun t ⟨shows, wbuf, work⟩ => ⟨shows, ?_, work⟩
    rw [← (asked 0).sliceOf line]
    exact wbuf
  · exact mop_does calm runs up idle unfenced rfl (by decide) (mopLine_invalidate (found 1) clean unlocked) (.setSlot k none _)
      (mopAsked_used h 1 s)
  · have run : exec c s = .next (settle (mopGo h op 1 (addUpsets [] s))) := by rcases locks with ⟨rfl, rfl⟩ | ⟨rfl, rfl⟩ <;> rfl
    have which : op = 2 ∨ op = 3 := locks.imp And.right And.right
    have same := mopAsked_used h op s
    have limit : (mopAsked h op s).rd FCA_CFG_LOCKW = s.rd FCA_CFG_LOCKW := (mopAsked_only h op s).regs _ _ (by decide)
    have quota : (mopAsked h op s).rd FCA_LOCKQ_QUOTA h = s.rd FCA_LOCKQ_QUOTA h := (mopAsked_only h op s).regs _ _ (by decide)
    have within' : (mopAsked h op s).rd FCA_LOCKQ_USED h + 1 ≤ (mopAsked h op s).rd FCA_LOCKQ_QUOTA h := by rw [same, quota]; exact within
    have worked := (mopLine_lock (found op) which volatile).trans
      (lockLine_locks (found op) unlocked (by rw [limit]; exact set_room) within')
    refine (mop_does calm runs up idle unfenced run (by omega) worked ((LineWork.setSlot k _ _).wr_used _ h)
      (fun i => (lockUse_raised within' i).trans ?_)).mono fun t shows => shows.1
    rw [same, same]
  · refine (mop_does calm runs up idle unfenced rfl (by decide) (mopLine_unlock (found 4) locked)
      ((LineWork.setSlot k _ _).wr_used _ l.lockHead) (fun i => (lockUse_lowered _ _ i).trans ?_)).mono fun t shows => shows.1
    exact congrArg (fun n => if i = l.lockHead then n - 1 else n) (mopAsked_used h 4 s i)

/-! The end of an operation (R114, R116), and the vendor command that asks for one (R473). -/

theorem mop_event_raised (h : Head) : sourceReserved (128 + 8 * h + 6) = false := by
  revert h; decide

/-- An operation with nothing left or under way ends with its event (R114, R116). -/
theorem mopEnd_ends {s : State} {m : Mop} (progress : s.fc.mops.find? (fun x => x.head == m.head) = some m) (finished : m.left = 0)
    (none_fetched : m.waits = []) (unasked : m.route = none) (none_buffered : ∀ w ∈ s.fc.wbuf, w.mop ≠ some m.head) :
    mopEnd m.head s = raise (128 + 8 * m.head + 6) (mopOver m m.result (mopShown m s)) := by
  have complete : (mopShown m s).mopComplete m = true := by
    have none_written : (mopShown m s).fc.wbuf.any (fun w => w.mop == some m.head) = false :=
      List.any_eq_false.2 (fun w mem => by simpa using none_buffered w mem)
    simp [State.mopComplete, finished, none_fetched, none_written]
  have shown : (mopShown m s).fc.mops.find? (fun x => x.head == m.head) = some m := setMop_find m _
  unfold mopEnd
  simp only [progress, mopStep_finished finished, shown, complete, if_true, endMop, unasked]
  rfl

theorem mopLine_outside {s : State} {h haddr : Nat} (outside : s.mopView h haddr = none) (op : Nat) : mopLine h op haddr s = (.skipped, s) := by
  simp [mopLine, outside]

/-- The operation that Front-Cache Operation asks for, of one line. -/
def vendorMop (h : Head) (op haddr : Nat) : Mop := ⟨h, op, haddr, 1, [], 0, 0, 0, some .mgmt⟩

theorem MopOnly.bgStart {except : List Fld} (op : Nat) (rt : Route) (s : State) : MopOnly except s (bgStart op rt s) :=
  ⟨fun _ _ _ => rfl, rfl, rfl, rfl, rfl, rfl, rfl⟩

theorem frontCacheOp_skips {s : State} {h : Head} {op haddr : Nat} (served : Attends s .mgmt) (free : s.bgBusy .mgmt = false)
    (idle : s.rdB FCA_MOP_STAT_BUSY h = false) (unfenced : s.headFenced h = false) (runs : s.stopped = false) (valid : op ≤ 4)
    (outside : s.mopView h haddr = none) : frontCacheOp .mgmt h op haddr 1 s =
      mopShown ((vendorMop h op haddr).afterOne 1) (mopBegun (vendorMop h op haddr) (bgStart 0xC007 .mgmt s)) := by
  have only : MopOnly mopFlds s (mopBegun (vendorMop h op haddr) (bgStart 0xC007 .mgmt s)) :=
    (MopOnly.bgStart _ _ s).trans ((MopOnly.begun _ _).widen (by decide))
  have sees := only.sees (by decide)
  have well : mopValid op 1 = true := by simp [mopValid, valid]
  rw [frontCacheOp, served.mboxMgmt]
  simp only [free, idle, well, Bool.or_false, Bool.false_eq_true, if_false, if_true,
    mopStart_begins (s := bgStart 0xC007 .mgmt s) unfenced]
  exact mopStep_afterOne rfl ((sees.stopped only.mode).trans runs) (.inr ⟨rfl, rfl⟩) (mopLine_outside ((sees.mopView _ _).trans outside) op)

/-- Settles O24: a finished operation shows its final values and goes; a line outside the view is skipped at once. -/
theorem maintenanceEnds : Obligations.MaintenanceEnds := by
  refine fun s h calm => ⟨fun m progress finished none_fetched unasked none_buffered => ?_,
    fun op haddr served free idle unfenced runs valid outside => ?_⟩
  · have own : m.head = h := by simpa using List.find?_some progress
    rw [← own] at progress none_buffered ⊢
    have only := ((MopOnly.shown m s).widen (by decide)).trans (MopOnly.over m m.result (mopShown m s))
    have raised := Keeps.raise (128 + 8 * m.head + 6) (mopOver m m.result (mopShown m s))
    obtain ⟨t, ran, closed⟩ : Ends (.fcaMopEnd h) s (raise (128 + 8 * m.head + 6) (mopOver m m.result (mopShown m s))) :=
      .of_eq (congrArg (fun n => Host.Outcome.next (settle (mopEnd n s))) own.symm)
        (mopEnd_ends progress finished none_fetched unasked none_buffered) (raised.calm (only.calm (by decide) calm))
    have kept := raised.trans closed
    refine ⟨t, ran, ?_, ?_, ?_, ?_, ?_, fun x mem => ?_, ?_, ?_, ?_, fun f i closing other => ?_⟩
    · rw [kept.regs _ _ (by decide), mopOver_busy]
    · rw [kept.regs _ _ (by decide), mopOver_result]
    · rw [kept.regs _ _ (by decide), mopOver_done]
    · rw [kept.regs _ _ (by decide), mopOver_skip]
    · exact closed.pend _ (raise_pend _ _ (own ▸ mop_event_raised h))
    · rw [kept.fc] at mem
      exact mopOver_gone m m.result _ x mem
    · rw [kept.fc]; rfl
    · rw [kept.home, only.home]
    · rw [kept.around.store, only.mem]
    · exact (kept.regs f i closing).trans (only.regs f i other)
  · have only : MopOnly [FCA_MOP_STAT_BUSY, FCA_MOP_STAT_DONE, FCA_MOP_STAT_SKIP] s
        (mopShown ((vendorMop h op haddr).afterOne 1) (mopBegun (vendorMop h op haddr) (bgStart 0xC007 .mgmt s))) :=
      ((MopOnly.bgStart _ _ s).trans (.begun _ _)).trans ((MopOnly.shown _ _).widen (by decide))
    obtain ⟨t, ran, kept⟩ : Ends (.frontCacheOperation .mgmt h op haddr 1) s _ :=
      .of_eq rfl (frontCacheOp_skips served free idle unfenced runs valid outside) (only.calm (by decide) calm)
    refine ⟨t, ran, ?_, ?_, ?_, ?_, ?_, ?_, ?_, ?_, fun f i closing other => ?_⟩
    · exact (Sends.emit s _).after kept.out
    · rw [State.bgBusy, kept.mgt]
      exact List.any_eq_true.2 ⟨(0xC007, .mgmt), List.mem_append_right _ (List.mem_singleton.2 rfl), rfl⟩
    · rw [kept.regs _ _ (by decide), (MopOnly.shown _ _).regs _ _ (by decide)]
      exact mopBegun_busy (vendorMop h op haddr) _
    · exact (kept.regs _ _ (by decide)).trans (mopShown_done ((vendorMop h op haddr).afterOne 1) _)
    · exact (kept.regs _ _ (by decide)).trans (mopShown_skip ((vendorMop h op haddr).afterOne 1) _)
    · rw [kept.fc]
      exact List.mem_append_right _ (List.mem_singleton.2 rfl)
    · rw [kept.fc]; rfl
    · rw [kept.home, only.home]
    · exact (kept.regs f i closing).trans (only.regs f i other)

end Sys2Proof.Machine
end

section
/-! PROOFS. Page work (chapters 05, 07 and 09): a write-back, a promotion and a staged write get their new place (R124, R129, R189, R190, R229,
R232), and a commit moves the page (R31, R131, R190). -/
namespace Sys2Proof.Machine

/-! The states of parcels, one after another (R170). -/

theorem mem_runParcels {parcel run p : Nat} : p ∈ runParcels parcel run ↔ parcel ≤ p ∧ p < parcel + run := by
  simp only [runParcels, List.mem_map, List.mem_range]
  constructor
  · rintro ⟨i, small, rfl⟩
    omega
  · rintro ⟨above, below⟩
    exact ⟨p - parcel, by omega, by omega⟩

theorem setPState_find {p : Nat} {k : PState} (listed : k ≠ .free) (s : State) (q : Nat) :
    (setPState p k s).cap.pmap.find q = if q = p then some k else s.cap.pmap.find q := by
  unfold setPState
  rw [if_neg listed]
  exact Map.find_put _ _ _ _

theorem moveCount_pmap (media : Bool) (a b : PState) (n : Nat) (s : State) : (moveCount media a b n s).cap.pmap = s.cap.pmap := by
  unfold moveCount
  split <;> rfl

theorem segOwned_cap (p : Nat) (up : Bool) (s : State) : (segOwned p up s).cap = s.cap := by
  unfold segOwned
  split <;> rfl

/-- A parcel of a new run becomes owned at the commit (R170, R223). -/
def ownParcel (kind : PState) (p : Nat) (s : State) : State :=
  segOwned p true (setPState p .owned (moveCount (parcelMedia p) kind .owned 1 s))

/-- A parcel of an allocated run is in flight (R170). -/
def takeParcel (kind frm : PState) (p : Nat) (s : State) : State := setPState p kind (moveCount (parcelMedia p) frm kind 1 s)

theorem ownParcel_find (kind : PState) (p : Nat) (s : State) (q : Nat) :
    (ownParcel kind p s).cap.pmap.find q = if q = p then some .owned else s.cap.pmap.find q := by
  unfold ownParcel
  rw [segOwned_cap, setPState_find (by decide), moveCount_pmap]

/-- After the parcels of a list are owned, each of them is. -/
theorem forAll_ownParcel_find {kind : PState} {l : List Nat} {p : Nat} (s : State) (owned : p ∈ l ∨ s.cap.pmap.find p = some .owned) :
    (forAll l (ownParcel kind) s).cap.pmap.find p = some .owned := by
  induction l generalizing s with
  | nil => exact owned.resolve_left (List.not_mem_nil)
  | cons q l ih =>
    refine ih (ownParcel kind q s) ?_
    rw [ownParcel_find]
    by_cases here : p = q
    · exact .inr (if_pos here)
    · rw [if_neg here]
      exact owned.imp_left fun mem => (List.mem_cons.1 mem).resolve_left here

/-- The parcels of a run that is committed are owned. -/
theorem ownRun_find (kind : PState) {parcel run p : Nat} (inside : parcel ≤ p ∧ p < parcel + run) (s : State) :
    (ownRun kind parcel run s).cap.pmap.find p = some .owned :=
  forAll_ownParcel_find s (.inl (mem_runParcels.2 inside))

/-! The parts of a change of held counts, and what a commit ends. -/

/-- The held count of a page's region follows a change of its run (R179). -/
def holdRegion (page : Nat) (up : Bool) (n : Nat) (s : State) : State :=
  match s.pageRegion page with
  | some r =>
    let held := s.cap.rgnHeld.get r.n 0
    { s with cap := { s.cap with rgnHeld := s.cap.rgnHeld.put r.n (if up then held + n else held - n) } }
  | none => s

/-- A reserve debt falls with the elastic use of its head (R184). -/
def repayDebt (up : Bool) (h n : Nat) (s : State) : State :=
  if up || s.cap.debt.get h 0 = 0 then s else { s with cap := { s.cap with debt := s.cap.debt.put h (s.cap.debt.get h 0 - n) } }

/-- The held count of a page's extent follows a change of its run (R180). -/
def holdExtent (page : Nat) (up : Bool) (n : Nat) (s : State) : State :=
  match s.mem.extents.find (pageExt page) with
  | some e => repayDebt up e.charge n (setExtent (pageExt page) { e with held := if up then e.held + n else e.held - n } s)
  | none => s

theorem heldChange_eq (page : Nat) (up : Bool) (n : Nat) (s : State) :
    heldChange page up n s = holdExtent page up n (holdRegion page up n s) := rfl

/-- A write-back's buffer entry and the backing poison of its sheet are gone (R31). -/
def endBuffer (sheet id : Nat) (s : State) : State :=
  { s with mem := { s.mem with backPoison := s.mem.backPoison.filter (fun l => lineSheet l ≠ sheet) },
           fc := { s.fc with wbuf := s.fc.wbuf.filter (fun b => b.id ≠ id) } }

/-- The slots of a page's staged image in its old run are gone (R233, R235). -/
def unstage (page parcel : Nat) (s : State) : State :=
  { s with media := { s.media with slots := s.media.slots.filter (fun x => !(x.page == page && x.stream == 0 && x.parcel == parcel)) } }

/-! What the accounting of parcels leaves alone. -/

theorem State.bump_serving (s : State) {f : Fld} (n i : Nat) (other : MOD_STATE_STATE.id ≠ f.id) : (s.bump f n i).serving = s.serving := by
  unfold State.serving State.modeCode
  rw [State.rd_bump_ne _ _ _ _ _ _ other]
  rfl

/-- What the accounting of parcels leaves alone (R169 to R172, R179, R187): the registers but those named and those of the closing work, the
home, the front cache, page work, stored bytes, page entries, and the state of every parcel but those that may move. -/
structure Accounts (except : List Fld) (moves : Nat → Prop) (s t : State) : Prop where
  regs : RegsKept except s t
  home : t.home = s.home
  fc : t.fc = s.fc
  work : t.work = s.work
  store : t.mem.store = s.mem.store
  pages : t.mem.pages = s.mem.pages
  backPoison : t.mem.backPoison = s.mem.backPoison
  pmap : ∀ p, ¬ moves p → t.cap.pmap.find p = s.cap.pmap.find p
  mode : t.mode = s.mode
  walk : t.cap.auditWalk = s.cap.auditWalk
  serving : t.serving = s.serving
  active : t.rdB TLR_STAT_ACTIVE = s.rdB TLR_STAT_ACTIVE

namespace Accounts
variable {except : List Fld} {moves : Nat → Prop}

theorem refl (s : State) : Accounts except moves s s := ⟨fun _ _ _ _ => rfl, rfl, rfl, rfl, rfl, rfl, rfl, fun _ _ => rfl, rfl, rfl, rfl, rfl⟩

theorem trans {a b c : State} (h : Accounts except moves a b) (k : Accounts except moves b c) : Accounts except moves a c where
  regs f i closing other := (k.regs f i closing other).trans (h.regs f i closing other)
  home := k.home.trans h.home
  fc := k.fc.trans h.fc
  work := k.work.trans h.work
  store := k.store.trans h.store
  pages := k.pages.trans h.pages
  backPoison := k.backPoison.trans h.backPoison
  pmap p still := (k.pmap p still).trans (h.pmap p still)
  mode := k.mode.trans h.mode
  walk := k.walk.trans h.walk
  serving := k.serving.trans h.serving
  active := k.active.trans h.active

theorem ite {p : Prop} [Decidable p] {s a b : State} (h : Accounts except moves s a) (k : Accounts except moves s b) :
    Accounts except moves s (if p then a else b) := by
  split <;> assumption

theorem forAll {f : Nat → State → State} {l : List Nat} (each : ∀ p ∈ l, ∀ s, Accounts except moves s (f p s)) (s : State) :
    Accounts except moves s (forAll l f s) :=
  List.foldlRecOn l _ (motive := fun t => Accounts except moves s t) (.refl s) fun t done p mem => done.trans (each p mem t)

/-- What closing work keeps, accounting keeps. -/
theorem of_keeps {s t : State} (kept : Keeps s t) : Accounts except moves s t where
  regs f i closing _ := kept.regs f i closing
  home := kept.home
  fc := kept.fc
  work := kept.work
  store := by rw [kept.mem]
  pages := by rw [kept.mem]
  backPoison := by rw [kept.mem]
  pmap _ _ := by rw [kept.cap]
  mode := kept.mode
  walk := by rw [kept.cap]
  serving := kept.serving
  active := by unfold State.rdB; rw [kept.regs _ _ (by decide)]

theorem setCap (s : State) {c : Cap} (walk : c.auditWalk = s.cap.auditWalk)
    (pmap : ∀ p, ¬ moves p → c.pmap.find p = s.cap.pmap.find p) : Accounts except moves s { s with cap := c } :=
  ⟨fun _ _ _ _ => rfl, rfl, rfl, rfl, rfl, rfl, rfl, pmap, rfl, walk, rfl, rfl⟩

theorem setMedia (s : State) (m : Media) : Accounts except moves s { s with media := m } :=
  ⟨fun _ _ _ _ => rfl, rfl, rfl, rfl, rfl, rfl, rfl, fun _ _ => rfl, rfl, rfl, rfl, rfl⟩

theorem setExtent (e : Nat) (x : Extent) (s : State) : Accounts except moves s (setExtent e x s) :=
  ⟨fun _ _ _ _ => rfl, rfl, rfl, rfl, rfl, rfl, rfl, fun _ _ => rfl, rfl, rfl, rfl, rfl⟩

/-- A register that is named is written; it is none of those that say whether anything goes on by itself. -/
theorem bump {f : Fld} (named : (except.map Fld.id).contains f.id = true)
    (other : f.id ≠ TLR_STAT_ACTIVE.id ∧ f.id ≠ MOD_STATE_STATE.id) (n i : Nat) (s : State) : Accounts except moves s (s.bump f n i) where
  regs g j _ unnamed := s.rd_bump_ne f n i g j (fun same => by rw [same, named] at unnamed; cases unnamed)
  home := rfl
  fc := rfl
  work := rfl
  store := rfl
  pages := rfl
  backPoison := rfl
  pmap _ _ := rfl
  mode := rfl
  walk := rfl
  serving := s.bump_serving n i other.2.symm
  active := by unfold State.rdB; rw [s.rd_bump_ne f n i _ _ other.1.symm]

theorem calm {s t : State} (h : Accounts except moves s t) (calm : s.Calm) : t.Calm where
  drain := by rw [h.mode]; exact calm.drain
  flush := by rw [h.active]; exact calm.flush
  plan := by rw [h.mode]; exact calm.plan
  audit := by rw [h.walk, h.serving]; exact calm.audit

/-! The counters and states of parcels (R169 to R172, R223). -/

theorem moveCount (media : Bool) (a b : PState) (n : Nat) (s : State) : Accounts except moves s (moveCount media a b n s) := by
  unfold Sys2Proof.Machine.moveCount
  exact .ite (.setCap s rfl fun _ _ => rfl) (.setCap s rfl fun _ _ => rfl)

theorem setPState {p : Nat} (may : moves p) (k : PState) (s : State) : Accounts except moves s (setPState p k s) := by
  refine .setCap s rfl fun q still => ?_
  have other : q ≠ p := fun same => still (same ▸ may)
  split
  · rw [Map.find_del, if_neg other]
  · rw [Map.find_put, if_neg other]

theorem segOwned (p : Nat) (up : Bool) (s : State) : Accounts except moves s (segOwned p up s) := by
  unfold Sys2Proof.Machine.segOwned
  exact .ite (.setMedia s _) (.refl s)

theorem refillReserve (s : State) : Accounts except moves s (refillReserve s) := by
  unfold Sys2Proof.Machine.refillReserve
  exact .ite ((moveCount false .free .reserved 1 s).trans (.setCap _ rfl fun _ _ => rfl)) (.refl s)

theorem staleToFree {p : Nat} (may : moves p) (s : State) : Accounts except moves s (staleToFree p s) := by
  unfold Sys2Proof.Machine.staleToFree
  exact .ite (.refl s) (((moveCount false .stale .free 1 s).trans (.setPState may .free _)).trans (.refillReserve _))

theorem disownParcel {p : Nat} (may : moves p) (s : State) : Accounts except moves s (disownParcel p s) := by
  unfold Sys2Proof.Machine.disownParcel
  dsimp only
  refine (segOwned p false s).trans (.ite ((moveCount _ _ _ _ _).trans (.setPState may _ _)) ?_)
  have stale := (moveCount (parcelMedia p) .owned .stale 1 (Sys2Proof.Machine.segOwned p false s)).trans (setPState (except := except) may .stale _)
  exact .ite stale (stale.trans (.staleToFree may _))

theorem disownRun {parcel run : Nat} (may : ∀ p ∈ runParcels parcel run, moves p) (s : State) :
    Accounts except moves s (disownRun parcel run s) :=
  .forAll (fun p mem => .disownParcel (may p mem)) s

theorem takeParcel (kind frm : PState) {p : Nat} (may : moves p) (s : State) : Accounts except moves s (takeParcel kind frm p s) :=
  (moveCount _ _ _ _ s).trans (.setPState may _ _)

theorem inFlightRun (kind frm : PState) {parcel run : Nat} (may : ∀ p ∈ runParcels parcel run, moves p) (s : State) :
    Accounts except moves s (inFlightRun kind frm parcel run s) :=
  .forAll (fun p mem => .takeParcel kind frm (may p mem)) s

theorem ownRun (kind : PState) {parcel run : Nat} (may : ∀ p ∈ runParcels parcel run, moves p) (s : State) :
    Accounts except moves s (ownRun kind parcel run s) :=
  .forAll (fun p mem u => ((moveCount _ _ _ _ u).trans (.setPState (may p mem) _ _)).trans (.segOwned p true _)) s

theorem unstage (page parcel : Nat) (s : State) : Accounts except moves s (unstage page parcel s) := .setMedia s _

theorem commitSlots (w : Work) (s : State) : Accounts except moves s (commitSlots w s) :=
  (setMedia s _).trans (.setMedia _ _)

/-! Held counts, elastic use, heat (R179, R180, R187, R189). -/

theorem holdRegion (page : Nat) (up : Bool) (n : Nat) (s : State) : Accounts except moves s (holdRegion page up n s) := by
  unfold Sys2Proof.Machine.holdRegion
  split
  · exact .setCap s rfl fun _ _ => rfl
  · exact .refl s

theorem repayDebt (up : Bool) (h n : Nat) (s : State) : Accounts except moves s (repayDebt up h n s) := by
  unfold Sys2Proof.Machine.repayDebt
  exact .ite (.refl s) (.setCap s rfl fun _ _ => rfl)

theorem holdExtent (page : Nat) (up : Bool) (n : Nat) (s : State) : Accounts except moves s (holdExtent page up n s) := by
  unfold Sys2Proof.Machine.holdExtent
  split
  · exact (setExtent _ _ s).trans (.repayDebt up _ n _)
  · exact .refl s

theorem heldChange (page : Nat) (up : Bool) (n : Nat) (s : State) : Accounts except moves s (heldChange page up n s) :=
  heldChange_eq page up n s ▸ (holdRegion page up n s).trans (.holdExtent page up n _)

theorem heldDiff (page old new : Nat) (s : State) : Accounts except moves s (heldDiff page old new s) := by
  unfold Sys2Proof.Machine.heldDiff
  exact .ite (.heldChange page true _ s) (.heldChange page false _ s)

theorem count (ev : Nat) (who : Option (Nat × Nat)) (unit n : Nat) (s : State) : Accounts except moves s (count ev who unit n s) :=
  .of_keeps (.count ev who unit n s)

theorem deadClearPageRec (page : Nat) (s : State) : Accounts except moves s (deadClearPageRec page s) :=
  ⟨fun _ _ _ _ => rfl, rfl, rfl, rfl, rfl, rfl, rfl, fun _ _ => rfl, rfl, rfl, rfl, rfl⟩

theorem heatReport (named : (except.map Fld.id).contains TIE_STAT2_QDROP.id = true) (sl page : Nat) (s : State) :
    Accounts except moves s (heatReport sl page s) := by
  have heat : ∀ u, Accounts except moves u (heatAdd page u) := fun u => by
    unfold heatAdd
    split <;> exact .setCap u rfl fun _ _ => rfl
  have queue : ∀ u, Accounts except moves u (queuePromotion page u) := fun u => by
    unfold queuePromotion
    dsimp only
    exact .ite (.refl u) (.ite (.setCap u rfl fun _ _ => rfl) (.bump named (by decide) 1 0 u))
  unfold Sys2Proof.Machine.heatReport
  dsimp only
  refine .ite (.refl s) (.ite (.setCap s rfl fun _ _ => rfl) ?_)
  refine .trans ?_ (queue _)
  refine .trans ?_ (heat _)
  exact .setCap s rfl fun _ _ => rfl

/-! A change made to both states alike. -/

section Alike
variable {s t : State} (accounts : Accounts except moves s t)
include accounts

theorem modWork (id : Nat) (f : Work → Work) : Accounts except moves (modWork id f s) (modWork id f t) :=
  { accounts with work := congrArg (List.map _) accounts.work }

theorem readyWork (w : Work) (parcel need : Nat) (e : PageEntry) (image : List Byte) (slots : List Nat) :
    Accounts except moves (readyWork w parcel need e image slots s) (readyWork w parcel need e image slots t) := accounts.modWork w.id _

theorem dropWork (id : Nat) : Accounts except moves (dropWork id s) (dropWork id t) :=
  { accounts with work := congrArg (List.filter _) accounts.work }

theorem setEntry (page : Nat) (e : PageEntry) : Accounts except moves (setEntry page e s) (setEntry page e t) :=
  { accounts with pages := congrArg (Map.put · page e) accounts.pages }

theorem endBuffer (sheet id : Nat) : Accounts except moves (endBuffer sheet id s) (endBuffer sheet id t) :=
  { accounts with
    fc := by unfold Sys2Proof.Machine.endBuffer; rw [accounts.fc]
    backPoison := congrArg (List.filter _) accounts.backPoison }

theorem bumpBoth {f : Fld} (other : f.id ≠ TLR_STAT_ACTIVE.id ∧ f.id ≠ MOD_STATE_STATE.id)
    (same : t.rd f 0 = s.rd f 0) (n : Nat) : Accounts except moves (s.bump f n) (t.bump f n) :=
  { accounts with
    regs := fun g j closing unnamed => by
      unfold State.bump
      rw [same]
      have before := accounts.regs g j closing unnamed
      unfold State.rd State.wr at *
      simp only [Map.get_put]
      split
      · rfl
      · exact before
    serving := by rw [t.bump_serving n 0 other.2.symm, s.bump_serving n 0 other.2.symm, accounts.serving]
    active := by
      unfold State.rdB
      rw [t.rd_bump_ne f n 0 _ _ other.1.symm, s.rd_bump_ne f n 0 _ _ other.1.symm]
      exact accounts.active }

end Alike

end Accounts

/-! A commit (R31, R131, R190). -/

/-- The image of a new run is written and its parcels are owned (R31, R170). -/
def landed (kind : PState) (w : Work) (s : State) : State := ownRun kind w.parcel w.need (storeBytes (w.parcel * 512) w.image s)

/-- A parcel of a run. -/
def inRun (e : PageEntry) (p : Nat) : Prop := e.parcel ≤ p ∧ p < e.parcel + e.run

theorem may_disown {e : PageEntry} : ∀ p ∈ runParcels e.parcel e.run, inRun e p := fun _ mem => mem_runParcels.1 mem

/-- The registers that the commit of a write-back counts in. -/
def wbFlds : List Fld := [MIL_CMP_RPK_GROW, MIL_CMP_RPK_SHRINK, MIL_CMP_HIST_SHEETS, TIE_STAT2_QDROP]

theorem landed_accounts {except : List Fld} (kind : PState) (w : Work) (s : State) :
    Accounts except (fun p => w.parcel ≤ p ∧ p < w.parcel + w.need) (storeBytes (w.parcel * 512) w.image s) (landed kind w s) :=
  .ownRun kind (fun _ mem => mem_runParcels.1 mem) _

/-- A write-back whose new run has landed, its old run not yet disowned (R31, R131). -/
def wbLanded (w : Work) (id : Nat) (s : State) : State :=
  dropWork w.id (endBuffer w.sheet id (setEntry w.page { w.entry with repack := false } (landed w.pkind w s)))

/-- A promotion whose new run has landed, its old run not yet disowned (R190). -/
def moveLanded (w : Work) (s : State) : State :=
  dropWork w.id ((setEntry w.page { w.entry with repack := false, pinned := (s.entry w.page).pinned } (landed .reloc w s)).bump TIE_STAT_PROMO 1)

/-- The commit of a write-back with a new run: the run lands, the entry names it, and buffer entry and work are gone. -/
theorem commitWb_accounts {w : Work} (need : w.need ≠ 0) (r : Region) (id : Nat) (s : State) :
    Accounts wbFlds (inRun (s.entry w.page)) (wbLanded w id s) (commitWb w r id s) := by
  have freed : Accounts wbFlds (inRun (s.entry w.page)) (landed w.pkind w s)
      (disownRun (s.entry w.page).parcel (s.entry w.page).run (commitSlots w (landed w.pkind w s))) :=
    (Accounts.commitSlots w _).trans (.disownRun may_disown _)
  unfold commitWb
  dsimp only
  rw [if_pos need]
  refine Accounts.trans ?_ (.heatReport (by decide) _ _ _)
  refine Accounts.dropWork ?_ w.id
  refine Accounts.endBuffer (t := ite _ _ _) ?_ w.sheet id
  refine Accounts.trans (Accounts.setEntry ?_ _ _) (.ite (.deadClearPageRec _ _) (.refl _))
  refine Accounts.trans ?_ (.count _ _ _ _ _)
  refine Accounts.trans ?_ (.bump (by decide) (by decide) _ _ _)
  refine Accounts.trans ?_ (.ite (.bump (by decide) (by decide) _ _ _) (.refl _))
  exact freed.trans (.ite ((Accounts.heldChange _ _ _ _).trans (.bump (by decide) (by decide) _ _ _)) (.heldDiff _ _ _ _))

/-- The commit of a promotion with a new run: the run lands, the entry names it, the promotion is counted and the work is gone. -/
theorem commitMove_accounts {w : Work} {hint : Bool} (kind : w.kind = .migrate true hint) (need : w.need ≠ 0) (s : State) :
    Accounts [] (inRun (s.entry w.page)) (moveLanded w s) (commitMove w s) := by
  unfold commitMove
  dsimp only
  rw [if_pos need, kind]
  have freed : Accounts [] (inRun (s.entry w.page)) (landed .reloc w s) (disownRun (s.entry w.page).parcel (s.entry w.page).run
      (commitSlots w (unstage w.page (s.entry w.page).parcel (landed .reloc w s)))) :=
    ((Accounts.unstage _ _ _).trans (.commitSlots w _)).trans (.disownRun may_disown _)
  have moved := freed.trans (.heldDiff w.page (s.entry w.page).run w.entry.run _)
  have named := moved.setEntry w.page { w.entry with repack := false, pinned := (s.entry w.page).pinned }
  exact ((named.bumpBoth (by decide) (named.regs _ _ (by decide) (by decide)) 1).trans (.count 0x410 none 0x1F 1 _)).dropWork w.id

/-! The commit is run. -/

theorem wbCommit_ready {s : State} {page : Nat} {r : Region} {w : Work} {id : Nat} (runs : s.stopped = false) (region : s.pageRegion page = some r)
    (ready : s.work.find? (fun x => x.page == page && x.stage == .ready) = some w) (kind : w.kind = .writeBack id) :
    wbCommit page s = commitWb w r id s := by
  simp [wbCommit, runs, ready, region, kind]

theorem migrationCommit_ready {s : State} {page : Nat} {w : Work} {hint : Bool} (runs : s.stopped = false)
    (ready : s.work.find? (fun x => x.page == page && x.stage == .ready) = some w) (kind : w.kind = .migrate true hint)
    (verified : s.verified w = true) : migrationCommit page s = commitMove w s := by
  simp [migrationCommit, runs, ready, kind, verified]

/-- A state in which the image of some work stands in its new run, whose parcels are owned, and the work is gone (R31, R190). -/
structure Landed (w : Work) (s x : State) : Prop where
  store : x.mem.store = writeBytes s.mem.store (w.parcel * 512) w.image
  lines : x.fc.lines = s.fc.lines
  home : x.home = s.home
  owned : ∀ p, w.parcel ≤ p → p < w.parcel + w.need → x.cap.pmap.find p = some .owned
  work : x.work = s.work.filter (fun y => y.id ≠ w.id)

/-- Accounting takes nothing of a landed run but what it shares with the old one. -/
theorem Landed.after {except : List Fld} {w : Work} {s x t : State} {old : PageEntry} (landed : Landed w s x)
    (accounts : Accounts except (inRun old) x t) :
    t.mem.store = writeBytes s.mem.store (w.parcel * 512) w.image ∧ t.fc.lines = s.fc.lines ∧ t.home = s.home ∧
      (∀ p, w.parcel ≤ p → p < w.parcel + w.need → (p < old.parcel ∨ old.parcel + old.run ≤ p) → t.cap.pmap.find p = some .owned) ∧
      t.work = s.work.filter (fun y => y.id ≠ w.id) := by
  refine ⟨accounts.store.trans landed.store, (congrArg Fc.lines accounts.fc).trans landed.lines, accounts.home.trans landed.home,
    fun p above below outside => ?_, accounts.work.trans landed.work⟩
  have still : ¬ inRun old p := fun ⟨from_start, to_end⟩ => by omega
  exact (accounts.pmap p still).trans (landed.owned p above below)

theorem wbLanded_landed (w : Work) (id : Nat) (s : State) : Landed w s (wbLanded w id s) :=
  have land := landed_accounts (except := []) w.pkind w s
  have lines : (landed w.pkind w s).fc.lines = s.fc.lines := congrArg Fc.lines land.fc
  ⟨land.store, lines, land.home, fun _ above below => ownRun_find _ ⟨above, below⟩ _, congrArg (List.filter _) land.work⟩

theorem moveLanded_landed (w : Work) (s : State) : Landed w s (moveLanded w s) :=
  have land := landed_accounts (except := []) .reloc w s
  ⟨land.store, congrArg Fc.lines land.fc, land.home, fun _ above below => ownRun_find _ ⟨above, below⟩ _, congrArg (List.filter _) land.work⟩

theorem landed_calm (kind : PState) (w : Work) {s : State} (calm : s.Calm) : (landed kind w s).Calm :=
  (landed_accounts (except := []) kind w s).calm ⟨calm.drain, calm.flush, calm.plan, calm.audit⟩

theorem wbLanded_calm (w : Work) (id : Nat) {s : State} (calm : s.Calm) : (wbLanded w id s).Calm :=
  have land := landed_calm w.pkind w calm
  ⟨land.drain, land.flush, land.plan, land.audit⟩

theorem moveLanded_calm (w : Work) {s : State} (calm : s.Calm) : (moveLanded w s).Calm :=
  have land := landed_calm .reloc w calm
  have counted := land.bump TIE_STAT_PROMO 1 0 (by decide) (by decide)
  ⟨counted.drain, counted.flush, counted.plan, counted.audit⟩

/-- Settles O27: the new run lands first, and everything after it moves parcels and counts only. -/
theorem commitMovesThePage : Obligations.CommitMovesThePage := by
  intro s page r w calm runs region ready need
  obtain rfl : w.page = page := by
    have fits := List.find?_some ready
    simp only [Bool.and_eq_true, beq_iff_eq] at fits
    exact fits.1
  refine ⟨fun id kind => ?_, fun hint kind verified => ?_⟩
  · have land := landed_accounts (except := wbFlds) w.pkind w s
    have accounts := commitWb_accounts need r id s
    obtain ⟨t, ran, kept⟩ : Ends (.writeBackCommit w.page) s (commitWb w r id s) :=
      .of_eq rfl (wbCommit_ready runs region ready kind) (accounts.calm (wbLanded_calm w id calm))
    have done := accounts.trans (.of_keeps kept)
    have buffer : (landed w.pkind w s).fc.wbuf = s.fc.wbuf := congrArg Fc.wbuf land.fc
    exact ⟨t, ran, (wbLanded_landed w id s).after done, done.pages.trans (congrArg (Map.put · _ _) land.pages),
      (congrArg Fc.wbuf done.fc).trans (congrArg (List.filter _) buffer),
      done.backPoison.trans (congrArg (List.filter _) land.backPoison),
      fun f i closing other => (done.regs f i closing other).trans (land.regs f i closing other)⟩
  · have land := landed_accounts (except := []) .reloc w s
    have accounts := commitMove_accounts kind need s
    obtain ⟨t, ran, kept⟩ : Ends (.migrationCommit w.page) s (commitMove w s) :=
      .of_eq rfl (migrationCommit_ready runs ready kind verified) (accounts.calm (moveLanded_calm w calm))
    have done := accounts.trans (.of_keeps kept)
    refine ⟨t, ran, (moveLanded_landed w s).after done, done.pages.trans (congrArg (Map.put · _ _) land.pages),
      (congrArg Fc.wbuf done.fc).trans (congrArg Fc.wbuf land.fc), ?_, fun f i closing other => ?_⟩
    · calc t.rd TIE_STAT_PROMO
          = (moveLanded w s).rd TIE_STAT_PROMO := done.regs _ _ (by decide) (by decide)
        _ = min ((landed .reloc w s).rd TIE_STAT_PROMO + 1) (2 ^ TIE_STAT_PROMO.w - 1) := State.rd_bump_same _ _ _ _
        _ = min (s.rd TIE_STAT_PROMO + 1) (2 ^ TIE_STAT_PROMO.w - 1) := by rw [land.regs _ _ (by decide) (by decide)]; rfl
    · have unnamed : f.id ≠ TIE_STAT_PROMO.id := by simpa using other
      calc t.rd f i
          = (moveLanded w s).rd f i := done.regs f i closing rfl
        _ = (landed .reloc w s).rd f i := State.rd_bump_ne _ _ _ _ _ _ unnamed
        _ = s.rd f i := land.regs f i closing rfl

/-! Slots of a stream (R226, R228, R229). -/

/-- The slots left in the segment that a stream is filling. -/
def slotsLeft (stream k : Nat) (s : State) : Nat :=
  match s.openStripe k stream with
  | some t => 8192 - (t.stripe * 32 + t.slots.length)
  | none => 0

/-- The stream has room for a run, in the segment it is filling or in one opened for it: a run never crosses a segment (R226, R228). -/
def slotsReady (stream k n : Nat) (s : State) : Option State :=
  if n ≤ slotsLeft stream k s then some s
  else (openSegment stream k (s.media.segs.length + 1) (closeStream k stream s)).map
    (fun x => setStripes (x.2.media.stripes ++ [⟨k, x.1, 0, stream, [], false, false, 0⟩]) x.2)

/-- The slots of a run taken in a stripe that has room. -/
def takeSlots (stream k n page : Nat) (image : List Byte) (work : Nat) (s : State) (t : Stripe) : Slot × State :=
  let sl : Slot := ⟨s.media.nextSlot, stream, page, mediaParcel k t.seg t.stripe t.slots.length, n, n, image, false, work⟩
  let placed := placeSlots sl.id k stream n s
  (sl, inFlightRun .reloc .free sl.parcel n
    { placed with media := { placed.media with slots := placed.media.slots ++ [sl], nextSlot := sl.id + 1 } })

theorem allocSlots_taken {stream k n page work : Nat} {image : List Byte} {s : State} {x : Slot × State}
    (allocated : allocSlots stream k n page image work s = some x) :
    ∃ u t, slotsReady stream k n s = some u ∧ takeSlots stream k n page image work u t = x := by
  unfold allocSlots at allocated
  dsimp only at allocated
  split at allocated
  · cases allocated
  · rename_i u ready
    have same : slotsReady stream k n s = some u := by
      rw [← ready]
      unfold slotsReady
      cases openSegment stream k (s.media.segs.length + 1) (closeStream k stream s) <;> rfl
    split at allocated
    · cases allocated
    · exact ⟨u, _, same, Option.some.inj allocated⟩

namespace Accounts
variable {except : List Fld} {moves : Nat → Prop}

theorem closeStream (k stream : Nat) (s : State) : Accounts except moves s (closeStream k stream s) := by
  unfold Sys2Proof.Machine.closeStream
  split
  · exact .setMedia s _
  · exact .refl s

theorem remapSegment (k g : Nat) (s : State) : Accounts except moves s (remapSegment k g s) := by
  refine .forAll (fun d _ u => ?_) s
  dsimp only
  split
  · exact .setMedia u _
  · exact .refl u

theorem retireSegment (k g : Nat) (s : State) : Accounts except moves s (retireSegment k g s) :=
  (moveCount true .free .quar 8192 s).trans (.setMedia _ _)

/-- A segment that is opened, and those that retire before it (R228, R240), change the media path and the tier's counters. -/
theorem openSegment {stream k fuel g : Nat} {s t : State} (opened : openSegment stream k fuel s = some (g, t)) : Accounts except moves s t := by
  induction fuel generalizing s with
  | zero => cases opened
  | succ fuel ih =>
    unfold Sys2Proof.Machine.openSegment at opened
    split at opened
    · cases opened
    · dsimp only at opened
      split at opened
      · exact (Accounts.retireSegment k _ s).trans (ih opened)
      · cases opened
        exact (setMedia s _).trans (.remapSegment k g _)

theorem placeSlots (id k stream n : Nat) (s : State) : Accounts except moves s (placeSlots id k stream n s) := by
  induction n generalizing s with
  | zero => exact .refl s
  | succ n ih =>
    unfold Sys2Proof.Machine.placeSlots
    split
    · exact .refl s
    · dsimp only
      refine .trans ?_ (ih _)
      exact .ite ((setMedia s _).trans (.setMedia _ _)) (.setMedia s _)

/-- An allocation of slots moves free parcels to in flight and changes the media path (R170, R226, R229). -/
theorem allocSlots {stream k n page work : Nat} {image : List Byte} {s t : State} {sl : Slot}
    (allocated : allocSlots stream k n page image work s = some (sl, t)) : Accounts except (fun _ => True) s t := by
  obtain ⟨u, stripe, ready, taken⟩ := allocSlots_taken allocated
  have begun : Accounts except (fun _ => True) s u := by
    unfold slotsReady at ready
    split at ready
    · cases ready
      exact .refl s
    · obtain ⟨⟨g, v⟩, opened, rfl⟩ := Option.map_eq_some_iff.1 ready
      exact ((closeStream k stream s).trans (.openSegment opened)).trans (.setMedia _ _)
  cases taken
  exact ((begun.trans (.placeSlots _ _ _ _ u)).trans (.setMedia _ _)).trans (.inFlightRun _ _ (fun _ _ => trivial) _)

end Accounts

/-! A staged write (R228, R229, R232, R312). -/

theorem charge_media (r h : Nat) (c : Cls) (s : State) : (charge r h c s).2.media = s.media := by
  unfold charge
  dsimp only
  split
  · rfl
  · split <;> exact (Keeps.count _ _ _ _ _).media

theorem charge_cap (r h : Nat) (c : Cls) (s : State) : (charge r h c s).2.cap = s.cap := by
  unfold charge
  dsimp only
  split
  · rfl
  · split <;> exact (Delivered.count _ _ _ _ _).cap

/-- The use of tokens changes nothing of the media path or the parcels. -/
theorem chargeN_stays (r h : Nat) (c : Cls) (n : Nat) (s : State) : (chargeN r h c n s).media = s.media ∧ (chargeN r h c n s).cap = s.cap := by
  induction n generalizing s with
  | zero => exact ⟨rfl, rfl⟩
  | succ n ih =>
    obtain ⟨media, cap⟩ := ih (charge r h c s).2
    exact ⟨media.trans (charge_media r h c s), cap.trans (charge_cap r h c s)⟩

/-- The registers that count borrowed tokens and demotions (R312). -/
def tokenFlds : List Fld := [QOS_DEM_BORROW, QOS_DEM_DEM]

namespace Accounts
variable {moves : Nat → Prop}

theorem setTok {except : List Fld} (r : Nat) (t : TokRes) (s : State) : Accounts except moves s (setTok r t s) :=
  ⟨fun _ _ _ _ => rfl, rfl, rfl, rfl, rfl, rfl, rfl, fun _ _ => rfl, rfl, rfl, rfl, rfl⟩

theorem charge (r h : Nat) (c : Cls) (s : State) : Accounts tokenFlds moves s (charge r h c s).2 := by
  unfold Sys2Proof.Machine.charge
  dsimp only
  split
  · exact .setTok r _ s
  · split
    · exact ((setTok r _ s).trans (.bump (by decide) (by decide) 1 h _)).trans (.count _ _ _ _ _)
    · exact (bump (by decide) (by decide) 1 h s).trans (.count _ _ _ _ _)

theorem chargeN (r h : Nat) (c : Cls) (n : Nat) (s : State) : Accounts tokenFlds moves s (chargeN r h c n s) := by
  induction n generalizing s with
  | zero => exact .refl s
  | succ n ih => exact (Accounts.charge r h c s).trans (ih _)

end Accounts

/-- The entry of a page whose image is staged in some slots (R229). -/
def stagedEntry (w : Work) (sl : Slot) : PageEntry := { w.entry with parcel := sl.parcel, run := w.want, tier := true }

/-- The work alone in its list, made ready. -/
theorem readyWork_alone {s : State} {w : Work} (only : s.work = [w]) (parcel need : Nat) (e : PageEntry) (image : List Byte) (slots : List Nat) :
    (readyWork w parcel need e image slots s).work =
      [{ w with stage := .ready, parcel := parcel, need := need, entry := e, image := image, slots := slots }] := by
  simp [readyWork, modWork, only]

/-- What work that has not committed leaves alone: the front cache, stored bytes, page entries, the home. -/
def PagesStay (s t : State) : Prop := t.fc = s.fc ∧ t.mem.store = s.mem.store ∧ t.mem.pages = s.mem.pages ∧ t.home = s.home

theorem Accounts.pagesStay {except : List Fld} {moves : Nat → Prop} {s t : State} (accounts : Accounts except moves s t) : PagesStay s t :=
  ⟨accounts.fc, accounts.store, accounts.pages, accounts.home⟩

section Staged
variable {s s' : State} {w : Work} {k : Nat} {sl : Slot} (runs : s.stopped = false) (only : s.work = [w]) (waits : w.stage = .staging)
  (stack : s.stackP = some k) (room : s.stagingReady k w.want = true)
  (allocated : allocSlots 0 k w.want w.page w.image w.id s = some (sl, s'))
include runs only waits stack room allocated

/-- The one work of the page that waits for staging room takes its slots, and its tokens, once there is room. -/
theorem stagingRetry_ready :
    ∃ h c, stagingRetry w.page s = readyWork w sl.parcel w.want (stagedEntry w sl) w.image [sl.id] (chargeN 1 h c w.want s') := by
  have staged : ∀ h c, stageImage w w.entry w.want w.image h c s =
      readyWork w sl.parcel w.want (stagedEntry w sl) w.image [sl.id] (chargeN 1 h c w.want s') := fun h c => by
    simp only [stageImage, stack, room, allocated, Bool.not_true, Bool.false_eq_true, if_false]
    rfl
  have found : s.work.find? (fun x => x.page == w.page && x.stage == .staging) = some w := by simp [only, waits]
  unfold stagingRetry
  simp only [runs, found, Bool.false_eq_true, if_false]
  exact ⟨_, _, staged _ _⟩

/-- STAGING_WAIT_END puts the image into the slots that the P stream allocates (R229, R232). -/
theorem stagingWaitEnd_does (calm : s.Calm) : Does (.stagingWaitEnd w.page) s (fun t =>
    PagesStay s t ∧ t.media = s'.media ∧ t.cap = { s'.cap with debt := t.cap.debt } ∧
      t.work = [{ w with stage := .ready, parcel := sl.parcel, need := w.want, slots := [sl.id], entry := stagedEntry w sl }]) := by
  obtain ⟨h, c, ready⟩ := stagingRetry_ready runs only waits stack room allocated
  have accounts := ((Accounts.allocSlots allocated).trans (.chargeN 1 h c w.want s')).readyWork w sl.parcel w.want (stagedEntry w sl) w.image [sl.id]
  obtain ⟨media, cap⟩ := chargeN_stays 1 h c w.want s'
  obtain ⟨t, ran, kept⟩ : Ends (.stagingWaitEnd w.page) s _ :=
    .of_eq rfl ready (accounts.calm ⟨calm.drain, calm.flush, calm.plan, calm.audit⟩)
  have done := accounts.trans (.of_keeps kept)
  refine ⟨t, ran, done.pagesStay, kept.media.trans media, kept.cap.trans ?_, done.work.trans (readyWork_alone only _ _ _ _ _)⟩
  rw [← cap]
  rfl

end Staged

/-! Page work begins under the lock (R30, R34, R67). -/

/-- A state whose metadata cache holds other entry lines, or the same in another order. -/
def State.recached (s : State) (c : List Nat) : State := { s with mem := { s.mem with cached := c } }

/-- The use of an entry only moves its line in the metadata cache (R67). -/
theorem useEntry_eq (page : Nat) (s : State) : ∃ c, useEntry page s = s.recached c := by
  unfold useEntry
  split
  · exact ⟨_, rfl⟩
  · exact ⟨s.mem.cached, rfl⟩

theorem Accounts.recached {except : List Fld} {moves : Nat → Prop} (s : State) (c : List Nat) : Accounts except moves s (s.recached c) :=
  ⟨fun _ _ _ _ => rfl, rfl, rfl, rfl, rfl, rfl, rfl, fun _ _ => rfl, rfl, rfl, rfl, rfl⟩

/-- In a calm state a write-back or a promotion may begin (R346, R383). -/
theorem heldBack_calm {s : State} (calm : s.Calm) {w : Work} (kind : (∃ id, w.kind = .writeBack id) ∨ ∃ hint, w.kind = .migrate true hint) :
    s.heldBack w = false := by
  obtain ⟨id, kind⟩ | ⟨hint, kind⟩ := kind
  · simp [State.heldBack, kind]
  · simp [State.heldBack, kind, calm.drain, State.powerFlush, calm.flush]

section Begins
variable {s : State} {w : Work} {r : Region} (calm : s.Calm) (region : s.pageRegion w.page = some r) (known : s.entryKnown w.page = true)
include calm region known

theorem beginWork_writeBack {id : Nat} (kind : w.kind = .writeBack id) (chk : Nat) (o v : EngEnv) :
    ∃ c, beginWork w chk o v s = beginWb w r id chk o v (s.recached c) := by
  obtain ⟨c, used⟩ := useEntry_eq w.page s
  refine ⟨c, ?_⟩
  simp [beginWork, region, heldBack_calm calm (.inl ⟨id, kind⟩), known, kind, used]

theorem beginWork_promotion {hint : Bool} (kind : w.kind = .migrate true hint) (chk : Nat) (o v : EngEnv) :
    ∃ c, beginWork w chk o v s = movePage w r chk o (s.recached c) := by
  obtain ⟨c, used⟩ := useEntry_eq w.page s
  refine ⟨c, ?_⟩
  simp [beginWork, region, heldBack_calm calm (.inr ⟨hint, kind⟩), known, kind, used]

end Begins

/-! A sheet of zeros is written back (R30, R124, R129). -/

/-- The four lines of a sheet, whole and zero. -/
def zeroLines : List WbLine := [⟨0, fullMask, 0, false⟩, ⟨1, fullMask, 0, false⟩, ⟨2, fullMask, 0, false⟩, ⟨3, fullMask, 0, false⟩]

theorem needsStored_zeroLines {b : WbEntry} (lines : b.lines = zeroLines) (s : State) : needsStored b s = false := by
  simp [needsStored, lines, zeroLines, List.range_succ]

theorem mergeSheet_zeroLines {b : WbEntry} (lines : b.lines = zeroLines) (r : Region) (stored : Sheet) (s : State) :
    mergeSheet r b stored s = zeroSheet := by
  simp [mergeSheet, lines, zeroLines, zeroSheet, List.range_succ]

theorem storeForm_zeroSheet (zeroPage : Bool) : storeForm false zeroPage zeroSheet = (0, []) := by
  have clean : pmask zeroSheet = 0 := by decide
  have zero : (keptBytes zeroSheet).all (· = 0) = true := by decide +kernel
  unfold storeForm
  simp only [clean]
  rw [if_neg (by decide), if_neg (by decide), if_pos ⟨trivial, zero⟩]

/-- An engine that does not err stores nothing for a sheet of zeros, and counts it (R124, R125). -/
theorem compressSheet_zero {v : EngEnv} (sound : v.cmpBad = false) (zeroPage : Bool) (s : State) :
    compressSheet false zeroPage zeroSheet v s = ((0, []), s.bump MIL_CMP_ENG_COMP 1 (s.engine false v.cmpEng)) := by
  simp [compressSheet, sound, storeForm_zeroSheet]

/-- What is asked of an entry that stores nothing: no run, and every sheet zero. -/
structure Bare (e : PageEntry) : Prop where
  run : e.run = 0
  size : e.size = 0

theorem Bare.code {e : PageEntry} (bare : Bare e) (n : Nat) : e.code n = 0 := by simp [PageEntry.code, bits, bare.size]

theorem Bare.setCode {e : PageEntry} (bare : Bare e) (n : Nat) : e.setCode n 0 = e := by
  simp only [PageEntry.setCode, bare.size, BitVec.zero_and, BitVec.ofNat_eq_ofNat, BitVec.zero_shiftLeft, BitVec.or_zero]
  exact congrArg (fun size => { e with size }) bare.size.symm

theorem Bare.need {e : PageEntry} (bare : Bare e) (opq : Bool) : needOf opq e = 0 := by simp [needOf, bare.code]

/-- The entry that the write-back of a sheet without poison plans where no other line is poisoned (R59, R61, R153). -/
def plannedEntry (r : Region) (e : PageEntry) : PageEntry :=
  { e with gen := (e.gen + 1) % 65536, written := true, repack := false, pinned := e.pinned || r.tier == 1, anyPoison := false }

/-- The entry that a write-back of zeros commits on a page that stores nothing (R59, R129). -/
def zeroEntry (r : Region) (e : PageEntry) : PageEntry := { plannedEntry r e with parcel := 0, run := 0, tier := false }

/-- Nothing is sealed for a sheet of zeros of a packed page (R134, R151). -/
theorem sealFresh_zero {r : Region} (packed : r.opq = false) {e new : PageEntry} {n : Nat} (zero : new.code n = 0) (k : KeySlot) (page : Nat)
    (form : List Byte) (v : EngEnv) (s : State) :
    sealFresh r k page n e new form v s = ([], s) := by
  unfold sealFresh
  refine List.foldl_fixed' (fun i => ?_) _
  dsimp only
  by_cases own : i = n
  · simp [own, zero]
  · simp [own, packed]

/-- On a page that stores nothing a sheet of zeros has no need (R59, R127, R130). -/
theorem makePlan_zero {e : PageEntry} (bare : Bare e) {r : Region} (packed : r.opq = false) {s : State} (sound : s.mem.backPoison = [])
    (k : KeySlot) (page n : Nat) (form : List Byte) (v : EngEnv) :
    makePlan r k page n e zeroSheet 0 form false v s = (⟨plannedEntry r e, [], 0⟩, s) := by
  have carried : ∀ f inPlace, (List.range 16).filter (carryBad s r e f n inPlace) = [] := fun f inPlace =>
    List.filter_eq_nil_iff.2 (fun i _ => by simp [carryBad, bare.run])
  have clean : pmask zeroSheet = 0 := by decide
  have other : otherPoison s r k page n e e = false := by simp [otherPoison, bare.code, bare.run, sound]
  unfold makePlan
  simp only [packed, bare.setCode, Bool.false_and, Bool.false_eq_true, if_false, carried, List.foldl_nil, clean, other, ne_eq, not_true,
    decide_false, Bool.or_false]
  rw [sealFresh_zero packed]
  · exact congrArg (fun need => (Plan.mk _ [] need, s)) (Bare.need ⟨bare.run, bare.size⟩ false)
  · exact bare.code n

/-- A plan that needs no run leaves the work ready to store nothing (R129). -/
theorem placeOld_none (w : Work) (r : Region) (k : KeySlot) (e f : PageEntry) (s : State) :
    placeOld w r k e ⟨f, [], 0⟩ s = readyWork w 0 0 { f with parcel := 0, run := 0, tier := false } [] [] s := rfl

/-- A sheet of four whole lines of zeros, written back to a page that stores nothing, is counted by its engine and stores nothing. -/
theorem storeSheet_zero {s : State} {w : Work} {r : Region} {b : WbEntry} {v : EngEnv} (runs : s.stopped = false) (bare : Bare (s.entry w.page))
    (packed : r.opq = false) (lines : b.lines = zeroLines) (unpoisoned : s.mem.backPoison = []) (sound : v.cmpBad = false) (k : KeySlot)
    (o : EngEnv) :
    storeSheet w r k b o v s = readyWork w 0 0 (zeroEntry r (s.entry w.page)) [] [] (s.bump MIL_CMP_ENG_COMP 1 (s.engine false v.cmpEng)) := by
  have go_on : (s.bump MIL_CMP_ENG_COMP 1 (s.engine false v.cmpEng)).stopped = false := (s.bump_stopped _ _ (by decide)).trans runs
  have plan := makePlan_zero (s := s.bump MIL_CMP_ENG_COMP 1 (s.engine false v.cmpEng)) bare packed unpoisoned k w.page (b.sheet % 16) [] v
  unfold storeSheet
  simp only [needsStored_zeroLines lines, Bool.false_eq_true, if_false, mergeSheet_zeroLines lines, packed, compressSheet_zero sound, go_on,
    plan, true_or, if_true, placeOld_none]
  rfl

section Granted
variable {s : State} {w : Work} {r : Region} {key : KeySlot} {b : WbEntry} {v : EngEnv} (calm : s.Calm) (runs : s.stopped = false)
  (region : s.pageRegion w.page = some r) (keyed : s.keys.slots.find r.keydom = some key) (known : s.entryKnown w.page = true)
  (only : s.work = [w]) (waits : w.stage = .waiting) (kind : w.kind = .writeBack b.id) (buffer : s.fc.wbuf = [b])
  (bare : Bare (s.entry w.page)) (packed : r.opq = false) (lines : b.lines = zeroLines) (unpoisoned : s.mem.backPoison = [])
  (sound : v.cmpBad = false)
include calm runs region keyed known only waits kind buffer bare packed lines unpoisoned sound

/-- The one write-back that waits takes the lock; it has to promote nothing, so its sheet of zeros is stored at once (R30, R32, R34). -/
theorem grantLock_zero (chk : Nat) (o : EngEnv) : ∃ l, grantLock w.page chk o v s =
    readyWork w 0 0 (zeroEntry r (s.entry w.page)) [] [] ((s.recached l).bump MIL_CMP_ENG_COMP 1 (s.engine false v.cmpEng)) := by
  obtain ⟨l, begins⟩ := beginWork_writeBack calm region known kind chk o v
  have found : (s.recached l).fc.wbuf.find? (fun x => x.id == b.id) = some b := by
    rw [show (s.recached l).fc.wbuf = [b] from buffer]
    simp
  have slot : (s.recached l).keys.slots.find r.keydom = some key := keyed
  have no_run : ((s.recached l).entry w.page).run = 0 := bare.run
  refine ⟨l, ?_⟩
  calc grantLock w.page chk o v s
      = beginWork w chk o v s := by simp [grantLock, runs, only, waits, State.locked]
    _ = beginWb w r b.id chk o v (s.recached l) := begins
    _ = storeSheet w r key b o v (s.recached l) := by simp [beginWb, found, slot, no_run]
    _ = _ := storeSheet_zero (s := s.recached l) runs bare packed lines unpoisoned sound key o

/-- PAGE_LOCK_GRANT leaves the write-back of a sheet of zeros ready, with nothing to store (R124, R129). -/
theorem pageLockGrant_does (chk : Nat) (o : EngEnv) : Does (.pageLockGrant w.page chk o v) s (fun t => PagesStay s t ∧
    t.work = [{ w with stage := .ready, parcel := 0, need := 0, image := [], slots := [], entry := zeroEntry r (s.entry w.page) }] ∧
    t.rd MIL_CMP_ENG_COMP (s.engine false v.cmpEng) =
      min (s.rd MIL_CMP_ENG_COMP (s.engine false v.cmpEng) + 1) (2 ^ MIL_CMP_ENG_COMP.w - 1) ∧ RegsKept [MIL_CMP_ENG_COMP] s t) := by
  obtain ⟨l, stored⟩ := grantLock_zero calm runs region keyed known only waits kind buffer bare packed lines unpoisoned sound chk o
  have counted : Accounts [MIL_CMP_ENG_COMP] (fun _ => False) s ((s.recached l).bump MIL_CMP_ENG_COMP 1 (s.engine false v.cmpEng)) :=
    (Accounts.recached s l).trans (.bump (by decide) (by decide) _ _ _)
  have accounts := counted.readyWork w 0 0 (zeroEntry r (s.entry w.page)) [] []
  obtain ⟨t, ran, kept⟩ : Ends (.pageLockGrant w.page chk o v) s _ :=
    .of_eq rfl stored (accounts.calm ⟨calm.drain, calm.flush, calm.plan, calm.audit⟩)
  have done := accounts.trans (.of_keeps kept)
  exact ⟨t, ran, done.pagesStay, done.work.trans (readyWork_alone only _ _ _ _ _),
    (kept.regs _ _ (by decide)).trans ((s.recached l).rd_bump_same _ _ _), done.regs⟩

end Granted

/-! The tier engine promotes a page (R189, R190). -/

/-- The migration of a page taken from the promotion queue. -/
def queuedWork (page : Nat) (s : State) : Work := ⟨s.nextWork, page, 0, .migrate true false, .waiting, 0, 0, .none, [], [], 0⟩

/-- A page has left the promotion queue, and its migration waits for the page lock alone. -/
def promoTaken (page : Nat) (s : State) : State :=
  { s with
    work := [queuedWork page s]
    nextWork := s.nextWork + 1
    cap := { s.cap with promoQ := s.cap.promoQ.filter (· ≠ page) } }

theorem migrationStart_queued {s : State} {page : Nat} (runs : s.stopped = false) (idle : s.work = []) (queued : s.cap.promoQ.contains page = true)
    (chk : Nat) (v : EngEnv) : migrationStart page chk v s = beginWork (queuedWork page s) chk v v (promoTaken page s) := by
  have unlocked : s.locked page = false := by simp [State.locked, idle]
  have taken : takeQueued page s = promoTaken page s := by
    simp only [takeQueued, queued, if_true, addWork, idle]
    rfl
  unfold migrationStart
  simp only [runs, unlocked, Bool.or_self, Bool.false_eq_true, if_false, taken]
  rw [show (promoTaken page s).work = [queuedWork page s] from rfl, List.find?_cons_of_pos (by simp [queuedWork])]

/-! A page of one raw sheet is copied (R57, R127, R190). -/

/-- What is asked of an entry whose run stores one sheet, raw. -/
structure OneRaw (e : PageEntry) : Prop where
  run : e.run = 1
  size : e.size = 8

theorem OneRaw.code_zero {e : PageEntry} (raw : OneRaw e) : e.code 0 = 8 := by
  rw [PageEntry.code, raw.size]
  decide

theorem OneRaw.code_succ {e : PageEntry} (raw : OneRaw e) (i : Nat) : e.code (i + 1) = 0 := by
  have small : 8 < 2 ^ (4 * (i + 1)) := by
    calc 8 < 2 ^ 4 := by decide
      _ ≤ 2 ^ (4 * (i + 1)) := Nat.pow_le_pow_right (by decide) (by omega)
  rw [PageEntry.code, raw.size, bits]
  exact congrArg (· % 2 ^ 4) (Nat.div_eq_of_lt small)

theorem OneRaw.need {e : PageEntry} (raw : OneRaw e) : needOf false e = 1 := by
  simp only [needOf, PageEntry.code, raw.size]
  decide

/-- A fold over the numbers up to a bound that stands still after the first. -/
theorem foldl_range_first {α : Type} {f : α → Nat → α} {a b : α} (n : Nat) (first : f a 0 = b) (rest : ∀ i, f b (i + 1) = b) :
    (List.range (n + 1)).foldl f a = b := by
  rw [List.range_succ_eq_map, List.foldl_cons, List.foldl_map, first]
  exact List.foldl_fixed' rest _

/-- The copy of a page of one raw sheet that opens keeps its entry, and the engine that took the sheet counts it. -/
theorem copyPage_oneRaw {s : State} {page : Nat} {e : PageEntry} {r : Region} {key : KeySlot} (opens : Opens s page 0 e r key) (raw : OneRaw e)
    (packed : r.opq = false) {v : EngEnv} (sound : v.sealBad = false) (unaltered : v.altered = none) (chk : Nat) :
    ∃ image, copyPage' page r key e chk v s = (some (e, image), s.bump MIL_SEAL_ENG_OPEN 1 (s.engine true v.sealEng)) := by
  have runs : (s.bump MIL_SEAL_ENG_OPEN 1 (s.engine true v.sealEng)).stopped = false := (s.bump_stopped _ _ (by decide)).trans opens.runs
  have whole : fit 256 (s.sheetBytes r.opq e 0) = s.sheetBytes r.opq e 0 :=
    fit_whole (by rw [State.sheetBytes, readBytes_length, raw.code_zero, sheetLen_raw])
  have same : { e with anyPoison := e.anyPoison || e.size != e.size, run := needOf r.opq e } = e := by
    rw [packed, raw.need, ← raw.run]
    simp
  unfold copyPage'
  dsimp only
  rw [foldl_range_first (b := (e, s.bump MIL_SEAL_ENG_OPEN 1 (s.engine true v.sealEng))) 15]
  · dsimp only
    rw [runs, same]
    exact ⟨_, rfl⟩
  · have tagged : s.tagSlot e 0 = sheetTag key page 0 r.keydom 8 e.gen (s.sheetBytes r.opq e 0) := opens.tag
    obtain ⟨u, env, clean, engine, own⟩ : ∃ u : EngEnv,
        (if 0 = chk then v else { v with sealBad := false, cmpBad := false, altered := none }) = u ∧
          u.sealBad = false ∧ u.sealEng = v.sealEng ∧ u.altered = none := by
      refine ⟨_, rfl, ?_⟩
      split
      · exact ⟨sound, rfl, unaltered⟩
      · exact ⟨rfl, rfl, rfl⟩
    simp [opens.runs, raw.code_zero, storedCode, opens.ok, env, own, sheetLen_raw, whole, tagged, tagCheck_right _ _ _ _ clean, engine]
  · intro i
    simp [raw.code_succ, storedCode]

/-! A free parcel of the DRAM tier is found and taken (R170, R189). -/

theorem runParcels_one (p : Nat) : runParcels p 1 = [p] := rfl

/-- Where every parcel is free, the search ends where it starts, or at the first parcel if it starts at the end. -/
theorem findRun_free {s : State} (some_parcel : 0 < s.dramDataTop) (free : ∀ p < s.dramDataTop, s.pstate p = .free) (fuel start : Nat) :
    ∃ p < s.dramDataTop, findRun s 1 (fuel + 1) start = some p := by
  have taken : ∀ p < s.dramDataTop, (runParcels p 1).all (fun q => s.pstate q == .free) = true := fun p small => by
    simp [runParcels_one, free p small]
  have fits : ¬ s.dramDataTop < 1 := by omega
  unfold findRun
  dsimp only
  by_cases late : s.dramDataTop < start + 1
  · exact ⟨0, some_parcel, by rw [if_pos late, if_neg fits, if_pos (taken 0 some_parcel)]⟩
  · exact ⟨start, by omega, by rw [if_neg late, if_neg fits, if_pos (taken start (by omega))]⟩

/-- The next free value has been used. -/
def State.drawn (s : State) : State := { s with free := s.free + 1 }

theorem allocDram_free {s : State} (some_parcel : 0 < s.dramDataTop) (free : ∀ p < s.dramDataTop, s.pstate p = .free) :
    ∃ p < s.dramDataTop, allocDram 1 s = (some p, s.drawn) := by
  obtain ⟨p, small, found⟩ := findRun_free (s := s.drawn) some_parcel free (16 * (s.cap.pmap.length + 1) + 4095)
    (Config.allocHint (Config.freeValue s.free) % (s.dramDataTop + 1))
  exact ⟨p, small, congrArg (Prod.mk · s.drawn) found⟩

theorem inFlightRun_one (kind frm : PState) (p : Nat) (s : State) : inFlightRun kind frm p 1 s = takeParcel kind frm p s := rfl

/-- A promotion of one parcel takes one from free, where all are (R189). -/
theorem promoteTo_free {s : State} (w : Work) {f : PageEntry} (image : List Byte) (run : f.run = 1) (counted : 1 ≤ s.cap.dram.free)
    (some_parcel : 0 < s.dramDataTop) (free : ∀ p < s.dramDataTop, s.pstate p = .free) :
    ∃ p < s.dramDataTop, promoteTo w f image false s =
      readyWork w p 1 { f with parcel := p, tier := false } image [] (takeParcel .reloc .free p s.drawn) := by
  obtain ⟨p, small, found⟩ := allocDram_free some_parcel free
  refine ⟨p, small, ?_⟩
  unfold promoteTo
  simp only [run, counted, decide_true, Bool.not_true, Bool.false_and, Bool.and_false, Bool.false_eq_true, if_false, found, if_true,
    inFlightRun_one]

theorem takeParcel_find {kind : PState} (listed : kind ≠ .free) (frm : PState) (p : Nat) (s : State) :
    (takeParcel kind frm p s).cap.pmap.find p = some kind := by
  unfold takeParcel
  rw [setPState_find listed, if_pos rfl]

theorem takeParcel_promoQ (kind frm : PState) (p : Nat) (s : State) : (takeParcel kind frm p s).cap.promoQ = s.cap.promoQ := by
  unfold takeParcel moveCount
  split <;> rfl

/-- The sheets that an engine has opened say nothing of where the data of the DRAM tier ends. -/
theorem State.bump_dramDataTop (s : State) (n i : Nat) : (s.bump MIL_SEAL_ENG_OPEN n i).dramDataTop = s.dramDataTop := by
  unfold State.dramDataTop
  rw [s.rd_bump_ne _ _ _ MED_STG_SIZE _ (by decide)]
  rfl

/-- Nor do they say what state a parcel is in. -/
theorem State.bump_pstate (s : State) (n i p : Nat) : (s.bump MIL_SEAL_ENG_OPEN n i).pstate p = s.pstate p := by
  have fenced : (s.bump MIL_SEAL_ENG_OPEN n i).parcelFenced p = s.parcelFenced p := by
    unfold State.parcelFenced State.channelFenced State.stackFenced State.channelOn State.stackOn State.rdB
    simp only [s.rd_bump_ne _ _ _ DRM_CH_FENCED _ (by decide : _ ≠ MIL_SEAL_ENG_OPEN.id),
      s.rd_bump_ne _ _ _ DRM_CH_PRESENT _ (by decide : _ ≠ MIL_SEAL_ENG_OPEN.id),
      s.rd_bump_ne _ _ _ MED_STK_FENCED _ (by decide : _ ≠ MIL_SEAL_ENG_OPEN.id),
      s.rd_bump_ne _ _ _ MED_STK_PRESENT _ (by decide : _ ≠ MIL_SEAL_ENG_OPEN.id)]
    rfl
  unfold State.pstate State.parcelBad
  rw [fenced, s.bump_dramDataTop]
  rfl

/-! The promotion is run. -/

/-- A migration of a page in media to the DRAM tier copies the page and asks for room there (R190). -/
theorem movePage_promotes {s u : State} {w : Work} {r : Region} {key : KeySlot} {hint : Bool} {f : PageEntry} {image : List Byte} {chk : Nat}
    {v : EngEnv} (kind : w.kind = .migrate true hint) (volatile : r.typ ≠ 1) (stored : (s.entry w.page).run ≠ 0)
    (media : (s.entry w.page).tier = true) (room : s.migrating < s.rd TIE_CFG_MIGMAX) (keyed : s.keys.slots.find r.keydom = some key)
    (copied : copyPage' w.page r key (s.entry w.page) chk v s = (some (f, image), u)) (run : f.run ≠ 0) :
    movePage w r chk v s = promoteTo w f image false u := by
  have below : ¬ s.rd TIE_CFG_MIGMAX ≤ s.migrating := by omega
  simp [movePage, kind, volatile, stored, media, below, keyed, copied, run]

/-- The state in which the one migration is under the page lock: the page has left the queue, and its sheet is counted. -/
def promoOpened (page c : Nat) (l : List Nat) (s : State) : State := ((promoTaken page s).recached l).bump MIL_SEAL_ENG_OPEN 1 c

theorem promoOpened_accounts (page c : Nat) (l : List Nat) (s : State) :
    Accounts [MIL_SEAL_ENG_OPEN] (fun _ => True) (promoTaken page s) (promoOpened page c l s).drawn :=
  ((Accounts.recached _ l).trans (.bump (by decide) (by decide) 1 c _)).trans
    ⟨fun _ _ _ _ => rfl, rfl, rfl, rfl, rfl, rfl, rfl, fun _ _ => rfl, rfl, rfl, rfl, rfl⟩

section Promoted
variable {s : State} {page : Nat} {r : Region} {key : KeySlot} {v : EngEnv} (calm : s.Calm) (opens : Opens s page 0 (s.entry page) r key)
  (raw : OneRaw (s.entry page)) (known : s.entryKnown page = true) (volatile : r.typ ≠ 1) (packed : r.opq = false)
  (media : (s.entry page).tier = true) (idle : s.work = []) (queued : s.cap.promoQ.contains page = true)
  (room : 0 < s.rd TIE_CFG_MIGMAX) (sound : v.sealBad = false) (unaltered : v.altered = none) (some_parcel : 0 < s.dramDataTop)
  (free : ∀ p < s.dramDataTop, s.pstate p = .free) (counted : 1 ≤ s.cap.dram.free)
include calm opens raw known volatile packed media idle queued room sound unaltered some_parcel free counted

/-- The migration of the queued page takes the lock, copies the page's one sheet and takes a free parcel for it (R189, R190). -/
theorem migrationStart_promotes (chk : Nat) : ∃ p < s.dramDataTop, ∃ image c l, migrationStart page chk v s =
    readyWork (queuedWork page s) p 1 { s.entry page with parcel := p, tier := false } image []
      (takeParcel .reloc .free p (promoOpened page c l s).drawn) := by
  obtain ⟨l, begins⟩ := beginWork_promotion (s := promoTaken page s) (w := queuedWork page s) ⟨calm.drain, calm.flush, calm.plan, calm.audit⟩
    opens.region known rfl chk v v
  have still : Opens ((promoTaken page s).recached l) page 0 (s.entry page) r key :=
    ⟨opens.runs, opens.region, opens.run, opens.raw, opens.ok, opens.keyed, opens.tag⟩
  obtain ⟨image, copied⟩ := copyPage_oneRaw still raw packed sound unaltered chk
  have none_moves : ((promoTaken page s).recached l).migrating = 0 := rfl
  have moves := movePage_promotes (w := queuedWork page s) (s := (promoTaken page s).recached l) rfl volatile opens.run media
    (none_moves ▸ room) opens.keyed copied opens.run
  have top : ∀ c, (promoOpened page c l s).dramDataTop = s.dramDataTop := fun c => State.bump_dramDataTop _ _ _
  obtain ⟨p, small, placed⟩ := promoteTo_free (s := promoOpened page (((promoTaken page s).recached l).engine true v.sealEng) l s)
    (queuedWork page s) image raw.run counted (by rw [top]; exact some_parcel)
    (fun p small => (State.bump_pstate _ _ _ p).trans (free p (top _ ▸ small)))
  exact ⟨p, top _ ▸ small, image, _, l, ((migrationStart_queued opens.runs idle queued chk v).trans begins).trans (moves.trans placed)⟩

/-- MIGRATION_START leaves the migration ready with a parcel of the DRAM tier in flight (R189, R190). -/
theorem migrationStart_does (chk : Nat) : Does (.migrationStart page chk v) s (fun t => PagesStay s t ∧ page ∉ t.cap.promoQ ∧
    ∃ p < s.dramDataTop, t.cap.pmap.find p = some .reloc ∧ (∃ x, t.work = [x] ∧ x.page = page ∧ x.kind = .migrate true false ∧
      x.stage = .ready ∧ x.parcel = p ∧ x.need = 1 ∧ x.entry = { s.entry page with parcel := p, tier := false }) ∧
    RegsKept [MIL_SEAL_ENG_OPEN] s t) := by
  obtain ⟨p, small, image, c, l, started⟩ := migrationStart_promotes calm opens raw known volatile packed media idle queued room sound
    unaltered some_parcel free counted chk
  have taken := (promoOpened_accounts page c l s).trans (.takeParcel .reloc .free (p := p) trivial _)
  have accounts := taken.readyWork (queuedWork page s) p 1 { s.entry page with parcel := p, tier := false } image []
  obtain ⟨t, ran, kept⟩ : Ends (.migrationStart page chk v) s _ :=
    .of_eq rfl started (accounts.calm ⟨calm.drain, calm.flush, calm.plan, calm.audit⟩)
  have done := accounts.trans (.of_keeps kept)
  have left : t.cap.promoQ = s.cap.promoQ.filter (· ≠ page) :=
    (congrArg Cap.promoQ kept.cap).trans (takeParcel_promoQ .reloc .free p (promoOpened page c l s).drawn)
  have in_flight : t.cap.pmap.find p = some .reloc :=
    (congrArg (fun c => c.pmap.find p) kept.cap).trans (takeParcel_find (kind := .reloc) (by decide) .free p (promoOpened page c l s).drawn)
  exact ⟨t, ran, done.pagesStay, by simp [left], p, small, in_flight,
    ⟨_, done.work.trans (readyWork_alone rfl _ _ _ _ _), rfl, rfl, rfl, rfl, rfl, rfl⟩, done.regs⟩

end Promoted

/-- Settles O26: each command finds its one work, and its place follows from what the page stores and what is free. -/
theorem pageWorkGetsItsPlace : Obligations.PageWorkGetsItsPlace := by
  intro s page r key v o calm runs region keyed known volatile
  refine ⟨fun w b chk only own waits kind buffer _ lines run size packed unpoisoned sound => ?_,
    fun chk idle queued run media size packed room ok sound unaltered tag some_parcel free counted => ?_,
    fun w k sl s' only own waits stack room allocated => ?_⟩
  · subst own
    exact pageLockGrant_does calm runs region keyed known only waits kind buffer ⟨run, size⟩ packed lines unpoisoned sound chk o
  · have raw : OneRaw (s.entry page) := ⟨run, size⟩
    exact migrationStart_does calm ⟨runs, region, by rw [run]; decide, raw.code_zero, ok, keyed, tag⟩ raw known volatile packed media idle
      queued room sound unaltered some_parcel free counted chk
  · subst own
    exact stagingWaitEnd_does runs only waits stack room allocated calm

end Sys2Proof.Machine
end

section
/-! PROOFS. Key domains (chapter 06): the commands of an owning head (R145, R147, R148, R158, R159, R474) and the end of an erase (R148, R52,
R58). -/
namespace Sys2Proof

theorem Map.find_unlisted {α : Type} {m : Map α} {k : Nat} (unlisted : k ∉ m.map (·.1)) : m.find k = none := by
  induction m with
  | nil => rfl
  | cons x m ih =>
    simp only [List.map_cons, List.mem_cons, not_or] at unlisted
    obtain ⟨other, rest⟩ := unlisted
    rw [Map.find, if_neg (Ne.symm other), ih rest]

namespace Machine

/-! The owner and session checks (R147, R474). -/

section OwnerCheck
variable {s : State} {h : Head} {d : Nat} (served : Attends s (.head h)) (small : d < 4096) (f : Nat → State → State)
include served small

theorem ownerCheck_owner (own : s.rd MIL_KD_OWNER d = h) (session : s.inSession (.head h) = true) :
    ownerCheck (.head h) d f s = f h s := by
  simp [ownerCheck, served.mboxHead, Nat.not_le.2 small, own, session]

theorem ownerCheck_stranger (other : s.rd MIL_KD_OWNER d ≠ h) : ownerCheck (.head h) d f s = refuse (.head h) 2 s := by
  simp [ownerCheck, served.mboxHead, Nat.not_le.2 small, other]

theorem ownerCheck_unsecured (own : s.rd MIL_KD_OWNER d = h) (session : s.inSession (.head h) = false) :
    ownerCheck (.head h) d f s = refuse (.head h) 3 s := by
  simp [ownerCheck, served.mboxHead, Nat.not_le.2 small, own, session]

end OwnerCheck

/-! What an owner with a session brings about. -/

theorem State.Calm.setKeys {s : State} (calm : s.Calm) (k : Keys) : State.Calm { s with keys := k } :=
  ⟨calm.drain, calm.flush, calm.plan, calm.audit⟩

theorem State.Calm.setMgt {s : State} (calm : s.Calm) (m : Mgmt) : State.Calm { s with mgt := m } :=
  ⟨calm.drain, calm.flush, calm.plan, calm.audit⟩

/-- No right of a master is among the registers that say whether anything goes on by itself. -/
theorem rightsOf_apart {s : State} {master : Nat} {f : Fld} {ok : List Nat} (right : s.rightsOf master = some (f, ok)) :
    f.id ≠ TLR_STAT_ACTIVE.id ∧ f.id ≠ MOD_STATE_STATE.id := by
  unfold State.rightsOf at right
  dsimp only at right
  split_ifs at right <;> cases right <;> decide

section Owner
variable {s : State} {h : Head} {d : Nat} (calm : s.Calm) (served : Attends s (.head h)) (small : d < 4096)
  (own : s.rd MIL_KD_OWNER d = h) (session : s.inSession (.head h) = true)
include calm served small own session

theorem provisionVolatile_ends {secret : List Byte} (unkeyed : s.rd MIL_KD_STATE d = 0) (long : secret.length = 64)
    (volatile : s.rdB MIL_KD_PERSIST d = false) :
    Ends (.provisionKeyDomain (.head h) d secret) s (reply (.head h) .success [] (loadKeys d secret s)) := by
  have loads : provision (.head h) d secret s = reply (.head h) .success [] (loadKeys d secret s) := by
    rw [provision, ownerCheck_owner served small _ own session]
    simp [unkeyed, long, volatile]
  exact .of_eq rfl loads (((calm.wr MIL_KD_STATE 1 d (by decide) (by decide)).setKeys _).emit _)

theorem eraseKeyDomain_ends (idle : s.rd MIL_KD_STATE d ≠ 2) (free : s.bgBusy (.head h) = false)
    (released : s.rdB MIL_KD_PERSIST d = true → s.pins.logwpN = true) :
    Ends (.eraseKeyDomain (.head h) d) s (bgStart 0xC002 (.head h)
      { s.wr MIL_KD_STATE 2 d with keys := { s.keys with erasing := s.keys.erasing ++ [(d, .head h)] } }) := by
  refine .of_eq (y := eraseStart (.head h) d s) rfl ?_
    ((((calm.wr MIL_KD_STATE 2 d (by decide) (by decide)).setKeys _).setMgt _).emit _)
  rw [eraseStart, ownerCheck_owner served small _ own session]
  simpa [idle, free, State.writeProtected] using fun persistent protect => by simp [released persistent] at protect

section Rights
variable {master value : Nat} {f : Fld} {ok : List Nat} (right : s.rightsOf master = some (f, ok))
include right

theorem setMasterRights_ends (may : value ∈ ok) :
    Ends (.setMasterRights (.head h) d master value) s (reply (.head h) .success [] (s.wr f value d)) := by
  have sets : setRights (.head h) d master value s = reply (.head h) .success [] (s.wr f value d) := by
    rw [setRights, ownerCheck_owner served small _ own session]
    simp [right, may]
  obtain ⟨active, state⟩ := rightsOf_apart right
  exact .of_eq rfl sets ((calm.wr f value d active state).emit _)

theorem setMasterRights_refused (bad : value ∉ ok) :
    Ends (.setMasterRights (.head h) d master value) s (reply (.head h) .invalidInput [] s) := by
  have refused : setRights (.head h) d master value s = reply (.head h) .invalidInput [] s := by
    rw [setRights, ownerCheck_owner served small _ own session]
    simp [right, bad]
  exact .of_eq rfl refused (calm.emit _)

end Rights

end Owner

/-- Settles O29: the owner and session checks come first in all three commands, and past them each comes to one change and its answer. -/
theorem keyDomainCommands : Obligations.KeyDomainCommands := by
  intro s h d calm served small
  refine ⟨fun own session => ⟨fun secret => provisionVolatile_ends calm served small own session,
    eraseKeyDomain_ends calm served small own session, fun master value f ok right =>
      ⟨setMasterRights_ends calm served small own session right, setMasterRights_refused calm served small own session right⟩⟩,
    fun c secret master value command => ?_⟩
  obtain ⟨f, run⟩ : ∃ f, exec c s = .next (settle (ownerCheck (.head h) d f s)) := by
    rcases command with rfl | rfl | rfl <;> exact ⟨_, rfl⟩
  exact ⟨fun other => .of_eq run (ownerCheck_stranger served small f other) (calm.emit _),
    fun own session => .of_eq run (ownerCheck_unsecured served small f own session) (calm.emit _)⟩

/-! Parcels given up and held counts leave the keys alone (R170, R179). -/

theorem moveCount_keys (media : Bool) (a b : PState) (n : Nat) (s : State) : (moveCount media a b n s).keys = s.keys := by
  unfold moveCount
  split <;> rfl

theorem segOwned_keys (p : Nat) (up : Bool) (s : State) : (segOwned p up s).keys = s.keys := by
  unfold segOwned
  split <;> rfl

theorem staleToFree_keys (p : Nat) (s : State) : (staleToFree p s).keys = s.keys := by
  unfold staleToFree refillReserve
  split
  · rfl
  · split <;> exact moveCount_keys false .stale .free 1 s

theorem disownParcel_keys (p : Nat) (s : State) : (disownParcel p s).keys = s.keys := by
  have counted := fun k => (moveCount_keys (parcelMedia p) .owned k 1 (segOwned p false s)).trans (segOwned_keys p false s)
  unfold disownParcel
  dsimp only
  split
  · exact counted .quar
  · split
    · exact counted .stale
    · exact (staleToFree_keys p _).trans (counted .stale)

theorem disownRun_keys (parcel run : Nat) (s : State) : (disownRun parcel run s).keys = s.keys :=
  List.foldlRecOn _ _ (motive := fun t : State => t.keys = s.keys) rfl fun t kept p _ => (disownParcel_keys p t).trans kept

theorem repayDebt_keys (up : Bool) (h n : Nat) (s : State) : (repayDebt up h n s).keys = s.keys := by
  unfold repayDebt
  split <;> rfl

theorem heldChange_keys (page : Nat) (up : Bool) (n : Nat) (s : State) : (heldChange page up n s).keys = s.keys := by
  have region : (holdRegion page up n s).keys = s.keys := by
    unfold holdRegion
    split <;> rfl
  rw [heldChange_eq, holdExtent]
  split
  · exact (repayDebt_keys up _ n _).trans region
  · exact region

/-! What the clearing of pages leaves alone. -/

/-- A state is another but for what goes with the pages that are cleared: locks, buffers, page work, parcels, held counts, records,
messages. -/
structure Spared (s t : State) : Prop where
  home : t.home = s.home
  keys : t.keys = s.keys
  store : t.mem.store = s.mem.store
  pages : t.mem.pages = s.mem.pages
  lines : t.fc.lines = s.fc.lines
  mode : t.mode = s.mode
  walk : t.cap.auditWalk = s.cap.auditWalk
  serving : t.serving = s.serving
  active : t.rdB TLR_STAT_ACTIVE = s.rdB TLR_STAT_ACTIVE

namespace Spared

theorem refl (s : State) : Spared s s := ⟨rfl, rfl, rfl, rfl, rfl, rfl, rfl, rfl, rfl⟩

theorem trans {a b c : State} (h : Spared a b) (k : Spared b c) : Spared a c where
  home := k.home.trans h.home
  keys := k.keys.trans h.keys
  store := k.store.trans h.store
  pages := k.pages.trans h.pages
  lines := k.lines.trans h.lines
  mode := k.mode.trans h.mode
  walk := k.walk.trans h.walk
  serving := k.serving.trans h.serving
  active := k.active.trans h.active

theorem ite {p : Prop} [Decidable p] {s a b : State} (h : Spared s a) (k : Spared s b) : Spared s (if p then a else b) := by
  split <;> assumption

theorem of_accounts {except : List Fld} {moves : Nat → Prop} {s t : State} (accounts : Accounts except moves s t) (keys : t.keys = s.keys) :
    Spared s t where
  home := accounts.home
  keys := keys
  store := accounts.store
  pages := accounts.pages
  lines := congrArg Fc.lines accounts.fc
  mode := accounts.mode
  walk := accounts.walk
  serving := accounts.serving
  active := accounts.active

theorem of_keeps {s t : State} (kept : Keeps s t) : Spared s t :=
  of_accounts (.of_keeps (except := []) (moves := fun _ => False) kept) kept.keys

theorem wr {f : Fld} (active : f.id ≠ TLR_STAT_ACTIVE.id) (state : f.id ≠ MOD_STATE_STATE.id) (v i : Nat) (s : State) :
    Spared s (s.wr f v i) :=
  { refl s with
    serving := by unfold State.serving State.modeCode; rw [s.rd_wr_ne _ _ _ _ _ state.symm]; rfl
    active := by unfold State.rdB; rw [s.rd_wr_ne _ _ _ _ _ active.symm] }

theorem calm {s t : State} (spared : Spared s t) (calm : s.Calm) : t.Calm where
  drain := by rw [spared.mode]; exact calm.drain
  flush := by rw [spared.active]; exact calm.flush
  plan := by rw [spared.mode]; exact calm.plan
  audit := by rw [spared.walk, spared.serving]; exact calm.audit

end Spared

/-! Lines discarded (R53, R107, R148). -/

/-- The locks of some lines given up by their heads (R107). -/
def freeLocks (gone : Map FcLine) (s : State) : State := forAll gone (fun x s => if x.2.locked then unlockUse x.2.lockHead s else s) s

theorem freeLocks_spared (gone : Map FcLine) (s : State) : Spared s (freeLocks gone s) :=
  List.foldlRecOn gone _ (motive := Spared s) (.refl s) fun t done x _ =>
    done.trans (.ite (.wr (by decide) (by decide) _ _ t) (.refl t))

/-- A state with the lines that meet a test gone from its front cache. -/
def State.without (s : State) (p : Nat → Bool) : State := s.recache (s.fc.lines.filter (fun x => !(p x.2.line))) s.fc.plru

/-- The lines are gone; beside them only locks, buffered copies, write-backs, backing poison and events change. -/
theorem discardLines_spared (p : Nat → Bool) (s : State) : Spared (s.without p) (discardLines p true s) := by
  have freed := freeLocks_spared (s.fc.lines.filter (fun x => p x.2.line)) s
  have kept : ∀ m u, Keeps u (forHeads m (fun h s => raise (128 + 8 * h + 5) s) u) := fun m => .forHeads m _ fun h => .raise (128 + 8 * h + 5)
  unfold discardLines
  dsimp only
  rw [if_pos rfl]
  refine .trans ?_ (.of_keeps (kept _ _))
  exact { freed with lines := congrArg (List.filter (fun x => !(p x.2.line))) freed.lines }

theorem forgetPages_spared (p : Nat → Bool) (s : State) : Spared (s.without (fun l => p (linePage l))) (forgetPages p s) :=
  { discardLines_spared (fun l => p (linePage l)) s with }

/-! Page entries cleared (R52, R58). -/

/-- A page entry as it is cleared: GEN is kept. -/
def PageEntry.cleared (e : PageEntry) : PageEntry := { PageEntry.none with gen := e.gen }

/-- A state with other page entries. -/
def State.repage (s : State) (m : Map PageEntry) : State := { s with mem := { s.mem with pages := m } }

theorem Spared.repage {s t : State} (spared : Spared s t) (m : Map PageEntry) : Spared (s.repage m) (t.repage m) :=
  { spared with pages := rfl }

theorem clearPage_unlisted {page : Nat} {s : State} (unlisted : s.mem.pages.find page = none) : clearPage page s = s := by
  rw [clearPage, unlisted]

theorem Spared.setCleared {s t : State} (spared : Spared s t) (page : Nat) (e : PageEntry) :
    Spared (s.repage (s.mem.pages.put page e.cleared)) (deadClearPage page (setEntry page e.cleared t)) :=
  { spared with pages := congrArg (Map.put · page e.cleared) spared.pages }

/-- The entry of a listed page is cleared; beside it only parcels, held counts, the count of pins and records change. -/
theorem clearPage_spared {page : Nat} {s : State} {e : PageEntry} (listed : s.mem.pages.find page = some e) :
    Spared (s.repage (s.mem.pages.put page e.cleared)) (clearPage page s) := by
  have accounts : Accounts [] (fun _ => True) s (heldChange page false e.run (disownRun e.parcel e.run s)) :=
    (Accounts.disownRun (fun _ _ => trivial) s).trans (.heldChange page false e.run _)
  have released := Spared.of_accounts accounts ((heldChange_keys _ _ _ _).trans (disownRun_keys _ _ _))
  have unpinned := fun v => released.trans (.wr (f := TIE_PIN_USED) (by decide) (by decide) v 0 _)
  unfold clearPage
  rw [listed]
  exact (Spared.ite (unpinned _) released).setCleared page e

theorem clearPage_entry (page : Nat) (s : State) (q : Nat) :
    (clearPage page s).entry q = if q = page then (s.entry q).cleared else s.entry q := by
  cases listed : s.mem.pages.find page with
  | none =>
    rw [clearPage_unlisted listed]
    split
    · rename_i same
      rw [same, State.entry, Map.get, listed]
      rfl
    · rfl
  | some e =>
    have here : s.entry page = e := by rw [State.entry, Map.get, listed]; rfl
    rw [State.entry, (clearPage_spared listed).pages]
    refine (Map.get_put s.mem.pages page e.cleared q .none).trans ?_
    split
    · rename_i same; rw [same, here]
    · rfl

/-- The pages of a list are cleared, one listed twice as one listed once. -/
theorem forAll_clearPage_entry (l : List Nat) (s : State) (q : Nat) :
    (forAll l clearPage s).entry q = if q ∈ l then (s.entry q).cleared else s.entry q := by
  unfold forAll
  induction l generalizing s with
  | nil => simp
  | cons page l ih =>
    rw [List.foldl_cons, ih, clearPage_entry]
    by_cases here : q = page <;> simp [here, PageEntry.cleared]

/-- Every page that meets the test is cleared, listed or not: an unlisted page reads as a cleared one whose GEN is 0. -/
theorem clearPages_entry (p : Nat → Bool) (s : State) (page : Nat) :
    (clearPages p s).entry page = if p page = true then (s.entry page).cleared else s.entry page := by
  rw [clearPages, forAll_clearPage_entry]
  by_cases listed : page ∈ s.mem.pages.map (·.1)
  · simp only [List.mem_filter, listed, true_and]
  · have blank : s.entry page = .none := by rw [State.entry, Map.get, Map.find_unlisted listed]; rfl
    simp [listed, blank, PageEntry.cleared, PageEntry.none]

theorem clearPages_spared (p : Nat → Bool) (s : State) : Spared (s.repage (clearPages p s).mem.pages) (clearPages p s) :=
  List.foldlRecOn _ _ (motive := fun t : State => Spared (s.repage t.mem.pages) t) (.refl s) fun t done page _ => by
    cases listed : t.mem.pages.find page with
    | none => rw [clearPage_unlisted listed]; exact done
    | some e =>
      have cleared := clearPage_spared listed
      rw [cleared.pages]
      exact (done.repage _).trans cleared

/-! The end of an erase (R148 steps 3 to 5). -/

/-- Another list of background commands and sessions is beside the closing work. -/
theorem Keeps.setMgt {s t : State} (kept : Keeps s t) (m : Mgmt) : Keeps { s with mgt := m } { t with mgt := m } :=
  { kept with mgt := rfl }

/-- A background command that ends leaves the list of those that run; its answer and its event are beside the closing work. -/
theorem bgEnd_keeps (op : Nat) (rt : Route) (code : Ret) (payload : List Nat) (s : State) :
    ∃ m, Keeps { s with mgt := m } (bgEnd op rt code payload s) := by
  unfold bgEnd
  split
  · exact ⟨_, (Keeps.emit _ _).trans (.raise 997 _)⟩
  · exact ⟨s.mgt, .refl s⟩

theorem bgEnd_pend (op : Nat) (rt : Route) (code : Ret) (payload : List Nat) {src : Nat} {s : State}
    (stands : s.rdBit EVT_PEND_PEND (src % 64) (src / 64) = true) :
    (bgEnd op rt code payload s).rdBit EVT_PEND_PEND (src % 64) (src / 64) = true := by
  obtain ⟨m, kept⟩ := bgEnd_keeps op rt code payload s
  exact kept.pend src stands

/-- The pages of a domain dropped and cleared. -/
def dropPages (p : Nat → Bool) (s : State) : State := clearPages p (forgetPages p s)

theorem dropPages_spared (p : Nat → Bool) (s : State) :
    Spared ((s.without (fun l => p (linePage l))).repage (dropPages p s).mem.pages) (dropPages p s) :=
  ((forgetPages_spared p s).repage _).trans (clearPages_spared p (forgetPages p s))

theorem dropPages_entry (p : Nat → Bool) (s : State) (page : Nat) :
    (dropPages p s).entry page = if p page = true then (s.entry page).cleared else s.entry page := by
  have forgotten : (forgetPages p s).entry page = s.entry page := by
    rw [State.entry, (forgetPages_spared p s).pages]
    rfl
  rw [dropPages, clearPages_entry, forgotten]

/-- A domain Unkeyed, its slot zeroised and its erase over. -/
def unkeyDomain (d : Nat) (s : State) : State :=
  { s.wr MIL_KD_STATE 0 d with
    keys := { s.keys with slots := s.keys.slots.del d, erasing := s.keys.erasing.filter (fun x => x.1 ≠ d) } }

/-- Nothing of a domain is under way: no request, host copy, eviction, page work or descriptor (R148 steps 2 and 3). -/
structure Drained (s : State) (p : Nat → Bool) : Prop where
  reqs : ∀ q ∈ s.home.reqs, p (linePage q.line) = false
  work : s.workTouches p = false
  desc : s.descTouches p = false
  filt : ∀ x ∈ s.home.filt, p (linePage x.1) = false
  evt : ∀ e ∈ s.home.evt, p (linePage e.line) = false

theorem eraseDrained_drained {s : State} {d : Nat} {rt : Route} (runs : s.stopped = false)
    (erasing : s.keys.erasing.find? (fun x => x.1 == d) = some (d, rt)) (volatile : s.rdB MIL_KD_PERSIST d = false)
    (drained : Drained s (s.inDomain d)) :
    eraseDrained d s = bgEnd 0xC002 rt .success [] (raise 392 (unkeyDomain d (dropPages (s.inDomain d) s))) := by
  obtain ⟨reqs, work, desc, filt, evt⟩ := drained
  have no_req : s.home.reqs.any (fun q => s.inDomain d (linePage q.line)) = false := List.any_eq_false.2 (by simpa using reqs)
  have no_copy : s.home.filt.any (fun x => s.inDomain d (linePage x.1)) = false := List.any_eq_false.2 (by simpa using filt)
  have no_evict : s.home.evt.any (fun t => s.inDomain d (linePage t.line)) = false := List.any_eq_false.2 (by simpa using evt)
  have no_blob : eraseBlob d s = (true, s) := by simp [eraseBlob, volatile]
  unfold eraseDrained
  rw [erasing]
  simp only [runs, no_req, work, desc, no_copy, no_evict, no_blob, Bool.or_self, Bool.not_true, Bool.false_eq_true, if_false]
  rfl

/-- The event of an erase and its answer are beside the closing work, but for the list of background commands. -/
theorem eraseReport_keeps (rt : Route) (s : State) : ∃ m, Keeps { s with mgt := m } (bgEnd 0xC002 rt .success [] (raise 392 s)) := by
  obtain ⟨m, answered⟩ := bgEnd_keeps 0xC002 rt .success [] (raise 392 s)
  exact ⟨m, ((Keeps.raise 392 s).setMgt m).trans answered⟩

/-- Settles O30: nothing waits, so the domain's lines and entries go, then its key; its event and answer change none of these. -/
theorem erasedDomainIsGone : Obligations.ErasedDomainIsGone := by
  intro s d rt calm runs erasing volatile reqs work desc filt evt
  have spared := dropPages_spared (s.inDomain d) s
  have entries := dropPages_entry (s.inDomain d) s
  have ends := eraseDrained_drained runs erasing volatile ⟨reqs, work, desc, filt, evt⟩
  generalize dropPages (s.inDomain d) s = u at spared entries ends
  have unkeyed : (unkeyDomain d u).Calm :=
    ((spared.calm ⟨calm.drain, calm.flush, calm.plan, calm.audit⟩).wr MIL_KD_STATE 0 d (by decide) (by decide)).setKeys _
  obtain ⟨m, reported⟩ := eraseReport_keeps rt (unkeyDomain d u)
  obtain ⟨t, ran, closed⟩ := Ends.of_eq (c := .eraseDomainDrained d) rfl ends (reported.calm (unkeyed.setMgt m))
  have kept := reported.trans closed
  refine ⟨t, ran, ?_, ?_, ?_, ?_, ?_, ?_, ?_, ?_, ?_⟩
  · exact (kept.regs MIL_KD_STATE d (by decide)).trans (u.rd_wr_same MIL_KD_STATE 0 d)
  · rw [kept.keys]; exact (Map.find_del _ _ _).trans (if_pos rfl)
  · rw [kept.keys]; simp [unkeyDomain]
  · intro d' other
    rw [kept.keys]
    refine (Map.find_del _ _ _).trans ((if_neg other).trans ?_)
    rw [spared.keys]
    rfl
  · intro page
    rw [State.entry, kept.mem]
    exact entries page
  · rw [kept.fc]
    exact spared.lines
  · exact closed.pend 392 (bgEnd_pend _ _ _ _ (raise_pend 392 _ (by decide)))
  · rw [kept.mem]
    exact spared.store
  · exact kept.home.trans spared.home

end Machine
end Sys2Proof
end

section
/-! PROOFS. What every step leaves settled (R181, R182, R374, R380). -/
namespace Sys2Proof.Machine

/-- Every step ends in the closing work: with a command at the front, that of the command, and with none that of a cycle. -/
theorem step_settles (s : State) : ∃ x, step s = .next (settle x) := by
  cases queue : s.pending with
  | nil => exact ⟨_, step_nil s queue⟩
  | cons c rest =>
    obtain ⟨x, run⟩ := exec_settles c { s with pending := rest }
    exact ⟨x, (step_cons s c rest queue).trans run⟩

/-- Settles O4: every step ends in the closing work, and what that leaves holds whatever the state it began in. -/
theorem everyStepSettles : Obligations.EveryStepSettles := by
  intro s s' stepped
  obtain ⟨x, ends⟩ := step_settles s
  obtain rfl : settle x = s' := Host.Outcome.next.inj (ends.symm.trans stepped)
  exact settled x

end Sys2Proof.Machine
end

section
/-! PROOFS. Audits of the parcel counters (R175, R176, R69). -/
namespace Sys2Proof.Machine

/-! The end of an audit (R175, R176). -/

/-- What CAP_AUD shows of an audit that has ended with some differences. -/
def auditShown (walk : Bool) (diffs : List Int) (s : State) : State :=
  (((s.wr CAP_AUD_RESULT (if diffs.all (· = 0) then 1 else 2)).wr CAP_AUD_BUSY 0).wrB CAP_AUD_KIND walk).bump CAP_AUD_SEQ 1

section Shown
variable (walk : Bool) (diffs : List Int) (s : State)

theorem auditShown_result : (auditShown walk diffs s).rd CAP_AUD_RESULT = if diffs.all (· = 0) then 1 else 2 := by
  unfold auditShown
  rw [State.rd_bump_ne _ _ _ _ _ _ (by decide), State.rd_wrB_ne _ _ _ _ _ _ (by decide), State.rd_wr_ne _ _ _ _ _ _ (by decide),
    State.rd_wr_same]
  split <;> rfl

theorem auditShown_busy : (auditShown walk diffs s).rd CAP_AUD_BUSY = 0 := by
  unfold auditShown
  rw [State.rd_bump_ne _ _ _ _ _ _ (by decide), State.rd_wrB_ne _ _ _ _ _ _ (by decide), State.rd_wr_same]
  rfl

theorem auditShown_kind : (auditShown walk diffs s).rd CAP_AUD_KIND = walk.toNat := by
  unfold auditShown State.wrB
  rw [State.rd_bump_ne _ _ _ _ _ _ (by decide), State.rd_wr_same]
  cases walk <;> rfl

theorem auditShown_seq :
    (auditShown walk diffs s).rd CAP_AUD_SEQ = min (s.rd CAP_AUD_SEQ + 1) (2 ^ CAP_AUD_SEQ.w - 1) := by
  unfold auditShown
  rw [State.rd_bump_same, State.rd_wrB_ne _ _ _ _ _ _ (by decide), State.rd_wr_ne _ _ _ _ _ _ (by decide),
    State.rd_wr_ne _ _ _ _ _ _ (by decide)]

theorem auditShown_regs : RegsKept [CAP_AUD_RESULT, CAP_AUD_BUSY, CAP_AUD_KIND, CAP_AUD_SEQ] s (auditShown walk diffs s) := by
  intro f i _ other
  simp only [List.map_cons, List.map_nil, List.contains_cons, List.contains_nil, Bool.or_false, Bool.or_eq_false_iff,
    beq_eq_false_iff_ne] at other
  obtain ⟨result, busy, kind, seq⟩ := other
  unfold auditShown
  rw [State.rd_bump_ne _ _ _ _ _ _ seq, State.rd_wrB_ne _ _ _ _ _ _ kind, State.rd_wr_ne _ _ _ _ _ _ busy,
    State.rd_wr_ne _ _ _ _ _ _ result]

variable {s}

theorem auditShown_calm (calm : s.Calm) : (auditShown walk diffs s).Calm :=
  (((calm.wr CAP_AUD_RESULT _ 0 (by decide) (by decide)).wr CAP_AUD_BUSY 0 0 (by decide) (by decide)).wr CAP_AUD_KIND _ 0 (by decide)
    (by decide)).bump CAP_AUD_SEQ 1 0 (by decide) (by decide)

variable (s)

/-- The end of an audit raises its event over what it shows, and on a mismatch records it and raises another. -/
theorem auditEnd_eq : auditEnd walk diffs s =
    if diffs.all (· = 0) then raise 457 (auditShown walk diffs s)
    else raise 458 (noteRec 458 (diffWord (diffs.headD 0)) diffs.length (raise 457 (auditShown walk diffs s))) := by
  have bad : diffs.any (· ≠ 0) = !(diffs.all (· = 0)) := by simp [List.not_all_eq_any_not]
  unfold auditEnd auditShown
  rw [bad]
  cases diffs.all (· = 0) <;> rfl

theorem Keeps.auditEnd : Keeps (auditShown walk diffs s) (auditEnd walk diffs s) := by
  rw [auditEnd_eq]
  exact .ite (.raise 457 _) (((Keeps.raise 457 _).trans (.noteRec _ _ _ _)).trans (.raise 458 _))

theorem auditEnd_pend : (auditEnd walk diffs s).rdBit EVT_PEND_PEND (457 % 64) (457 / 64) = true := by
  have raised := raise_pend 457 (auditShown walk diffs s) (by decide)
  rw [auditEnd_eq]
  split
  · exact raised
  · exact ((Keeps.noteRec _ _ _ _).trans (.raise 458 _)).pend 457 raised

end Shown

/-! An audit that a mailbox asks for (R175). -/

section Asked
variable {s : State} {rt : Route} (calm : s.Calm) (served : Attends s rt) (idle : s.rdB CAP_AUD_BUSY = false)
include calm served idle

theorem auditSnapshot_does : Does (.auditSnapshot (some rt)) s (fun t =>
    t.rd CAP_AUD_RESULT = (if s.snapDiffs.all (· = 0) then 1 else 2) ∧ t.rd CAP_AUD_BUSY = 0 ∧ t.rd CAP_AUD_KIND = 0 ∧
    t.rd CAP_AUD_SEQ = min (s.rd CAP_AUD_SEQ + 1) (2 ^ CAP_AUD_SEQ.w - 1) ∧
    t.rdBit EVT_PEND_PEND (457 % 64) (457 / 64) = true ∧ t.cap = { s.cap with debt := t.cap.debt } ∧
    Sends s t (.mbox rt .success 0 (s.counters ++ [s.heldOf (fun _ => true), s.heldOf (fun r => r.elastic), s.useSum] ++
      s.snapDiffs.map diffWord)) ∧ RegsKept [CAP_AUD_RESULT, CAP_AUD_BUSY, CAP_AUD_KIND, CAP_AUD_SEQ] s t) := by
  have ended := Keeps.auditEnd false s.snapDiffs s
  obtain ⟨t, ran, kept⟩ : Ends (.auditSnapshot (some rt)) s (reply rt .success (s.counters ++
      [s.heldOf (fun _ => true), s.heldOf (fun r => r.elastic), s.useSum] ++ s.snapDiffs.map diffWord) (auditEnd false s.snapDiffs s)) := by
    refine .of_eq (y := auditSnapshot (some rt) s) rfl ?_ ((ended.calm (auditShown_calm false _ calm)).emit _)
    rw [auditSnapshot]
    dsimp only
    rw [served.mailbox, idle]
    rfl
  have shown := (ended.trans (.emit _ _)).trans kept
  have regs : ∀ f, closingFlds.contains f.id = false → t.rd f = (auditShown false s.snapDiffs s).rd f := fun f closing => shown.regs f 0 closing
  exact ⟨t, ran, (regs _ (by decide)).trans (auditShown_result _ _ _), (regs _ (by decide)).trans (auditShown_busy _ _ _),
    (regs _ (by decide)).trans (auditShown_kind _ _ _), (regs _ (by decide)).trans (auditShown_seq _ _ _),
    ((Keeps.emit _ _).trans kept).pend 457 (auditEnd_pend _ _ _), shown.cap, ((Sends.emit _ _).after kept.out).before ended.out,
    fun f i closing other => (shown.regs f i closing).trans (auditShown_regs _ _ _ f i closing other)⟩

theorem auditWalk_ends (serving : s.serving = true) (free : s.bgBusy rt = false) : Ends (.auditWalk (some rt)) s
    ({ (s.wr CAP_AUD_BUSY 1).wr CAP_AUD_KIND 1 with
      cap := { s.cap with auditWalk := some (some rt) }
      mgt := { s.mgt with background := s.mgt.background ++ [(0xC000, rt)] } }.emit (.mbox rt .background 0 [])) := by
  have marked : ((s.wr CAP_AUD_BUSY 1).wr CAP_AUD_KIND 1).Calm :=
    (calm.wr CAP_AUD_BUSY 1 0 (by decide) (by decide)).wr CAP_AUD_KIND 1 0 (by decide) (by decide)
  have serves : ((s.wr CAP_AUD_BUSY 1).wr CAP_AUD_KIND 1).serving = true :=
    (((Sees.wr s CAP_AUD_BUSY 1 0 (by decide)).trans (.wr _ CAP_AUD_KIND 1 0 (by decide))).serving rfl).trans serving
  refine .of_eq (y := auditWalk (some rt) s) rfl ?_ ⟨marked.drain, marked.flush, marked.plan, .inr serves⟩
  have may : s.auditable = true := by simp [State.auditable, serving, calm.drain]
  rw [auditWalk]
  dsimp only
  rw [served.mailbox, may, if_pos rfl, idle, free]
  rfl

end Asked

/-! The end of a walk (R69, R175). -/

/-- The held count that a walk finds for a region: the parcels of its written pages and of growth in flight. -/
def State.recount (s : State) (r : Region) : Nat := s.runSum (fun x => r.holds x.1) + s.growthSum r.holds

/-- The held count of each region corrected to the walk's. -/
def recountRegions (l : List Region) (s : State) : State :=
  forAll l (fun r s => { s with cap := { s.cap with rgnHeld := s.cap.rgnHeld.put r.n (s.recount r) } }) s

/-- No correction changes what the next one counts. -/
theorem recountRegions_eq (l : List Region) (s : State) : recountRegions l s =
    { s with cap := { s.cap with rgnHeld := l.foldl (fun m r => m.put r.n (s.recount r)) s.cap.rgnHeld } } := by
  unfold recountRegions forAll
  induction l generalizing s with
  | nil => rfl
  | cons r l ih => rw [List.foldl_cons, ih]; rfl

end Sys2Proof.Machine

namespace Sys2Proof

/-- Of values put one after another under different keys each stands. -/
theorem Map.get_foldl_put {α β : Type} {key : α → Nat} {val : α → β} {l : List α}
    (apart : ∀ a ∈ l, ∀ b ∈ l, key a = key b → a = b) {a : α} (mem : a ∈ l) (m : Map β) (d : β) : (l.foldl (fun m a => m.put (key a) (val a)) m).get (key a) d = val a := by
  induction l using List.reverseRecOn with
  | nil => cases mem
  | append_singleton l b ih =>
    rw [List.foldl_append, List.foldl_cons, List.foldl_nil, Map.get_put]
    split
    · rename_i same
      rw [apart a mem b (by simp) same]
    · rename_i other
      have before : a ∈ l := by
        rcases List.mem_append.1 mem with before | last
        · exact before
        · exact absurd (congrArg key (List.mem_singleton.1 last)) other
      exact ih (fun x hx y hy => apart x (by simp [hx]) y (by simp [hy])) before

namespace Machine

theorem region_number {s : State} {n : Nat} {r : Region} (found : s.region n = some r) : r.n = n := by
  unfold State.region at found
  split at found <;> cases found
  rfl

/-- The regions of the image have different numbers. -/
theorem regions_apart (s : State) : ∀ a ∈ s.regions, ∀ b ∈ s.regions, a.n = b.n → a = b := by
  have numbered : ∀ r ∈ s.regions, s.region r.n = some r := fun r mem => by
    obtain ⟨n, _, found⟩ := List.mem_filterMap.1 mem
    rw [region_number found, found]
  intro a inA b inB same
  exact Option.some.inj ((numbered a inA).symm.trans (same ▸ numbered b inB))

/-- The differences that a walk without orphaned parcels finds (R175). -/
def State.walkDiffs (s : State) : List Int :=
  s.snapDiffs ++ [(s.cap.dram.owned : Int) - s.runSum (fun x => !x.2.tier), (s.cap.media.owned : Int) - s.runSum (fun x => x.2.tier)]

theorem State.walkDiffs_zero (s : State) : (s.walkDiffs.all (· = 0) = true) = (s.snapDiffs.all (· = 0) ∧
    s.cap.dram.owned = s.runSum (fun x => !x.2.tier) ∧ s.cap.media.owned = s.runSum (fun x => x.2.tier)) := by
  simp [State.walkDiffs, sub_eq_zero]

/-- The walk is over, and nothing is noted for the next. -/
def walkOver (s : State) : State := { s with cap := { s.cap with orphans := [], lostSinceWalk := false, auditWalk := none } }

theorem auditWalkEnd_own {s : State} (walks : s.cap.auditWalk = some none) (no_orphan : s.orphanList = []) :
    auditWalkEnd s = auditEnd true s.walkDiffs (correctCounts (walkOver s)) := by
  unfold auditWalkEnd
  simp [walks, no_orphan, forAll, State.walkDiffs, walkOver, State.tier]

/-- What the correction of the counts leaves of a state. -/
structure Recounted (s t : State) : Prop where
  regs : ∀ (f : Fld) (i : Nat), f.id ≠ TIE_PIN_USED.id → t.rd f i = s.rd f i
  held : ∀ r ∈ s.regions, t.cap.rgnHeld.get r.n 0 = s.recount r
  cap : t.cap = { s.cap with rgnHeld := t.cap.rgnHeld }
  pages : t.mem.pages = s.mem.pages
  mode : t.mode = s.mode

theorem correctCounts_recounted (s : State) : Recounted s (correctCounts s) := by
  obtain ⟨m, d, v, pages, corrected⟩ : ∃ m d v, m.pages = s.mem.pages ∧
      correctCounts s = ({ recountRegions s.regions s with mem := m, media := d } : State).wr TIE_PIN_USED v := by
    refine ⟨_, _, _, ?_, rfl⟩
    show (recountRegions s.regions s).mem.pages = s.mem.pages
    rw [recountRegions_eq]
  rw [corrected, recountRegions_eq]
  exact {
    regs := fun f i other => State.rd_wr_ne _ _ _ _ _ _ other
    held := fun r mem => Map.get_foldl_put (regions_apart s) mem _ _
    cap := rfl
    pages := pages
    mode := rfl }

theorem walkOver_calm {s : State} (calm : s.Calm) : (walkOver s).Calm := ⟨calm.drain, calm.flush, calm.plan, .inl rfl⟩

theorem Recounted.calm {s t : State} (r : Recounted s t) (calm : s.Calm) : t.Calm where
  drain := by rw [r.mode]; exact calm.drain
  flush := by unfold State.rdB; rw [r.regs _ _ (by decide)]; exact calm.flush
  plan := by rw [r.mode]; exact calm.plan
  audit := by
    unfold State.serving State.modeCode
    rw [r.cap, r.regs _ _ (by decide), r.mode]
    exact calm.audit

/-- Settles O31: an audit ends in what CAP_AUD shows, its events and its answer, and before its end a walk corrects the counts alone. -/
theorem auditsReport : Obligations.AuditsReport := by
  intro s calm
  refine ⟨fun rt served idle => ⟨auditSnapshot_does calm served idle, auditWalk_ends calm served idle⟩, fun walks no_orphan => ?_⟩
  have counted := correctCounts_recounted (walkOver s)
  have ended := Keeps.auditEnd true s.walkDiffs (correctCounts (walkOver s))
  obtain ⟨t, ran, kept⟩ : Ends .auditWalkComplete s _ := .of_eq rfl (auditWalkEnd_own walks no_orphan)
    (ended.calm (auditShown_calm true _ (counted.calm (walkOver_calm calm))))
  have shown := ended.trans kept
  have regs : ∀ f, closingFlds.contains f.id = false → t.rd f = (auditShown true s.walkDiffs (correctCounts (walkOver s))).rd f :=
    fun f closing => shown.regs f 0 closing
  have cap : t.cap = { (walkOver s).cap with rgnHeld := (correctCounts (walkOver s)).cap.rgnHeld, debt := t.cap.debt } :=
    shown.cap.trans (congrArg (fun c : Cap => { c with debt := t.cap.debt }) counted.cap)
  refine ⟨t, ran, (regs _ (by decide)).trans (auditShown_busy _ _ _), (regs _ (by decide)).trans (auditShown_kind _ _ _), ?_, ?_,
    kept.pend 457 (auditEnd_pend _ _ _), fun r mem => ?_, ?_, ?_, ?_, ?_⟩
  · rw [cap]; rfl
  · rw [regs _ (by decide), auditShown_result]
    simp only [State.walkDiffs_zero]
  · rw [cap]; exact counted.held r mem
  · rw [shown.mem]; exact counted.pages
  · rw [cap]; rfl
  · rw [cap]; rfl
  · rw [cap]; rfl

end Machine
end Sys2Proof
end

section
/-! PROOFS. What the periods of chapter 07 do: release requests (R183), heat (R187), the demotion sweep (R188); and the journal checkpoint (R70). -/
namespace Sys2Proof.Machine

theorem State.Calm.setCap {s : State} (calm : s.Calm) {c : Cap} (walk : c.auditWalk = s.cap.auditWalk) : State.Calm { s with cap := c } :=
  ⟨calm.drain, calm.flush, calm.plan, by rw [walk]; exact calm.audit⟩

/-! Release requests (R183). -/

theorem pickExtents_one {n want e : Nat} {x : Extent} (may : n ≠ 0) (wants : want ≠ 0) : pickExtents n want [(e, x)] = [e] := by
  obtain ⟨n, rfl⟩ := Nat.exists_eq_succ_of_ne_zero may
  unfold pickExtents
  rw [if_neg wants]
  cases n <;> rfl

/-- The extents of a list that a head holds. -/
def State.heldAmong (s : State) (exts : List Nat) (h : Nat) : List Nat :=
  exts.filter (fun e => match s.mem.extents.find e with | some x => x.accepted.getLsbD h | none => false)

/-- A head asked for those of some extents that it holds. -/
def askHolder (exts : List Nat) (h : Nat) (s : State) : State :=
  if (s.heldAmong exts h).isEmpty then s else dcSend h 2 (s.heldAmong exts h) (s.bump CAP_ED_RELREQ (s.heldAmong exts h).length h)

/-- An extent marked as asked of the heads that hold it. -/
def markAsked (e : Nat) (s : State) : State :=
  match s.mem.extents.find e with
  | some x => { s with mem := { s.mem with extents := s.mem.extents.put e { x with requested := x.accepted } } }
  | none => s

theorem askRelease_eq (exts : List Nat) (s : State) : askRelease exts s = forAll exts markAsked (forAll (List.range 16) (askHolder exts) s) := rfl

/-- An operation that acts at one place of a list alone. -/
theorem forAll_single {f : Nat → State → State} {s : State} {l : List Nat} {h : Nat} (nodup : l.Nodup) (mem : h ∈ l)
    (others : ∀ g u, g ≠ h → u = s ∨ u = f h s → f g u = u) : forAll l f s = f h s := by
  obtain ⟨before, after, rfl⟩ := List.append_of_mem mem
  obtain ⟨_, right, apart⟩ := List.nodup_append.1 nodup
  have fixed : ∀ (k : List Nat) u, (u = s ∨ u = f h s) → (∀ g ∈ k, g ≠ h) → k.foldl (fun s a => f a s) u = u := by
    intro k u which other
    exact List.foldlRecOn k _ (motive := fun v => v = u) rfl fun v same g inK => by rw [same]; exact others g u (other g inK) which
  unfold forAll
  rw [List.foldl_append, List.foldl_cons, fixed before s (.inl rfl), fixed after _ (.inr rfl)]
  · exact fun g inAfter same => (List.nodup_cons.1 right).1 (same ▸ inAfter)
  · exact fun g inBefore same => apart g inBefore h (by simp) same

theorem headBit_bit {h : Nat} (small : h < 16) (g : Nat) : (headBit h).getLsbD g = decide (g = h) := by
  simp only [headBit, BitVec.getLsbD_shiftLeft, BitVec.getLsbD_one, Bool.and_eq_decide]
  by_cases same : g = h
  · subst same; simp [small]
  · simp [same]; omega

section Asked
variable {s : State} {h e : Nat} {x : Extent} (small : h < 16) (found : s.mem.extents.find e = some x) (sole : x.accepted = headBit h)
include small found sole

theorem heldAmong_sole {u : State} (same : u.mem = s.mem) (g : Nat) : u.heldAmong [e] g = if g = h then [e] else [] := by
  unfold State.heldAmong
  rw [same, List.filter_singleton, found]
  simp [sole, headBit_bit small]

/-- The head asked, in its log, by its message and in RELREQ, and its extent marked. -/
def askedOne (h e : Nat) (x : Extent) (s : State) : State :=
  ({ s.bump CAP_ED_RELREQ 1 h with
    mem := { s.mem with extents := s.mem.extents.put e { x with requested := x.accepted } }
    evt := { s.evt with dcLog := s.evt.dcLog.put h (s.evt.dcLog.get h [] ++ [(2, e)]) } } : State).emit (.dcEvent h 2 [e])

/-- Only the one holder is asked. -/
theorem askRelease_sole : askRelease [e] s = askedOne h e x s := by
  have own : askHolder [e] h s = dcSend h 2 [e] (s.bump CAP_ED_RELREQ 1 h) := by
    simp [askHolder, heldAmong_sole small found sole rfl]
  have stays : ∀ g u, g ≠ h → u = s ∨ u = askHolder [e] h s → askHolder [e] g u = u := by
    intro g u other which
    have same : u.mem = s.mem := by
      rcases which with rfl | rfl
      · rfl
      · rw [own, dcSend_mem]; rfl
    simp [askHolder, heldAmong_sole small found sole same, other]
  rw [askRelease_eq, forAll_single List.nodup_range (List.mem_range.2 small) stays, own]
  show markAsked e (dcSend h 2 [e] (s.bump CAP_ED_RELREQ 1 h)) = _
  rw [markAsked, dcSend_mem, State.bump_mem, found]
  rfl

theorem releasePeriod_sole (serving : s.serving = true) (pressed : s.rd CAP_GPOOL_LEVEL ≠ 0)
    (above : (List.range 16).filter s.aboveQuota = [h]) (may : s.askable h = [(e, x)]) (excess : s.excess h ≠ 0)
    (limit : s.rd CAP_WM_RELMAX ≠ 0) : releasePeriod s = raise 455 (askedOne h e x s) := by
  have picked : pickExtents (s.rd CAP_WM_RELMAX) (s.excess h) [(e, x)] = [e] := pickExtents_one limit excess
  simp [releasePeriod, serving, pressed, above, byDesc, byDesc.ins, may, picked, forAll, askRelease_sole small found sole]

end Asked

theorem askedOne_calm (h e : Nat) (x : Extent) {s : State} (calm : s.Calm) : (askedOne h e x s).Calm :=
  have counted := calm.bump CAP_ED_RELREQ 1 h (by decide) (by decide)
  ⟨counted.drain, counted.flush, counted.plan, counted.audit⟩

theorem releasePeriod_normal {s : State} (normal : s.rd CAP_GPOOL_LEVEL = 0) : releasePeriod s = s := by simp [releasePeriod, normal]

/-! The demotion sweep (R188). -/

theorem demotionState_stays {s : State} (demoting : s.cap.demoting = true) (low : (s.cap.dram.free : Int) ≤ gib (s.rd TIE_DWM_STOP)) :
    demotionState s = s := by
  have below : ¬ gib (s.rd TIE_DWM_STOP) < s.cap.dram.free := by omega
  simp [demotionState, demoting, below]

/-- A candidate's demotion waits for the page lock, and the sweep goes on after it. -/
def sweepTaken (page : Nat) (e : PageEntry) (s : State) : State :=
  addWork page 0 (.migrate false false) { s with cap := { s.cap with sweep := e.parcel + 1, passFound := true } }

theorem demotionSweep_takes {s : State} {page : Nat} {e : PageEntry} (calm : s.Calm) (persist : s.part.persist = true)
    (serving : s.serving = true) (demoting : s.cap.demoting = true) (low : (s.cap.dram.free : Int) ≤ gib (s.rd TIE_DWM_STOP))
    (candidate : s.candidate = some (page, e)) : demotionSweep s = sweepTaken page e s := by
  simp [demotionSweep, persist, serving, calm.drain, demotionState_stays demoting low, demoting, candidate, sweepTaken]

theorem sweepTaken_calm (page : Nat) (e : PageEntry) {s : State} (calm : s.Calm) : (sweepTaken page e s).Calm :=
  ⟨calm.drain, calm.flush, calm.plan, calm.audit⟩

/-! The journal checkpoint (R70, R230). -/

theorem padStaged_none {s : State} (no_stripe : ∀ k, k < 16 → s.openStripe k 0 = none) : padStaged s = s := by
  refine List.foldlRecOn _ _ (motive := fun t => t = s) rfl fun t same k mem => ?_
  subst same
  show padStream k 0 t = t
  unfold padStream
  rw [no_stripe k (List.mem_range.1 mem)]

/-- The durable entry of a page after those of some pages are made durable. -/
theorem durable_find (pages : Map PageEntry) (go : List Nat) (d : Map PageEntry) (p : Nat) :
    (go.foldl (fun d p => match pages.find p with | some e => d.put p e | none => d.del p) d).find p =
      if p ∈ go then pages.find p else d.find p := by
  induction go generalizing d with
  | nil => simp
  | cons q go ih =>
    rw [List.foldl_cons, ih]
    by_cases later : p ∈ go
    · simp [later]
    · cases entry : pages.find q <;> by_cases own : p = q <;> simp [later, own, entry, Map.find_put, Map.find_del]

theorem journalWrite_durable (s : State) (p : Nat) : (journalWrite s).mem.durable.find p =
    if s.mem.unjournaled.contains p ∧ s.unverified p = false then s.mem.pages.find p else s.mem.durable.find p := by
  refine (durable_find s.mem.pages (s.mem.unjournaled.filter (fun p => !(s.unverified p))) s.mem.durable p).trans ?_
  simp

/-- The state in which a checkpoint that was due is so no longer. -/
def checkpointTaken (s : State) : State := { s with mem := { s.mem with checkpointDue := false } }

theorem journalCheckpoint_writes {s : State} (runs : s.stopped = false) (awake : s.modeCode ≠ 6) (verified : s.stagedCommits = false)
    (no_stripe : ∀ k, k < 16 → s.openStripe k 0 = none) : journalCheckpoint s = rootRecord 1 (journalWrite (checkpointTaken s)) := by
  have padded : padStaged { s with mem := { s.mem with checkpointDue := true } } = { s with mem := { s.mem with checkpointDue := true } } :=
    padStaged_none no_stripe
  have none_staged : ({ s with mem := { s.mem with checkpointDue := true } } : State).stagedCommits = false := verified
  unfold journalCheckpoint checkpoint
  simp only [runs, beq_eq_false_iff_ne.2 awake, Bool.or_self, Bool.false_eq_true, if_false, padded, none_staged, Bool.not_false, Bool.and_self,
    if_true]
  rfl

/-- Settles O32: each period comes to one change of a calm state, which the closing work keeps. -/
theorem periodsDoTheirWork : Obligations.PeriodsDoTheirWork := by
  intro s calm
  refine ⟨fun h e x serving pressed above may found sole excess limit => ?_,
    fun normal => .of_eq rfl (releasePeriod_normal normal) calm, .of rfl (calm.setCap rfl),
    fun page e persist serving demoting low candidate =>
      .of_eq rfl (demotionSweep_takes calm persist serving demoting low candidate) (sweepTaken_calm page e calm),
    fun runs awake verified no_stripe => ?_⟩
  · have small : h < 16 := by
      have mem : h ∈ (List.range 16).filter s.aboveQuota := by rw [above]; exact List.mem_singleton_self h
      exact List.mem_range.1 (List.mem_filter.1 mem).1
    exact .of_eq rfl (releasePeriod_sole small found sole serving pressed above may excess limit)
      ((Keeps.raise 455 _).calm (askedOne_calm h e x calm))
  · have written : (journalWrite (checkpointTaken s)).Calm := ⟨calm.drain, calm.flush, calm.plan, calm.audit⟩
    exact ⟨journalWrite (checkpointTaken s), .of_eq rfl (journalCheckpoint_writes runs awake verified no_stripe)
      ((Keeps.logSend _ _ _ _ _).calm written), rfl, rfl, journalWrite_durable (checkpointTaken s), rfl, rfl, rfl, rfl⟩

end Sys2Proof.Machine
end

section
/-! PROOFS. Page operations of the Courier (chapter 12): ZERO and RELEASE (R296), hints (R192) and SCRUB (R256) over one page. -/
namespace Sys2Proof.Machine

/-! A descriptor over one page, from its start to its end (R295, R300). -/

/-- A state with other rings, or other snoops kept for them. -/
def State.recou (s : State) (c : Courier) : State := { s with cou := c }

theorem State.Calm.recou {s : State} (calm : s.Calm) (c : Courier) : (s.recou c).Calm := ⟨calm.drain, calm.flush, calm.plan, calm.audit⟩

theorem State.Calm.recached {s : State} (calm : s.Calm) (c : List Nat) : (s.recached c).Calm :=
  ⟨calm.drain, calm.flush, calm.plan, calm.audit⟩

/-- A descriptor whose next page is done. -/
def Desc.pageDone (d : Desc) (result : Nat) (counts : List Nat) : Desc := { d with done := d.done + 4096, result, counts }

/-- The descriptor of a ring ended with a status, and the snoops kept for the ring forgotten. -/
def descEnded (r : Nat) (d : Desc) (status : Nat) (s : State) : State := setDesc r (some (d.finish status)) (forgetSnoops r s)

theorem descEnded_eq {s : State} {r : Nat} {g : Ring} (ring : s.ring r = some g) (d : Desc) (status : Nat) :
    ∃ c : Courier, descEnded r d status s = s.recou c ∧ c.rings.find r = some { g with desc := some (d.finish status) } := by
  have still : (forgetSnoops r s).ring r = some g := ring
  unfold descEnded setDesc
  rw [still]
  exact ⟨_, rfl, (find_upd s.cou.rings r (some { g with desc := some (d.finish status) }) r).trans (if_pos rfl)⟩

/-- A command ends the descriptor of a ring with a status, in a state that is another but for the Courier and the closing work. -/
def EndsDesc (c : Instr) (s : State) (r : Nat) (g : Ring) (d : Desc) (status : Nat) (u : State) : Prop :=
  ∃ t k, exec c s = .next t ∧ t.ring r = some { g with desc := some (d.finish status) } ∧ Keeps (u.recou k) t

/-- What a descriptor that has ended leaves in its ring, beside the stored bytes and the home, which stand. -/
def DescEnded (s : State) (r : Nat) (g : Ring) (d : Desc) (status result : Nat) (t : State) : Prop :=
  (∃ d' : Desc, t.ring r = some { g with desc := some d' } ∧ d'.finished = true ∧ d'.status = status ∧ d'.result = result ∧
    d'.index = d.index ∧ d'.bytes = d.bytes) ∧ t.mem.store = s.mem.store ∧ t.home = s.home

theorem DescEnded.of_keeps {s t u : State} {r : Nat} {g : Ring} {d e : Desc} {status : Nat} {k : Courier} (kept : Keeps (u.recou k) t)
    (ring : t.ring r = some { g with desc := some (e.finish status) }) (same : e.index = d.index ∧ e.bytes = d.bytes)
    (store : u.mem.store = s.mem.store) (home : u.home = s.home) : DescEnded s r g d status e.result t :=
  ⟨⟨_, ring, rfl, rfl, rfl, same.1, same.2⟩, (congrArg Mem.store kept.mem).trans store, kept.home.trans home⟩

/-- What the closing work keeps, it keeps beside the Courier. -/
theorem Keeps.recou {s t : State} (kept : Keeps s t) (c : Courier) : Keeps (s.recou c) (t.recou c) := { kept with cou := rfl }

/-- The access of a ring's engine to the memory of its head. -/
def State.ringWho (s : State) (r : Nat) (g : Ring) : CouWho := ⟨r, g.head, s.ceil g.head g.cls⟩

section InWork
variable {s : State} {r : Nat} {g : Ring} {d : Desc} (calm : s.Calm) (work : InWork s r g d) {apt : Desc → Bool} {f : Piece}
  (mine : apt d = true) {u : State}
include calm work mine

/-- Pieces that end without poison end the descriptor: with its own status where they are all done. -/
theorem InWork.couWork_ended {d' : Desc} {n : Nat} (unread : d'.poisonRead = [])
    (pieces : runPieces f (s.ringWho r g) (d.len / 64 + 3) d s = (some n, d', u)) :
    couWork r apt f s = descEnded r d' (if n = 0 then d'.doneStatus else n) u := by
  obtain ⟨fresh, _⟩ := work.begun
  obtain ⟨awake, serving⟩ := work.runs
  have unflushed : s.powerFlush = false := by simp [State.powerFlush, calm.flush]
  have defined : freeResult d' u = (d', u) := by simp [freeResult, unread]
  unfold State.ringWho at pieces
  unfold couWork
  simp only [work.ring, work.desc, awake, unflushed, serving, fresh, mine, Bool.true_or, Bool.not_true, Bool.or_self, Bool.false_eq_true,
    if_false, pieces]
  cases n with
  | zero => simp only [defined]; rfl
  | succ n => rfl

variable {c : Instr} (run : exec c s = .next (settle (couWork r apt f s))) (cou : u.cou = s.cou) (calm_after : u.Calm)
include run cou calm_after

theorem InWork.endsDesc {d' : Desc} {n : Nat} (unread : d'.poisonRead = [])
    (pieces : runPieces f (s.ringWho r g) (d.len / 64 + 3) d s = (some n, d', u)) :
    EndsDesc c s r g d' (if n = 0 then d'.doneStatus else n) u := by
  obtain ⟨k, eq, found⟩ := descEnded_eq (s := u) (r := r) (g := g) (by rw [State.ring, cou]; exact work.ring) d'
    (if n = 0 then d'.doneStatus else n)
  obtain ⟨t, ran, kept⟩ := Ends.of_eq run ((work.couWork_ended calm mine unread pieces).trans eq) (calm_after.recou k)
  exact ⟨t, k, ran, by rw [State.ring, kept.cou]; exact found, kept⟩

variable (one : d.len = 4096)
include one

/-- The one page done, the descriptor has ended with Success. -/
theorem InWork.page_done {result : Nat} {counts : List Nat} (piece : f (s.ringWho r g) d s = .ok (d.pageDone result counts) u)
    (runs : u.stopped = false) : EndsDesc c s r g (d.pageDone result counts) 0 u := by
  obtain ⟨_, start, no_diff, _, unread, unwritten⟩ := work.begun
  have whole : (d.pageDone result counts).len ≤ (d.pageDone result counts).done := by
    show d.len ≤ d.done + 4096
    omega
  have pieces : runPieces f (s.ringWho r g) (d.len / 64 + 3) d s = (some 0, d.pageDone result counts, u) := by
    rw [runPieces, if_neg (by omega), piece]
    simp only [runs, Bool.false_eq_true, if_false]
    rw [runPieces, if_pos whole]
  have clean : (d.pageDone result counts).doneStatus = 0 := by simp [Desc.doneStatus, Desc.pageDone, unread, unwritten, no_diff]
  have ended := work.endsDesc calm mine run cou calm_after (d' := d.pageDone result counts) unread pieces
  rwa [if_pos rfl, clean] at ended

/-- The page refused, the descriptor has ended with the status of the refusal. -/
theorem InWork.page_refused {status : Nat} (fails : status ≠ 0) (piece : f (s.ringWho r g) d s = .ended status u) :
    EndsDesc c s r g d status u := by
  obtain ⟨_, start, _, _, unread, _⟩ := work.begun
  have pieces : runPieces f (s.ringWho r g) (d.len / 64 + 3) d s = (some status, d, u) := by
    rw [runPieces, if_neg (by omega), piece]
  have ended := work.endsDesc calm mine run cou calm_after unread pieces
  rwa [if_neg fails] at ended

end InWork

/-! The page of a descriptor (R286, R292). -/

/-- The page that a descriptor begins with is in its head's view, in a keyed domain, and its entry is at hand. -/
structure PageAt (s : State) (g : Ring) (d : Desc) (rg : Region) (line : Nat) : Prop where
  start : d.done = 0
  view : s.view g.head (d.dst / 64) = some (rg, line)
  keyed : s.keyed rg.keydom = true
  known : s.entryKnown (linePage line) = true

theorem PageAt.couPage {s : State} {g : Ring} {d : Desc} {rg : Region} {line : Nat} (here : PageAt s g d rg line) (r : Nat) :
    ∃ c, couPage (s.ringWho r g) d s = .ok (rg, linePage line) (s.recached c) := by
  obtain ⟨c, used⟩ := useEntry_eq (linePage line) s
  refine ⟨c, ?_⟩
  simp [Sys2Proof.Machine.couPage, couAt, State.ringWho, here.start, here.view, here.keyed, here.known, used]

/-! Parcels given up move counts alone (R170, R179). -/

/-- A state with other counts and other states of parcels, held counts of extents and tables of media. -/
def CountsOnly (s t : State) : Prop := ∃ c m x, t = { s with cap := c, media := m, mem := { s.mem with extents := x } }

namespace CountsOnly

theorem refl (s : State) : CountsOnly s s := ⟨_, _, _, rfl⟩

theorem trans {a b c : State} (h : CountsOnly a b) (k : CountsOnly b c) : CountsOnly a c := by
  obtain ⟨_, _, _, rfl⟩ := h
  obtain ⟨_, _, _, rfl⟩ := k
  exact ⟨_, _, _, rfl⟩

theorem ite {p : Prop} [Decidable p] {s a b : State} (h : CountsOnly s a) (k : CountsOnly s b) : CountsOnly s (if p then a else b) := by
  split <;> assumption

theorem moveCount (media : Bool) (a b : PState) (n : Nat) (s : State) : CountsOnly s (moveCount media a b n s) := by
  unfold Sys2Proof.Machine.moveCount
  exact .ite ⟨_, _, _, rfl⟩ ⟨_, _, _, rfl⟩

theorem setPState (p : Nat) (k : PState) (s : State) : CountsOnly s (setPState p k s) := ⟨_, _, _, rfl⟩

theorem segOwned (p : Nat) (up : Bool) (s : State) : CountsOnly s (segOwned p up s) := by
  unfold Sys2Proof.Machine.segOwned
  exact .ite ⟨_, _, _, rfl⟩ (.refl s)

theorem staleToFree (p : Nat) (s : State) : CountsOnly s (staleToFree p s) := by
  have refill : ∀ u, CountsOnly u (refillReserve u) := fun u => by
    unfold refillReserve
    exact .ite ((moveCount false .free .reserved 1 u).trans ⟨_, _, _, rfl⟩) (.refl u)
  unfold Sys2Proof.Machine.staleToFree
  exact .ite (.refl s) (((moveCount false .stale .free 1 s).trans (.setPState p .free _)).trans (refill _))

theorem disownParcel (p : Nat) (s : State) : CountsOnly s (disownParcel p s) := by
  have given := fun k => ((segOwned p false s).trans (.moveCount (parcelMedia p) .owned k 1 _)).trans (.setPState p k _)
  unfold Sys2Proof.Machine.disownParcel
  exact .ite (given .quar) (.ite (given .stale) ((given .stale).trans (.staleToFree p _)))

theorem disownRun (parcel run : Nat) (s : State) : CountsOnly s (disownRun parcel run s) :=
  List.foldlRecOn _ _ (motive := CountsOnly s) (.refl s) fun t done p _ => done.trans (.disownParcel p t)

theorem heldChange (page : Nat) (up : Bool) (n : Nat) (s : State) : CountsOnly s (heldChange page up n s) := by
  have region : CountsOnly s (holdRegion page up n s) := by
    unfold holdRegion
    split
    · exact ⟨_, _, _, rfl⟩
    · exact .refl s
  have repay : ∀ h u, CountsOnly u (repayDebt up h n u) := fun h u => by
    unfold repayDebt
    exact .ite (.refl u) ⟨_, _, _, rfl⟩
  rw [heldChange_eq, holdExtent]
  split
  · exact region.trans (.trans ⟨_, _, _, rfl⟩ (repay _ _))
  · exact region

end CountsOnly

/-! What leaves the Courier alone and the device running. -/

/-- The rings stand, and the device has not stopped. -/
structure StillRuns (s t : State) : Prop where
  cou : t.cou = s.cou
  stopped : t.stopped = s.stopped

namespace StillRuns

theorem refl (s : State) : StillRuns s s := ⟨rfl, rfl⟩

theorem trans {a b c : State} (h : StillRuns a b) (k : StillRuns b c) : StillRuns a c := ⟨k.cou.trans h.cou, k.stopped.trans h.stopped⟩

theorem ite {p : Prop} [Decidable p] {s a b : State} (h : StillRuns s a) (k : StillRuns s b) : StillRuns s (if p then a else b) := by
  split <;> assumption

theorem of_keeps {s t : State} (kept : Keeps s t) : StillRuns s t where
  cou := kept.cou
  stopped := by
    unfold State.stopped
    rw [kept.mode]
    rcases kept.modes with same | ⟨before, after⟩
    · rw [same]
    · have running : ∀ m, serviceMode m = true → (m == 7) = false := fun m service => by
        simp only [serviceMode, Bool.or_eq_true, beq_iff_eq] at service
        rcases service with rfl | rfl <;> rfl
      rw [running _ before, running _ after]

theorem of_counts {s t : State} (counts : CountsOnly s t) : StillRuns s t := by
  obtain ⟨_, _, _, rfl⟩ := counts
  exact ⟨rfl, rfl⟩

theorem wr {f : Fld} (state : MOD_STATE_STATE.id ≠ f.id) (v i : Nat) (s : State) : StillRuns s (s.wr f v i) where
  cou := rfl
  stopped := by
    unfold State.stopped State.modeCode
    rw [s.rd_wr_ne _ _ _ _ _ state]
    rfl

/-- The entry of a page set, and its dead letters removed. -/
theorem setCleared {s t : State} (h : StillRuns s t) (page : Nat) (e : PageEntry) : StillRuns s (deadClearPage page (setEntry page e t)) :=
  ⟨h.cou, h.stopped⟩

theorem forgetPages (p : Nat → Bool) (s : State) : StillRuns s (forgetPages p s) := by
  have freed : ∀ gone, StillRuns s (freeLocks gone s) := fun gone =>
    List.foldlRecOn gone _ (motive := StillRuns s) (.refl s) fun t done x _ => done.trans (.ite (.wr (by decide) _ _ t) (.refl t))
  have told : ∀ m u, StillRuns u (forHeads m (fun h s => raise (128 + 8 * h + 5) s) u) := fun m u =>
    .of_keeps (.forHeads m _ (fun h => .raise (128 + 8 * h + 5)) u)
  have discarded : StillRuns s (discardLines (fun l => p (linePage l)) true s) := by
    unfold discardLines
    dsimp only
    rw [if_pos rfl]
    have freed := freed (s.fc.lines.filter (fun x => p (linePage x.2.line)))
    refine .trans ?_ (told _ _)
    exact ⟨freed.cou, freed.stopped⟩
  exact ⟨discarded.cou, discarded.stopped⟩

end StillRuns

/-! A page emptied (R296). -/

/-- The parcels of a page given up, and its held counts lowered. -/
def givenUp (page : Nat) (s : State) : State := heldChange page false (s.entry page).run (disownRun (s.entry page).parcel (s.entry page).run s)

theorem givenUp_counts (page : Nat) (s : State) : CountsOnly s (givenUp page s) := (CountsOnly.disownRun _ _ s).trans (.heldChange page false _ _)

/-- A page entry as ZERO leaves it: Written with nothing stored, GEN and PINNED kept. -/
def PageEntry.zeroed (e : PageEntry) : PageEntry := { PageEntry.none with gen := e.gen, pinned := e.pinned, written := true }

theorem Spared.setZeroed {s t : State} (spared : Spared s t) (page : Nat) (e : PageEntry) :
    Spared (s.repage (s.mem.pages.put page e.zeroed)) (deadClearPage page (setEntry page e.zeroed t)) :=
  { spared with pages := congrArg (Map.put · page e.zeroed) spared.pages }

theorem zeroPage_spared (page : Nat) (s : State) :
    Spared (s.repage (s.mem.pages.put page (s.entry page).zeroed)) (zeroPage page s) := by
  have accounts : Accounts [] (fun _ => True) s (givenUp page s) :=
    (Accounts.disownRun (fun _ _ => trivial) s).trans (.heldChange page false _ _)
  have released := Spared.of_accounts accounts ((heldChange_keys _ _ _ _).trans (disownRun_keys _ _ _))
  exact released.setZeroed page (s.entry page)

theorem StillRuns.zeroPage (page : Nat) (s : State) : StillRuns s (zeroPage page s) :=
  (StillRuns.of_counts (givenUp_counts page s)).setCleared page (s.entry page).zeroed

theorem zeroPage_entry (page : Nat) (s : State) (q : Nat) :
    (zeroPage page s).entry q = if q = page then (s.entry q).zeroed else s.entry q := by
  rw [State.entry, (zeroPage_spared page s).pages]
  refine (Map.get_put s.mem.pages page (s.entry page).zeroed q .none).trans ?_
  split
  · rename_i same; rw [same]
  · rfl

theorem StillRuns.clearPage {page : Nat} {s : State} {e : PageEntry} (listed : s.mem.pages.find page = some e) : StillRuns s (clearPage page s) := by
  have released : StillRuns s (heldChange page false e.run (disownRun e.parcel e.run s)) :=
    .of_counts ((CountsOnly.disownRun _ _ s).trans (.heldChange page false _ _))
  have unpinned := fun v => released.trans (.wr (f := TIE_PIN_USED) (by decide) v 0 _)
  unfold Sys2Proof.Machine.clearPage
  rw [listed]
  exact (StillRuns.ite (unpinned _) released).setCleared page _

/-- What a descriptor leaves of a page: a Written page zeroed or cleared, another as it is, and in either case nothing of it at hand. -/
def emptied (zero : Bool) (page : Nat) (s : State) : State :=
  let t := forgetPages (fun p => p == page) s
  if (s.entry page).written then (if zero then zeroPage page t else clearPage page t) else t

/-- The entry of an emptied page that was Written. -/
def PageEntry.emptied (zero : Bool) (e : PageEntry) : PageEntry := if zero then e.zeroed else e.cleared

/-- The entries that a state is spared but for are those that it has. -/
theorem Spared.repaged {s t : State} {m : Map PageEntry} (spared : Spared (s.repage m) t) : Spared (s.repage t.mem.pages) t := by
  have pages : t.mem.pages = m := spared.pages
  rwa [pages]

/-- A page emptied: its entry, what stands beside the pages and lines, and the device. -/
structure Emptied (s t : State) (page : Nat) (e : PageEntry) : Prop where
  spared : Spared ((s.without (fun l => linePage l == page)).repage t.mem.pages) t
  entry : ∀ q, t.entry q = if q = page then e else s.entry q
  runs : StillRuns s t

theorem listed_of_written {s : State} {page : Nat} (written : (s.entry page).written = true) : s.mem.pages.find page = some (s.entry page) := by
  unfold State.entry Map.get at *
  cases found : s.mem.pages.find page with
  | none => rw [found] at written; cases written
  | some e => rfl

theorem emptied_spec (zero : Bool) (page : Nat) (s : State) :
    Emptied s (emptied zero page s) page (if (s.entry page).written then (s.entry page).emptied zero else s.entry page) := by
  have forgot := forgetPages_spared (fun p => p == page) s
  have runs := StillRuns.forgetPages (fun p => p == page) s
  have entry : ∀ q, (forgetPages (fun p => p == page) s).entry q = s.entry q := fun q => by rw [State.entry, forgot.pages]; rfl
  unfold emptied
  generalize forgetPages (fun p => p == page) s = t at forgot runs entry
  cases written : (s.entry page).written with
  | false =>
    exact ⟨forgot.pages ▸ forgot, fun q => by by_cases own : q = page <;> simp [own, entry], runs⟩
  | true =>
    have changed : ∀ u, Spared (t.repage u.mem.pages) u → StillRuns t u →
        (∀ q, u.entry q = if q = page then (t.entry q).emptied zero else t.entry q) →
        Emptied s u page ((s.entry page).emptied zero) := fun u spared still entries =>
      ⟨(forgot.repage _).trans spared, fun q => by
        rw [entries q]
        by_cases own : q = page
        · simp [own, entry]
        · simp [own, entry], runs.trans still⟩
    cases zero with
    | true => exact changed _ (zeroPage_spared page t).repaged (.zeroPage page t) (zeroPage_entry page t)
    | false =>
      have listed : t.mem.pages.find page = some (t.entry page) := listed_of_written (by rw [entry]; exact written)
      exact changed _ (clearPage_spared listed).repaged (.clearPage listed) (clearPage_entry page t)

/-- The page of a ZERO or a RELEASE with nothing under way is emptied at once (R296). -/
theorem clearPiece_quiet {s : State} {g : Ring} {d : Desc} {rg : Region} {line r : Nat} (here : PageAt s g d rg line)
    (quiet : s.pageQuiet (s.ringWho r g) (linePage line) = true) (zero : Bool) :
    ∃ c, clearPiece zero (s.ringWho r g) d s =
      .ok (d.pageDone (d.result + (s.entry (linePage line)).written.toNat) d.counts) (emptied zero (linePage line) (s.recached c)) := by
  obtain ⟨c, found⟩ := here.couPage r
  have still : (s.recached c).pageQuiet (s.ringWho r g) (linePage line) = true := quiet
  have entry : (s.recached c).entry (linePage line) = s.entry (linePage line) := rfl
  refine ⟨c, ?_⟩
  unfold clearPiece emptied
  rw [found]
  simp only [still, entry, Bool.not_true, Bool.false_eq_true, if_false]
  cases (s.entry (linePage line)).written <;> rfl

theorem pageQuiet_of {s : State} {w : CouWho} {page : Nat} (unlocked : s.locked page = false) (filt : ∀ x ∈ s.home.filt, linePage x.1 ≠ page)
    (reqs : ∀ q ∈ s.home.reqs, linePage q.line ≠ page) (evt : ∀ x ∈ s.home.evt, linePage x.line ≠ page)
    (fills : ∀ f ∈ s.fc.fills, sheetPage f.sheet ≠ page) : s.pageQuiet w page = true := by
  have no_copy : s.home.filt.any (fun x => linePage x.1 == page && !(s.cou.timed.contains (w.key, x.1))) = false :=
    List.any_eq_false.2 fun x mem => by simp [filt x mem]
  have no_req : s.home.reqs.any (fun q => linePage q.line == page) = false := List.any_eq_false.2 (by simpa using reqs)
  have no_evict : s.home.evt.any (fun x => linePage x.line == page) = false := List.any_eq_false.2 (by simpa using evt)
  have no_fill : s.fc.fills.any (fun f => sheetPage f.sheet == page) = false := List.any_eq_false.2 (by simpa using fills)
  unfold State.pageQuiet
  rw [unlocked, no_copy, no_req, no_evict, no_fill]
  rfl

section OnePage
variable {s : State} {r : Nat} {g : Ring} {d : Desc} {rg : Region} {line : Nat} (calm : s.Calm) (work : InWork s r g d) (one : d.len = 4096)
  (here : PageAt s g d rg line)
include calm work one here

theorem clear_does {zero : Bool} {c : Instr} {apt : Desc → Bool} (run : exec c s = .next (settle (couWork r apt (clearPiece zero) s)))
    (mine : apt d = true) (fresh : d.result = 0) (quiet : s.pageQuiet (s.ringWho r g) (linePage line) = true) :
    Does c s (fun t => DescEnded s r g d 0 (s.entry (linePage line)).written.toNat t ∧ (∀ p ≠ linePage line, t.entry p = s.entry p) ∧
      t.entry (linePage line) =
        (if (s.entry (linePage line)).written then (s.entry (linePage line)).emptied zero else s.entry (linePage line)) ∧
      t.fc.lines = s.fc.lines.filter (fun y => !(linePage y.2.line == linePage line))) := by
  obtain ⟨c, piece⟩ := clearPiece_quiet here quiet zero
  obtain ⟨spared, entry, runs⟩ := emptied_spec zero (linePage line) (s.recached c)
  generalize emptied zero (linePage line) (s.recached c) = u at piece spared entry runs
  have calm_after : u.Calm := spared.calm ⟨calm.drain, calm.flush, calm.plan, calm.audit⟩
  obtain ⟨t, k, ran, ring, kept⟩ := work.page_done calm mine run runs.cou calm_after one piece (runs.stopped.trans work.runs.1)
  have entries : ∀ q, t.entry q = u.entry q := fun q => by rw [State.entry, kept.mem]; rfl
  refine ⟨t, ran, ?_, fun p other => ?_, ?_, ?_⟩
  · have ended := DescEnded.of_keeps (s := s) (d := d) kept ring ⟨rfl, rfl⟩ spared.store spared.home
    simpa only [Desc.pageDone, fresh, Nat.zero_add] using ended
  · rw [entries, entry, if_neg other]; rfl
  · rw [entries, entry, if_pos rfl]; rfl
  · rw [kept.fc]; exact spared.lines

end OnePage

/-! Hints (R192). -/

/-- A page that a hint may act on: of an automatic region of a part with media, and not locked. -/
structure Hintable (s : State) (rg : Region) (page : Nat) : Prop where
  persist : s.part.persist = true
  automatic : rg.tier = 0
  unlocked : s.locked page = false

/-- What a hint leaves alone: stored bytes, the home, the Courier, and that the device runs with nothing going on by itself. -/
structure HintOnly (s t : State) : Prop where
  store : t.mem.store = s.mem.store
  home : t.home = s.home
  runs : StillRuns s t
  calm : s.Calm → t.Calm

theorem HintOnly.trans {a b c : State} (h : HintOnly a b) (k : HintOnly b c) : HintOnly a c :=
  ⟨k.store.trans h.store, k.home.trans h.home, h.runs.trans k.runs, fun calm => k.calm (h.calm calm)⟩

theorem HintOnly.ite {p : Prop} [Decidable p] {s a b : State} (h : HintOnly s a) (k : HintOnly s b) : HintOnly s (if p then a else b) := by
  split <;> assumption

theorem HintOnly.recached (s : State) (c : List Nat) : HintOnly s (s.recached c) := ⟨rfl, rfl, ⟨rfl, rfl⟩, fun calm => calm.recached c⟩

theorem HintOnly.addWork (page sheet : Nat) (k : WorkKind) (s : State) : HintOnly s (addWork page sheet k s) :=
  ⟨rfl, rfl, ⟨rfl, rfl⟩, fun calm => ⟨calm.drain, calm.flush, calm.plan, calm.audit⟩⟩

/-- What a hint comes to: a page done, or a refusal. -/
def hintEnd (d : Desc) (s : State) : Option (Bool × State) → CouRes Desc
  | none => .ended 3 (raise 461 s)
  | some (changed, u) => .ok (d.pageDone (d.result + changed.toNat) d.counts) u

section HintPiece
variable {s : State} {r : Nat} {g : Ring} {d : Desc} {rg : Region} {line : Nat} (here : PageAt s g d rg line)
  (may : Hintable s rg (linePage line)) {act : Nat → State → Option (Bool × State)}
include here may

/-- A hint does to its page what it is for, or is refused. -/
theorem hintPiece_acts :
    ∃ c, hintPiece act (s.ringWho r g) d s = hintEnd d (s.recached c) (act (linePage line) (s.recached c)) := by
  obtain ⟨c, found⟩ := here.couPage r
  have unlocked : (s.recached c).locked (linePage line) = false := may.unlocked
  have persist : (s.recached c).part.persist = true := may.persist
  refine ⟨c, ?_⟩
  unfold hintPiece
  rw [found]
  simp only [persist, may.automatic, unlocked, Bool.not_true, ne_eq, not_true_eq_false, decide_false, Bool.or_self, Bool.false_eq_true, if_false]
  cases act (linePage line) (s.recached c) <;> rfl

end HintPiece

section Hint
variable {s : State} {r : Nat} {g : Ring} {d : Desc} {rg : Region} {line : Nat} (calm : s.Calm) (work : InWork s r g d) (one : d.len = 4096)
  (here : PageAt s g d rg line) (may : Hintable s rg (linePage line)) (fresh : d.result = 0) {act : Nat → State → Option (Bool × State)}
  {c : Instr} {apt : Desc → Bool} (run : exec c s = .next (settle (couWork r apt (hintPiece act) s))) (mine : apt d = true)
include calm work one here may fresh run mine

/-- A hint that changes its page ends its descriptor with RESULT 1, in the state after the change. -/
theorem hint_does {after : State → State} (acts : ∀ c, act (linePage line) (s.recached c) = some (true, after (s.recached c)))
    (only : ∀ u, HintOnly u (after u)) :
    Does c s (fun t => DescEnded s r g d 0 1 t ∧ ∃ c k, Keeps ((after (s.recached c)).recou k) t) := by
  obtain ⟨c, piece⟩ := hintPiece_acts (r := r) (act := act) here may
  rw [acts c, hintEnd] at piece
  have changed := (HintOnly.recached s c).trans (only (s.recached c))
  obtain ⟨t, k, ran, ring, kept⟩ :=
    work.page_done calm mine run changed.runs.cou (changed.calm calm) one piece (changed.runs.stopped.trans work.runs.1)
  refine ⟨t, ran, ?_, c, k, kept⟩
  have ended := DescEnded.of_keeps (s := s) (d := d) kept ring ⟨rfl, rfl⟩ changed.store changed.home
  simpa only [Desc.pageDone, fresh, Nat.zero_add, Bool.toNat_true] using ended

/-- A hint refused ends its descriptor with status 3, and event 461 is raised. -/
theorem hint_refused (refuses : ∀ c, act (linePage line) (s.recached c) = none) :
    Does c s (fun t => DescEnded s r g d 3 0 t ∧ t.rdBit EVT_PEND_PEND (461 % 64) (461 / 64) = true ∧
      ∃ c k, Keeps ((s.recached c).recou k) t) := by
  obtain ⟨c, piece⟩ := hintPiece_acts (r := r) (act := act) here may
  rw [refuses c, hintEnd] at piece
  have raised := Keeps.raise 461 (s.recached c)
  have pending := raise_pend 461 (s.recached c) (by decide)
  generalize raise 461 (s.recached c) = u at piece raised pending
  obtain ⟨t, k, ran, ring, kept⟩ := work.page_refused calm mine run raised.cou (raised.calm (calm.recached c)) one (by decide) piece
  have store : u.mem.store = s.mem.store := (congrArg Mem.store raised.mem).trans rfl
  have ended := DescEnded.of_keeps (s := s) (d := d) kept ring ⟨rfl, rfl⟩ store raised.home
  exact ⟨t, ran, fresh ▸ ended, kept.pend 461 pending, c, k, (raised.recou k).trans kept⟩

end Hint

/-! What each hint does to its page. -/

theorem setEntry_entry (page : Nat) (e : PageEntry) (s : State) (q : Nat) : (setEntry page e s).entry q = if q = page then e else s.entry q :=
  Map.get_put _ _ _ _ _

/-- PINNED of a page set or cleared, and the pinned pages counted. -/
def repin (page : Nat) (b : Bool) (used : Nat) (s : State) : State :=
  setEntry page { s.entry page with pinned := b } (s.wr TIE_PIN_USED used)

theorem repin_inMedia (page : Nat) (b : Bool) (used : Nat) (s : State) : (repin page b used s).inMedia page = s.inMedia page := by
  unfold State.inMedia repin
  rw [setEntry_entry, if_pos rfl]

theorem HintOnly.repin (page : Nat) (b : Bool) (used : Nat) (s : State) : HintOnly s (repin page b used s) where
  store := rfl
  home := rfl
  runs := have written := StillRuns.wr (f := TIE_PIN_USED) (by decide) used 0 s; ⟨written.cou, written.stopped⟩
  calm calm := have written := calm.wr TIE_PIN_USED used 0 (by decide) (by decide); ⟨written.drain, written.flush, written.plan, written.audit⟩

theorem repin_used (page : Nat) (b : Bool) (used : Nat) (s : State) :
    (repin page b used s).rd TIE_PIN_USED = used % 2 ^ TIE_PIN_USED.w := s.rd_wr_same TIE_PIN_USED used 0

theorem repin_entry (page : Nat) (b : Bool) (used : Nat) (s : State) (q : Nat) :
    (repin page b used s).entry q = if q = page then { s.entry page with pinned := b } else s.entry q := setEntry_entry _ _ _ _

/-- A page pinned, and its promotion queued where it is in media. -/
def pinned (page : Nat) (s : State) : State :=
  if s.inMedia page then addWork page 0 (.migrate true true) (repin page true (s.rd TIE_PIN_USED + 1) s)
  else repin page true (s.rd TIE_PIN_USED + 1) s

section Acts
variable {s : State} {page : Nat}

theorem pinPage_pins (written : (s.entry page).written = true) (unpinned : (s.entry page).pinned = false)
    (room : s.rd TIE_PIN_USED + 1 ≤ s.rd TIE_PIN_LIMIT * 262144) : pinPage page s = some (true, pinned page s) := by
  unfold pinPage
  dsimp only
  rw [if_neg (by simp [unpinned, written]), if_neg (Nat.not_lt.2 room)]
  unfold pinned
  rw [← repin_inMedia page true (s.rd TIE_PIN_USED + 1) s]
  rfl

theorem pinPage_refuses (written : (s.entry page).written = true) (unpinned : (s.entry page).pinned = false)
    (full : s.rd TIE_PIN_LIMIT * 262144 < s.rd TIE_PIN_USED + 1) : pinPage page s = none := by
  simp [pinPage, unpinned, written, full]

theorem unpinPage_unpins (pinned : (s.entry page).pinned = true) :
    unpinPage page s = some (true, repin page false (s.rd TIE_PIN_USED - 1) s) := by
  simp [unpinPage, pinned, repin]

/-- A page put at the end of the promotion queue. -/
def enqueued (page : Nat) (s : State) : State := { s with cap := { s.cap with promoQ := s.cap.promoQ ++ [page] } }

theorem promotePage_queues (media : s.inMedia page = true) (absent : s.cap.promoQ.contains page = false) (room : s.cap.promoQ.length < 4096) :
    promotePage page s = some (true, enqueued page s) := by
  unfold promotePage
  simp only [media, absent, room, Bool.not_true, Bool.or_self, Bool.false_eq_true, if_false, if_true]
  rfl

theorem demotePage_queues (unpinned : (s.entry page).pinned = false) (stored : (s.entry page).run ≠ 0) (dram : (s.entry page).tier = false)
    (idle : ∀ w ∈ s.work, w.page ≠ page) : demotePage page s = some (true, addWork page 0 (.migrate false true) s) := by
  have none_yet : s.work.any (fun w => w.page == page && w.kind == .migrate false true) = false :=
    List.any_eq_false.2 fun w mem => by simp [idle w mem]
  simp [demotePage, unpinned, stored, dram, none_yet]

end Acts

theorem HintOnly.pinned (page : Nat) (s : State) : HintOnly s (pinned page s) := by
  unfold Sys2Proof.Machine.pinned
  exact .ite ((repin page true _ s).trans (.addWork page 0 _ _)) (.repin page true _ s)

theorem HintOnly.enqueued (page : Nat) (s : State) : HintOnly s (enqueued page s) := ⟨rfl, rfl, ⟨rfl, rfl⟩, fun calm => calm.setCap rfl⟩

/-- Beside the work that it may queue, a pin sets PINNED and counts it. -/
theorem pinned_eq (page : Nat) (s : State) :
    ∃ work next, pinned page s = { repin page true (s.rd TIE_PIN_USED + 1) s with work, nextWork := next } := by
  unfold pinned
  split
  · exact ⟨_, _, rfl⟩
  · exact ⟨s.work, s.nextWork, rfl⟩

theorem pinned_work (page : Nat) (s : State) : (pinned page s).work =
    if s.inMedia page then s.work ++ [⟨s.nextWork, page, 0, .migrate true true, .waiting, 0, 0, .none, [], [], 0⟩] else s.work := by
  unfold pinned
  split <;> rfl

section HintCommands
variable {s : State} {r : Nat} {g : Ring} {d : Desc} {rg : Region} {line : Nat} (calm : s.Calm) (work : InWork s r g d) (one : d.len = 4096)
  (here : PageAt s g d rg line) (may : Hintable s rg (linePage line)) (fresh : d.result = 0)
include calm work one here may fresh

theorem hintPin_pins (mine : d.hint 0 = true) (written : (s.entry (linePage line)).written = true)
    (unpinned : (s.entry (linePage line)).pinned = false) (room : s.rd TIE_PIN_USED + 1 ≤ s.rd TIE_PIN_LIMIT * 262144) :
    Does (.hintPin r) s (fun t => DescEnded s r g d 0 1 t ∧ (∀ p ≠ linePage line, t.entry p = s.entry p) ∧
      t.entry (linePage line) = { s.entry (linePage line) with pinned := true } ∧
      t.rd TIE_PIN_USED = (s.rd TIE_PIN_USED + 1) % 2 ^ TIE_PIN_USED.w ∧ t.fc = s.fc ∧
      t.work = if s.inMedia (linePage line) then
        s.work ++ [⟨s.nextWork, linePage line, 0, .migrate true true, .waiting, 0, 0, .none, [], [], 0⟩] else s.work) := by
  refine (hint_does calm work one here may fresh rfl mine (fun c => pinPage_pins (s := s.recached c) written unpinned room)
    (HintOnly.pinned _)).mono fun t ⟨ended, c, k, kept⟩ => ?_
  obtain ⟨w, n, eq⟩ := pinned_eq (linePage line) (s.recached c)
  have entries : ∀ q, t.entry q = (repin (linePage line) true (s.rd TIE_PIN_USED + 1) (s.recached c)).entry q := fun q => by
    rw [State.entry, kept.mem, eq]; rfl
  refine ⟨ended, fun p other => ?_, ?_, ?_, ?_, ?_⟩
  · rw [entries, repin_entry, if_neg other]; rfl
  · rw [entries, repin_entry, if_pos rfl]; rfl
  · rw [kept.regs _ _ (by decide), eq]; exact repin_used (linePage line) true _ (s.recached c)
  · rw [kept.fc, eq]; rfl
  · rw [kept.work]; exact pinned_work (linePage line) (s.recached c)

theorem hintPin_refused (mine : d.hint 0 = true) (written : (s.entry (linePage line)).written = true)
    (unpinned : (s.entry (linePage line)).pinned = false) (full : s.rd TIE_PIN_LIMIT * 262144 < s.rd TIE_PIN_USED + 1) :
    Does (.hintPin r) s (fun t => DescEnded s r g d 3 0 t ∧ (∀ p ≠ linePage line, t.entry p = s.entry p) ∧
      t.entry (linePage line) = s.entry (linePage line) ∧ t.rdBit EVT_PEND_PEND (461 % 64) (461 / 64) = true ∧ t.work = s.work ∧
      RegsKept [] s t) := by
  refine (hint_refused calm work one here may fresh rfl mine
    (fun c => pinPage_refuses (s := s.recached c) written unpinned full)).mono fun t ⟨ended, raised, c, k, kept⟩ => ?_
  have entries : ∀ q, t.entry q = s.entry q := fun q => by rw [State.entry, kept.mem]; rfl
  exact ⟨ended, fun p _ => entries p, entries _, raised, kept.work, fun f i closing _ => kept.regs f i closing⟩

theorem hintUnpin_unpins (mine : d.hint 1 = true) (pinned : (s.entry (linePage line)).pinned = true) :
    Does (.hintUnpin r) s (fun t => DescEnded s r g d 0 1 t ∧ (∀ p ≠ linePage line, t.entry p = s.entry p) ∧
      t.entry (linePage line) = { s.entry (linePage line) with pinned := false } ∧ t.rd TIE_PIN_USED = s.rd TIE_PIN_USED - 1 ∧
      t.work = s.work ∧ t.fc = s.fc) := by
  refine (hint_does calm work one here may fresh rfl mine (fun c => unpinPage_unpins (s := s.recached c) pinned)
    (after := fun u => repin (linePage line) false (u.rd TIE_PIN_USED - 1) u) (fun u => .repin _ _ _ u)).mono fun t ⟨ended, c, k, kept⟩ => ?_
  have entries : ∀ q, t.entry q = (repin (linePage line) false (s.rd TIE_PIN_USED - 1) (s.recached c)).entry q := fun q => by
    rw [State.entry, kept.mem]; rfl
  refine ⟨ended, fun p other => ?_, ?_, ?_, kept.work, kept.fc⟩
  · rw [entries, repin_entry, if_neg other]; rfl
  · rw [entries, repin_entry, if_pos rfl]; rfl
  · have narrow : s.rd TIE_PIN_USED - 1 < 2 ^ TIE_PIN_USED.w := lt_of_le_of_lt (Nat.sub_le _ _) (s.rd_lt TIE_PIN_USED 0)
    rw [kept.regs _ _ (by decide)]
    exact (repin_used (linePage line) false _ (s.recached c)).trans (Nat.mod_eq_of_lt narrow)

theorem hintPromote_queues (mine : d.hint 2 = true) (media : s.inMedia (linePage line) = true)
    (absent : s.cap.promoQ.contains (linePage line) = false) (room : s.cap.promoQ.length < 4096) :
    Does (.hintPromote r) s (fun t => DescEnded s r g d 0 1 t ∧ t.cap.promoQ = s.cap.promoQ ++ [linePage line] ∧
      t.mem.pages = s.mem.pages ∧ t.fc = s.fc) := by
  refine (hint_does calm work one here may fresh rfl mine (fun c => promotePage_queues (s := s.recached c) media absent room)
    (HintOnly.enqueued _)).mono fun t ⟨ended, c, k, kept⟩ => ⟨ended, ?_, ?_, kept.fc⟩
  · rw [kept.cap]; rfl
  · rw [kept.mem]; rfl

theorem hintDemote_queues (mine : d.hint 3 = true) (unpinned : (s.entry (linePage line)).pinned = false)
    (stored : (s.entry (linePage line)).run ≠ 0) (dram : (s.entry (linePage line)).tier = false)
    (idle : ∀ w ∈ s.work, w.page ≠ linePage line) :
    Does (.hintDemote r) s (fun t => DescEnded s r g d 0 1 t ∧
      t.work = s.work ++ [⟨s.nextWork, linePage line, 0, .migrate false true, .waiting, 0, 0, .none, [], [], 0⟩] ∧
      t.mem.pages = s.mem.pages ∧ t.fc = s.fc) := by
  refine (hint_does calm work one here may fresh rfl mine (fun c => demotePage_queues (s := s.recached c) unpinned stored dram idle)
    (.addWork _ _ _)).mono fun t ⟨ended, c, k, kept⟩ => ⟨ended, kept.work, ?_, kept.fc⟩
  rw [kept.mem]; rfl

end HintCommands

/-! SCRUB (R256). -/

/-- A sheet that stores nothing adds nothing. -/
theorem scrubSheet_unstored {v : ScrubEnv} {r : Region} {k : KeySlot} {page i : Nat} {s : State} (unstored : (s.entry page).code i = 0) :
    scrubSheet v r k page i s = ((0, 0), s) := by
  simp [scrubSheet, unstored, storedCode]

/-- What a scrub finds where nothing errs. -/
def cleanScrub (chk : Nat) (v : EngEnv) : ScrubEnv := ⟨chk, v, [], [], []⟩

/-- The one sheet that a page stores is raw and reads back with its tag. -/
structure RawReads (s : State) (page : Nat) (r : Region) (key : KeySlot) : Prop where
  packed : r.opq = false
  stored : (s.entry page).run ≠ 0
  size : (s.entry page).size = 8
  ok : s.sheetOk false (s.entry page) 0 = true
  tag : s.tagSlot (s.entry page) 0 = sheetTag key page 0 r.keydom 8 (s.entry page).gen (s.sheetBytes false (s.entry page) 0)

section RawReads
variable {s : State} {page : Nat} {r : Region} {key : KeySlot} (reads : RawReads s page r key)
include reads

theorem RawReads.recached (c : List Nat) : RawReads (s.recached c) page r key :=
  ⟨reads.packed, reads.stored, reads.size, reads.ok, reads.tag⟩

/-- The size codes do not depend on the run. -/
theorem RawReads.oneRaw : OneRaw { s.entry page with run := 1 } := ⟨rfl, reads.size⟩

theorem RawReads.code_zero : (s.entry page).code 0 = 8 := reads.oneRaw.code_zero

theorem RawReads.code_succ (i : Nat) : (s.entry page).code (i + 1) = 0 := reads.oneRaw.code_succ i

/-- Where nothing errs, a raw sheet is opened and adds nothing beside. -/
theorem scrubSheet_raw (runs : s.stopped = false) (chk : Nat) {v : EngEnv} (sound : v.sealBad = false) (unaltered : v.altered = none) :
    scrubSheet (cleanScrub chk v) r key page 0 s = ((0, 0), s.bump MIL_SEAL_ENG_OPEN 1 (s.engine true v.sealEng)) := by
  have whole : fit 256 (s.sheetBytes false (s.entry page) 0) = s.sheetBytes false (s.entry page) 0 :=
    fit_whole (by rw [State.sheetBytes, readBytes_length, reads.code_zero, sheetLen_raw])
  have readable := reads.ok
  simp only [State.sheetOk, State.headerOk, reads.code_zero, sheetLen_raw, Bool.and_eq_true, Bool.not_eq_true'] at readable
  obtain ⟨⟨⟨_, reach_head⟩, _⟩, reach⟩ := readable
  obtain ⟨u, env, clean, engine, own⟩ : ∃ u : EngEnv, (if 16 * page = chk then v else { v with sealBad := false, altered := none }) = u ∧
      u.sealBad = false ∧ u.sealEng = v.sealEng ∧ u.altered = none := by
    refine ⟨_, rfl, ?_⟩
    split
    · exact ⟨sound, rfl, unaltered⟩
    · exact ⟨rfl, rfl, rfl⟩
  simp [scrubSheet, cleanScrub, reads.code_zero, storedCode, runs, reads.packed, sheetLen_raw, reach_head, reach, reads.ok, env, own, whole,
    reads.tag, tagCheck_right _ _ _ _ clean, engine]

end RawReads

/-- Sheets opened say nothing of what is fenced. -/
theorem State.bump_parcelFenced (s : State) (n i p : Nat) : (s.bump MIL_SEAL_ENG_OPEN n i).parcelFenced p = s.parcelFenced p := by
  unfold State.parcelFenced State.channelFenced State.stackFenced State.channelOn State.stackOn State.rdB
  rw [s.rd_bump_ne _ _ _ DRM_CH_FENCED _ (by decide), s.rd_bump_ne _ _ _ DRM_CH_PRESENT _ (by decide),
    s.rd_bump_ne _ _ _ MED_STK_FENCED _ (by decide), s.rd_bump_ne _ _ _ MED_STK_PRESENT _ (by decide)]
  rfl

/-- Nor of which lines read as poison. -/
theorem State.bump_readsPoison (s : State) (n i : Nat) (r : Region) (k : KeySlot) (line : Nat) :
    (s.bump MIL_SEAL_ENG_OPEN n i).readsPoison r k line = s.readsPoison r k line := by
  have cached : (s.bump MIL_SEAL_ENG_OPEN n i).fcLine line = s.fcLine line :=
    (Sees.wr s MIL_SEAL_ENG_OPEN _ i (by decide)).fcLine rfl line
  have fenced : ∀ a m, (s.bump MIL_SEAL_ENG_OPEN n i).bytesFenced a m = s.bytesFenced a m := fun a m => by
    unfold State.bytesFenced
    simp only [s.bump_parcelFenced]
    rfl
  have ok : ∀ e j, (s.bump MIL_SEAL_ENG_OPEN n i).sheetOk r.opq e j = s.sheetOk r.opq e j := fun e j => by
    unfold State.sheetOk State.headerOk
    simp only [fenced]
    rfl
  unfold State.readsPoison
  simp only [cached, ok]
  rfl

/-- The lines of a page that read as poison. -/
def State.poisonCount (s : State) (r : Region) (k : KeySlot) (page : Nat) : Nat :=
  ((List.range 64).filter (fun i => s.readsPoison r k (64 * page + i))).length

theorem State.bump_poisonCount (s : State) (n i : Nat) (r : Region) (k : KeySlot) (page : Nat) :
    (s.bump MIL_SEAL_ENG_OPEN n i).poisonCount r k page = s.poisonCount r k page := by
  unfold State.poisonCount
  simp only [s.bump_readsPoison]

/-- The counts of a descriptor raised by those of a page (R256). -/
def Desc.counted (d : Desc) (add : List Nat) : List Nat := (d.counts.zip add).map (fun x => min (x.1 + x.2) 0xFFFFFFFF)

section ScrubPiece
variable {s : State} {r : Nat} {g : Ring} {d : Desc} {rg : Region} {line : Nat} (here : PageAt s g d rg line) {key : KeySlot}
  (slot : s.keys.slots.find rg.keydom = some key) (chk : Nat) (v : EngEnv)
include here slot

theorem scrubPiece_bare (bare : (s.entry (linePage line)).run = 0) : ∃ c, scrubPiece (cleanScrub chk v) (s.ringWho r g) d s =
    .ok (d.pageDone d.result d.counts) (s.recached c) := by
  obtain ⟨c, found⟩ := here.couPage r
  have slot : (s.recached c).keys.slots.find rg.keydom = some key := slot
  have bare : ((s.recached c).entry (linePage line)).run = 0 := bare
  refine ⟨c, ?_⟩
  unfold scrubPiece
  rw [found]
  simp only [slot, bare, if_true]
  rfl

theorem scrubPiece_raw (reads : RawReads s (linePage line) rg key) (runs : s.stopped = false) (sound : v.sealBad = false)
    (unaltered : v.altered = none) : ∃ c e, scrubPiece (cleanScrub chk v) (s.ringWho r g) d s =
      .ok (d.pageDone d.result (d.counted [64, 0, 0, s.poisonCount rg key (linePage line), 0])) ((s.recached c).bump MIL_SEAL_ENG_OPEN 1 e) := by
  obtain ⟨c, found⟩ := here.couPage r
  have first := scrubSheet_raw (reads.recached c) runs chk sound unaltered
  generalize (s.recached c).engine true v.sealEng = e at first
  have rest : ∀ i, scrubSheet (cleanScrub chk v) rg key (linePage line) (i + 1) ((s.recached c).bump MIL_SEAL_ENG_OPEN 1 e) =
      ((0, 0), (s.recached c).bump MIL_SEAL_ENG_OPEN 1 e) := fun i => scrubSheet_unstored (reads.code_succ i)
  have bad : ((s.recached c).bump MIL_SEAL_ENG_OPEN 1 e).poisonCount rg key (linePage line) = s.poisonCount rg key (linePage line) :=
    (s.recached c).bump_poisonCount 1 e rg key (linePage line)
  have slot : (s.recached c).keys.slots.find rg.keydom = some key := slot
  have stored : ((s.recached c).entry (linePage line)).run ≠ 0 := reads.stored
  have none_late : (cleanScrub chk v).late.contains (linePage line) = false := rfl
  refine ⟨c, e, ?_⟩
  unfold scrubPiece
  rw [found]
  simp only [slot, stored, if_false]
  rw [foldl_range_first (b := ((0, 0), (s.recached c).bump MIL_SEAL_ENG_OPEN 1 e)) 15]
  · simp only [none_late, Bool.false_and, Bool.false_eq_true, if_false]
    exact congrArg (fun bad => CouRes.ok (d.pageDone d.result (d.counted [64, 0, 0, bad, 0])) _) bad
  · rw [first]
    rfl
  · intro i
    rw [rest]
    rfl

end ScrubPiece

section ScrubCommand
variable {s : State} {r : Nat} {g : Ring} {d : Desc} {rg : Region} {line : Nat} (calm : s.Calm) (work : InWork s r g d) (one : d.len = 4096)
  (here : PageAt s g d rg line) (fresh : d.result = 0) (mine : d.opcode = 9) {key : KeySlot} (slot : s.keys.slots.find rg.keydom = some key)
  (chk : Nat) (v : EngEnv)
include calm work one here fresh mine slot

theorem scrub_bare (bare : (s.entry (linePage line)).run = 0) : Does (.scrub r chk v [] [] []) s (fun t => DescEnded s r g d 0 0 t ∧
    t.mem.pages = s.mem.pages ∧ RegsKept [] s t ∧ ∃ d', t.ring r = some { g with desc := some d' } ∧ d'.counts = d.counts) := by
  obtain ⟨c, piece⟩ := scrubPiece_bare (r := r) here slot chk v bare
  obtain ⟨t, k, ran, ring, kept⟩ := work.page_done (c := .scrub r chk v [] [] []) (apt := fun d => d.opcode == 9) (u := s.recached c) calm
    (beq_iff_eq.2 mine) rfl rfl (calm.recached c) one piece work.runs.1
  have ended := DescEnded.of_keeps (s := s) (d := d) kept ring ⟨rfl, rfl⟩ rfl rfl
  refine ⟨t, ran, fresh ▸ ended, ?_, fun f i closing _ => kept.regs f i closing, _, ring, rfl⟩
  rw [kept.mem]; rfl

theorem scrub_raw (reads : RawReads s (linePage line) rg key) (sound : v.sealBad = false) (unaltered : v.altered = none) :
    Does (.scrub r chk v [] [] []) s (fun t => DescEnded s r g d 0 0 t ∧ t.mem.pages = s.mem.pages ∧ RegsKept [MIL_SEAL_ENG_OPEN] s t ∧
      ∃ d', t.ring r = some { g with desc := some d' } ∧ d'.counts = d.counted [64, 0, 0, s.poisonCount rg key (linePage line), 0]) := by
  obtain ⟨c, e, piece⟩ := scrubPiece_raw (r := r) here slot chk v reads work.runs.1 sound unaltered
  have opened : ((s.recached c).bump MIL_SEAL_ENG_OPEN 1 e).stopped = false := ((s.recached c).bump_stopped 1 e (by decide)).trans work.runs.1
  obtain ⟨t, k, ran, ring, kept⟩ := work.page_done (c := .scrub r chk v [] [] []) (apt := fun d => d.opcode == 9)
    (u := (s.recached c).bump MIL_SEAL_ENG_OPEN 1 e) calm (beq_iff_eq.2 mine) rfl rfl
    ((calm.recached c).bump MIL_SEAL_ENG_OPEN 1 e (by decide) (by decide)) one piece opened
  have ended := DescEnded.of_keeps (s := s) (d := d) kept ring ⟨rfl, rfl⟩ rfl rfl
  refine ⟨t, ran, fresh ▸ ended, ?_, fun f i closing other => ?_, _, ring, rfl⟩
  · rw [kept.mem]; rfl
  · have apart : f.id ≠ MIL_SEAL_ENG_OPEN.id := fun same => by rw [same] at other; exact absurd other (by decide)
    exact (kept.regs f i closing).trans ((s.recached c).rd_bump_ne MIL_SEAL_ENG_OPEN 1 e f i apart)

end ScrubCommand

/-- Settles O44: the one page is at hand, so each operation does its work on it at once and ends its descriptor. -/
theorem descriptorsWorkOnPages : Obligations.DescriptorsWorkOnPages := by
  intro s r g d rg line calm work one view keyed known
  have here : PageAt s g d rg line := ⟨work.begun.2.1, view, keyed, known⟩
  have fresh : d.opcode ≠ 5 → d.result = 0 := fun other => work.result.trans (if_neg other)
  refine ⟨fun unlocked filt reqs evt fills => ?_, fun op persist tier unlocked => ?_, fun key chk v op slot => ?_⟩
  · have quiet := fun w => pageQuiet_of (w := w) unlocked filt reqs evt fills
    exact ⟨fun op => clear_does (zero := true) calm work one here rfl (beq_iff_eq.2 op) (fresh (by omega)) (quiet _),
      fun op => clear_does (zero := false) calm work one here rfl (beq_iff_eq.2 op) (fresh (by omega)) (quiet _)⟩
  · have may : Hintable s rg (linePage line) := ⟨persist, tier, unlocked⟩
    have zero : d.result = 0 := fresh (by omega)
    have mine : ∀ n, d.opnd % 4 = n → d.hint n = true := fun n kind => by simp [Desc.hint, op, kind]
    refine ⟨fun kind written unpinned => ⟨fun room => ?_, hintPin_refused calm work one here may zero (mine _ kind) written unpinned⟩,
      fun kind => hintUnpin_unpins calm work one here may zero (mine _ kind),
      fun kind => hintPromote_queues calm work one here may zero (mine _ kind),
      fun kind => hintDemote_queues calm work one here may zero (mine _ kind)⟩
    exact (hintPin_pins calm work one here may zero (mine _ kind) written unpinned room).mono
      fun t ⟨ended, others, entry, used, fc, queued⟩ => ⟨ended, others, entry, used, fc,
        fun media => queued.trans (if_pos media), fun dram => queued.trans (if_neg (by rw [dram]; decide))⟩
  · have zero : d.result = 0 := fresh (by omega)
    exact ⟨scrub_bare calm work one here zero op slot chk v,
      fun stored size packed _ _ ok tag => scrub_raw calm work one here zero op slot chk v ⟨packed, stored, size, ok, tag⟩⟩

end Sys2Proof.Machine
end

section
/-! PROOFS. The DRAM tier controllers (chapter 08): an access arrives at its channel (R198, R199, R201), a subchannel issues one (R200, R203),
and a read comes back from the devices (R201, R207, R209, R210). -/
namespace Sys2Proof.Machine

/-! Reads return in the order in which their source sent them (R201). -/

/-- A state with its DRAM tier replaced and messages sent. -/
def State.redram (s : State) (d : Dram) (sent : List Out) : State := { s with dram := d, out := s.out ++ sent }

theorem State.Calm.redram {s : State} (calm : s.Calm) (d : Dram) (sent : List Out) : (s.redram d sent).Calm :=
  ⟨calm.drain, calm.flush, calm.plan, calm.audit⟩

/-- A state is another but for its DRAM tier and messages added. -/
def DramOnly (s t : State) : Prop := ∃ d sent, t = s.redram d sent

namespace DramOnly

theorem setDram (s : State) (d : Dram) : DramOnly s { s with dram := d } := ⟨d, [], by simp [State.redram]⟩

theorem refl (s : State) : DramOnly s s := setDram s s.dram

theorem emit (s : State) (o : Out) : DramOnly s (s.emit o) := ⟨s.dram, [o], rfl⟩

theorem trans {a b c : State} (h : DramOnly a b) (k : DramOnly b c) : DramOnly a c := by
  obtain ⟨_, l, rfl⟩ := h
  obtain ⟨d, m, rfl⟩ := k
  exact ⟨d, l ++ m, by simp [State.redram]⟩

theorem ite {p : Prop} [Decidable p] {s a b : State} (h : DramOnly s a) (k : DramOnly s b) : DramOnly s (if p then a else b) := by
  split <;> assumption

theorem forAll {α : Type} {f : α → State → State} (each : ∀ a s, DramOnly s (f a s)) (l : List α) (s : State) :
    DramOnly s (forAll l f s) :=
  List.foldlRecOn l _ (motive := DramOnly s) (.refl s) fun t only a _ => only.trans (each a t)

theorem returnRead (a : DAcc) (s : State) : DramOnly s (returnRead a s) := by
  unfold Sys2Proof.Machine.returnRead
  exact .ite (.refl s) ((setDram s _).trans (.emit _ _))

theorem dramReturn (s : State) : DramOnly s (dramReturn s) := .forAll (fun a u => .ite (.returnRead a u) (.refl u)) _ s

theorem finishRead (a : DAcc) (data : Line) (bad : Bool) (s : State) : DramOnly s (finishRead a data bad s) :=
  (setDram s _).trans (.dramReturn _)

theorem calm {s t : State} (only : DramOnly s t) (calm : s.Calm) : t.Calm := by
  obtain ⟨d, sent, rfl⟩ := only
  exact calm.redram d sent

theorem mem {s t : State} (only : DramOnly s t) : t.mem = s.mem := by
  obtain ⟨_, _, rfl⟩ := only
  rfl

theorem rd {s t : State} (only : DramOnly s t) (f : Fld) (i : Nat) : t.rd f i = s.rd f i := by
  obtain ⟨_, _, rfl⟩ := only
  rfl

end DramOnly

/-- Where one read alone has its data or its error, it is the one that may return. -/
theorem dramReturn_sole {s : State} {a : DAcc} (sole : s.dram.issued.filter (·.done) = [a]) : dramReturn s = returnRead a s := by
  have sorted : (s.dram.issued.mergeSort (fun a b => a.id ≤ b.id)).filter (·.done) = [a] :=
    List.perm_singleton.1 (sole ▸ (List.mergeSort_perm _ _).filter _)
  unfold dramReturn forAll
  rw [← List.foldl_filter, sorted]
  rfl

/-- A completed read that no older read of its source precedes returns. -/
theorem returnRead_oldest {s : State} {a : DAcc} (oldest : ∀ b ∈ s.openReads a.src, a.id ≤ b.id) :
    returnRead a s = ({ s with dram := { s.dram with issued := s.dram.issued.filter (fun b => b.id ≠ a.id) } } : State).emit
      (.xfer (if a.bad then 1 else 0) [a.src, a.id, a.addr, a.data.toNat]) := by
  unfold returnRead
  rw [if_neg (by simpa using oldest)]

/-- A read that has its data or its error, as it waits for its turn. -/
def DAcc.finished (a : DAcc) (data : Line) (bad : Bool) : DAcc := { a with data, bad, done := true }

/-- A read that no older read of its source precedes returns as soon as it is finished, where no other read waits for its turn. -/
theorem finishRead_oldest {s : State} {a : DAcc} (others : ∀ b ∈ s.dram.issued, b.id ≠ a.id → b.done = false)
    (oldest : ∀ b ∈ s.openReads a.src, a.id ≤ b.id) (data : Line) (bad : Bool) :
    finishRead a data bad s =
      ({ s with dram := { s.dram with issued := s.dram.issued.filter (fun b => b.id ≠ a.id) } } : State).emit
        (.xfer (if bad then 1 else 0) [a.src, a.id, a.addr, data.toNat]) := by
  let rest := s.dram.issued.filter (fun b => b.id ≠ a.id)
  let u : State := { s with dram := { s.dram with issued := rest ++ [a.finished data bad] } }
  have sole : u.dram.issued.filter (·.done) = [a.finished data bad] := by
    have waiting : rest.filter (·.done) = [] := List.filter_eq_nil_iff.2 fun b mem => by
      obtain ⟨mem, other⟩ := List.mem_filter.1 mem
      simp [others b mem (by simpa using other)]
    rw [List.filter_append, waiting]
    rfl
  have first : ∀ b ∈ u.openReads a.src, a.id ≤ b.id := by
    intro b mem
    simp only [State.openReads, u, rest, List.mem_filter, List.mem_append, List.mem_singleton] at mem oldest
    obtain ⟨(queued | ⟨issued, _⟩ | rfl) | held, mine⟩ := mem
    · exact oldest b ⟨.inl (.inl queued), mine⟩
    · exact oldest b ⟨.inl (.inr issued), mine⟩
    · exact le_rfl
    · exact oldest b ⟨.inr held, mine⟩
  have left : u.dram.issued.filter (fun b => b.id ≠ a.id) = rest := by
    simp [u, rest, DAcc.finished, List.filter_append]
  calc finishRead a data bad s = returnRead (a.finished data bad) u := dramReturn_sole sole
    _ = _ := returnRead_oldest first
    _ = _ := congrArg (fun l => ({ s with dram := { s.dram with issued := l } } : State).emit _) left

/-! What an access changes beside the DRAM tier. -/

theorem Accounts.wr {except : List Fld} {moves : Nat → Prop} {f : Fld} (named : (except.map Fld.id).contains f.id = true)
    (other : f.id ≠ TLR_STAT_ACTIVE.id ∧ f.id ≠ MOD_STATE_STATE.id) (v i : Nat) (s : State) : Accounts except moves s (s.wr f v i) :=
  { Accounts.refl (except := except) (moves := moves) s with
    regs := fun g j _ unnamed => s.rd_wr_ne f v i g j (fun same => by rw [same, named] at unnamed; cases unnamed)
    serving := by unfold State.serving State.modeCode; rw [s.rd_wr_ne _ _ _ _ _ other.2.symm]; rfl
    active := by unfold State.rdB; rw [s.rd_wr_ne _ _ _ _ _ other.1.symm] }

/-- What a DRAM access leaves alone beside the queues: the DRAM tier, memory, the part, every register but those named and those of the
closing work; messages are only added. -/
structure DramStands (except : List Fld) (s t : State) : Prop where
  accounts : Accounts except (fun _ => True) s t
  part : t.part = s.part
  mem : t.mem = { s.mem with rootMark := t.mem.rootMark }
  dram : t.dram = s.dram
  out : ∃ l, t.out = s.out ++ l

namespace DramStands
variable {except : List Fld}

theorem of_keeps {s t : State} (kept : Keeps s t) : DramStands except s t :=
  ⟨.of_keeps kept, kept.part, kept.mem, kept.dram, kept.out⟩

theorem refl (s : State) : DramStands except s s := .of_keeps (.refl s)

theorem trans {a b c : State} (h : DramStands except a b) (k : DramStands except b c) : DramStands except a c where
  accounts := h.accounts.trans k.accounts
  part := k.part.trans h.part
  mem := by rw [k.mem, h.mem]
  dram := k.dram.trans h.dram
  out := by
    obtain ⟨l, hl⟩ := h.out
    obtain ⟨m, hm⟩ := k.out
    exact ⟨l ++ m, by rw [hm, hl, List.append_assoc]⟩

theorem ite {p : Prop} [Decidable p] {s a b : State} (h : DramStands except s a) (k : DramStands except s b) :
    DramStands except s (if p then a else b) := by
  split <;> assumption

theorem forAll {α : Type} {f : α → State → State} (each : ∀ a s, DramStands except s (f a s)) (l : List α) (s : State) :
    DramStands except s (forAll l f s) :=
  List.foldlRecOn l _ (motive := DramStands except s) (.refl s) fun t done a _ => done.trans (each a t)

theorem wr {f : Fld} (named : (except.map Fld.id).contains f.id = true)
    (other : f.id ≠ TLR_STAT_ACTIVE.id ∧ f.id ≠ MOD_STATE_STATE.id) (v i : Nat) (s : State) : DramStands except s (s.wr f v i) :=
  ⟨.wr named other v i s, rfl, rfl, rfl, [], by simp⟩

theorem bump {f : Fld} (named : (except.map Fld.id).contains f.id = true)
    (other : f.id ≠ TLR_STAT_ACTIVE.id ∧ f.id ≠ MOD_STATE_STATE.id) (n i : Nat) (s : State) : DramStands except s (s.bump f n i) :=
  .wr named other _ i s

theorem setCap (s : State) {c : Cap} (walk : c.auditWalk = s.cap.auditWalk) : DramStands except s { s with cap := c } :=
  ⟨.setCap s walk fun _ still => absurd trivial still, rfl, rfl, rfl, [], by simp⟩

theorem setFlt (s : State) (f : Flt) : DramStands except s { s with flt := f } :=
  ⟨⟨fun _ _ _ _ => rfl, rfl, rfl, rfl, rfl, rfl, rfl, fun _ _ => rfl, rfl, rfl, rfl, rfl⟩, rfl, rfl, rfl, [], by simp⟩

theorem setQos (s : State) (q : Qos) : DramStands except s { s with qos := q } :=
  ⟨⟨fun _ _ _ _ => rfl, rfl, rfl, rfl, rfl, rfl, rfl, fun _ _ => rfl, rfl, rfl, rfl, rfl⟩, rfl, rfl, rfl, [], by simp⟩

theorem calm {s t : State} (stands : DramStands except s t) (calm : s.Calm) : t.Calm := stands.accounts.calm calm

theorem rd {s t : State} (stands : DramStands except s t) {f : Fld} (i : Nat) (closing : closingFlds.contains f.id = false)
    (other : (except.map Fld.id).contains f.id = false) : t.rd f i = s.rd f i := stands.accounts.regs f i closing other

theorem charge (r h : Nat) (c : Cls) (s : State) : DramStands tokenFlds s (charge r h c s).2 := by
  unfold Sys2Proof.Machine.charge
  dsimp only
  split
  · exact .setQos s _
  · split
    · exact ((setQos s _).trans (.bump (by decide) (by decide) 1 h _)).trans (.of_keeps (.count _ _ _ _ _))
    · exact (bump (by decide) (by decide) 1 h s).trans (.of_keeps (.count _ _ _ _ _))

end DramStands

theorem DramStands.channelFenced {s t : State} (stands : DramStands tokenFlds s t) (c : Nat) : t.channelFenced c = s.channelFenced c := by
  unfold State.channelFenced State.rdB
  rw [stands.rd c (by decide) (by decide)]

/-- The place of an address is the part's. -/
theorem dramLoc_congr {s t : State} (part : t.part = s.part) (addr : Nat) : dramLoc t addr = dramLoc s addr := by
  unfold dramLoc
  rw [part]

theorem addrChannel_congr {s t : State} (part : t.part = s.part) (addr : Nat) : addrChannel t addr = addrChannel s addr := by
  unfold addrChannel
  rw [dramLoc_congr part]

/-! The budgets of an access (R309, R312, R313). -/

/-- A state in which the next access has its number. -/
def State.numbered (s : State) : State := { s with dram := { s.dram with nextId := s.dram.nextId + 1 } }

/-- What the budgets of its head and class make of an access to a channel: whether it runs at Overdraft, and the state after. -/
def budgeted (c h code : Nat) (write : Bool) (s : State) : Bool × State :=
  match codeClass code with
  | none => (code == 4, s)
  | some k =>
    let mine := ((s.writeQ c).filter (fun b => b.head == h && b.cls == some k)).length
    let share := write && decide (s.rd QOS_BUD_B_WQ (4 * h + k.code) ≤ mine)
    let tok := charge 0 h k s
    (tok.1 || share, if share then count 0x900 (some (h, 4)) c 1 (tok.2.bump QOS_DEM_DEM 1 h) else tok.2)

theorem DramStands.budgeted (c h code : Nat) (write : Bool) (s : State) : DramStands tokenFlds s (budgeted c h code write s).2 := by
  unfold Sys2Proof.Machine.budgeted
  cases codeClass code with
  | none => exact .refl s
  | some k =>
    have charged := DramStands.charge 0 h k s
    exact .ite (charged.trans ((bump (by decide) (by decide) 1 h _).trans (.of_keeps (.count _ _ _ _ _)))) charged

theorem budgeted_device {code : Nat} (device : codeClass code = none) (c h : Nat) (write : Bool) (s : State) :
    budgeted c h code write s = (code == 4, s) := by
  unfold budgeted
  rw [device]

/-- The access that arrives, as the queues hold it. -/
def arriving (id src addr h code : Nat) (ovd write : Bool) (data : Line) : DAcc :=
  ⟨id, src, addr / 64 * 64, h, codeClass code, ovd, false, write, if write then data else 0, 0, false, false⟩

/-! An access enters its channel's queue (R198, R199, R201). -/

theorem setReadQ_readQ (c : Nat) (l : List DAcc) (s : State) : (setReadQ c l s).readQ c = l := by
  unfold setReadQ State.readQ
  cases l with
  | nil => simp [Map.get_del]
  | cons a l => simp [Map.get_put]

theorem setWriteQ_writeQ (c : Nat) (l : List DAcc) (s : State) : (setWriteQ c l s).writeQ c = l := by
  unfold setWriteQ State.writeQ
  cases l with
  | nil => simp [Map.get_del]
  | cons a l => simp [Map.get_put]

/-- Drain mode is set, cleared or left (R199). -/
theorem DramStands.drainMode (c : Nat) (s : State) : DramStands [DRM_CH_DRAIN] s (drainMode c s) := by
  unfold Sys2Proof.Machine.drainMode
  exact .ite (.wr (by decide) (by decide) 1 c s) (.ite (.wr (by decide) (by decide) 0 c s) (.refl s))

theorem drainMode_rd (c : Nat) (s : State) : (drainMode c s).rd DRM_CH_DRAIN c =
    if s.rd DRM_CFG_WQ_HIGH ≤ (s.writeQ c).length then 1
    else if (s.writeQ c).length ≤ s.rd DRM_CFG_WQ_LOW then 0 else s.rd DRM_CH_DRAIN c := by
  unfold drainMode
  dsimp only
  split
  · exact s.rd_wr_same DRM_CH_DRAIN 1 c
  · split
    · exact s.rd_wr_same DRM_CH_DRAIN 0 c
    · rfl

theorem find_unqueued {l : List DAcc} {addr : Nat} (unqueued : ∀ b ∈ l, b.addr ≠ addr) : l.find? (fun b => b.addr == addr) = none := by
  rw [List.find?_eq_none]
  simpa using unqueued

/-- The queue with the data of its writes to a block replaced. -/
def overwrite (addr : Nat) (data : Line) (l : List DAcc) : List DAcc := l.map (fun b => if b.addr = addr then { b with data } else b)

section Enter
variable {s : State} {a : DAcc} {c : Nat} (channel : addrChannel s a.addr = c)
include channel

theorem enterQueue_read (read : a.write = false) (unqueued : ∀ b ∈ s.writeQ c, b.addr ≠ a.addr) (room : (s.readQ c).length < 128) :
    enterQueue a s = setReadQ c (s.readQ c ++ [a]) s := by
  unfold enterQueue
  simp only [read, Bool.false_eq_true, if_false, channel, find_unqueued unqueued, if_neg (Nat.not_le.2 room)]

theorem enterQueue_write (write : a.write = true) (unqueued : ∀ b ∈ s.writeQ c, b.addr ≠ a.addr) (room : (s.writeQ c).length < 128) :
    enterQueue a s = drainMode c ((setWriteQ c (s.writeQ c ++ [a]) s).emit (.xfer 2 [a.src, a.id])) := by
  unfold enterQueue
  simp only [write, if_true, channel, find_unqueued unqueued, if_neg (Nat.not_le.2 room)]

theorem enterQueue_overwrite (write : a.write = true) {b : DAcc} (queued : b ∈ s.writeQ c) (same : b.addr = a.addr) :
    enterQueue a s = (setWriteQ c (overwrite a.addr a.data (s.writeQ c)) s).emit (.xfer 2 [a.src, a.id]) := by
  unfold enterQueue
  cases found : (s.writeQ c).find? (fun b => b.addr == a.addr) with
  | none => exact absurd same (by simpa using List.find?_eq_none.1 found b queued)
  | some _ => simp only [write, if_true, channel, found]; rfl

end Enter

/-! Arrival (R198, R212). -/

theorem State.Calm.numbered {s : State} (calm : s.Calm) : s.numbered.Calm := (DramOnly.setDram s _).calm calm

/-- A state in which an access numbered in a calm state, its budgets charged, finds the queues of its channel as they were. -/
structure Admits (s : State) (addr c : Nat) (u : State) : Prop where
  stands : DramStands tokenFlds s.numbered u
  calm : u.Calm
  channel : addrChannel u (addr / 64 * 64) = c
  reads : u.readQ c = s.readQ c
  writes : u.writeQ c = s.writeQ c

theorem budgeted_admits {s : State} (calm : s.Calm) {addr c : Nat} (channel : addrChannel s (addr / 64 * 64) = c) (h code : Nat)
    (write : Bool) : Admits s addr c (budgeted c h code write s.numbered).2 := by
  have stands := DramStands.budgeted c h code write s.numbered
  refine ⟨stands, stands.calm calm.numbered, (addrChannel_congr stands.part _).trans channel, ?_, ?_⟩
  · unfold State.readQ; rw [stands.dram]; rfl
  · unfold State.writeQ; rw [stands.dram]; rfl

section Arrival
variable {s : State} {src addr h code : Nat} {write : Bool} {data : Line} (up : s.dramUp = true) (inside : addr < s.part.dramParcels * 512)
  {c : Nat} (channel : addrChannel s (addr / 64 * 64) = c)
include up inside channel

theorem dramArrive_eq : dramArrive src addr h code write data s =
    let b := budgeted c h code write s.numbered
    let a := arriving s.dram.nextId src addr h code b.1 write data
    if b.2.channelFenced c then (if write then b.2 else finishRead a 0 true b.2)
    else if b.2.dram.held.any (fun x => x.src == src) then { b.2 with dram := { b.2.dram with held := b.2.dram.held ++ [a] } }
    else enterQueue a b.2 := by
  subst channel
  unfold dramArrive budgeted
  rw [if_neg (by simp [up, inside])]
  cases cls : codeClass code with
  | none => simp only [arriving, cls, Bool.or_false]; rfl
  | some k => simp only [arriving, cls]; rfl

variable (src write data) (calm : s.Calm)
include calm

/-- On a channel that is not fenced an access whose source waits for nothing goes to the queues; the budgets are charged for class requests
alone (R307). -/
theorem dramArrive_enters (unfenced : s.channelFenced c = false) (free : ∀ x ∈ s.dram.held, x.src ≠ src) :
    ∃ o u, Admits s addr c u ∧ (codeClass code = none → o = decide (code = 4) ∧ u = s.numbered) ∧
      dramArrive src addr h code write data s = enterQueue (arriving s.dram.nextId src addr h code o write data) u := by
  have admits := budgeted_admits calm channel h code write
  have clear : (budgeted c h code write s.numbered).2.channelFenced c = false := (admits.stands.channelFenced c).trans unfenced
  have held : (budgeted c h code write s.numbered).2.dram.held.any (fun x => x.src == src) = false := by
    rw [admits.stands.dram]
    simpa [State.numbered] using free
  refine ⟨(budgeted c h code write s.numbered).1, _, admits, fun device => ?_, ?_⟩
  · rw [budgeted_device device]
    exact ⟨rfl, rfl⟩
  · rw [dramArrive_eq up inside channel]
    simp only [clear, held, Bool.false_eq_true, if_false]

/-- On a fenced channel a write is dropped and a read gets its error (R212). -/
theorem dramArrive_fenced (fenced : s.channelFenced c = true) : ∃ o u, Admits s addr c u ∧ dramArrive src addr h code write data s =
    if write then u else finishRead (arriving s.dram.nextId src addr h code o write data) 0 true u := by
  have admits := budgeted_admits calm channel h code write
  refine ⟨(budgeted c h code write s.numbered).1, _, admits, ?_⟩
  rw [dramArrive_eq up inside channel]
  exact if_pos ((admits.stands.channelFenced c).trans fenced)

end Arrival

/-- Memory stands but for the mark of the last root record. -/
def MemStands (s t : State) : Prop := t.mem = { s.mem with rootMark := t.mem.rootMark }

theorem MemStands.trans {a b c : State} (h : MemStands a b) (k : MemStands b c) : MemStands a c := by
  unfold MemStands at *
  rw [k, h]

theorem DramStands.memStands {except : List Fld} {s t : State} (stands : DramStands except s t) : MemStands s t := stands.mem

theorem DramOnly.memStands {s t : State} (only : DramOnly s t) : MemStands s t := by rw [MemStands, only.mem]

theorem Keeps.memStands {s t : State} (kept : Keeps s t) : MemStands s t := kept.mem

/-- A command whose work leaves a calm state does what every state kept as that one shows. -/
theorem Does.of_run {c : Instr} {s x y : State} {P : State → Prop} (run : exec c s = .next (settle y)) (work : y = x) (calm : x.Calm)
    (shows : ∀ t, Keeps x t → P t) : Does c s P := ⟨_, work ▸ run, shows _ (.settle x calm)⟩

theorem setReadQ_append (c : Nat) (l : List DAcc) (a : DAcc) (s : State) :
    setReadQ c (l ++ [a]) s = { s with dram := { s.dram with rdq := s.dram.rdq.put c (l ++ [a]) } } := by simp [setReadQ]

theorem setWriteQ_append (c : Nat) (l : List DAcc) (a : DAcc) (s : State) :
    setWriteQ c (l ++ [a]) s = { s with dram := { s.dram with wrq := s.dram.wrq.put c (l ++ [a]) } } := by simp [setWriteQ]

theorem DramOnly.setReadQ (c : Nat) (l : List DAcc) (s : State) : DramOnly s (setReadQ c l s) := .setDram s _

theorem DramOnly.setWriteQ (c : Nat) (l : List DAcc) (s : State) : DramOnly s (setWriteQ c l s) := .setDram s _

/-! What an access that arrives comes to (R198, R199, R201, R212). -/

section Arrives
variable {s : State} {src addr code : Nat} {h : Head} (calm : s.Calm) (up : s.dramUp = true) (inside : addr < s.part.dramParcels * 512)
  {c : Nat} (channel : addrChannel s (addr / 64 * 64) = c)
include calm up inside channel

section Unfenced
variable (unfenced : s.channelFenced c = false) (free : ∀ x ∈ s.dram.held, x.src ≠ src)
include unfenced free

theorem dramRead_queues (unqueued : ∀ x ∈ s.writeQ c, x.addr ≠ addr / 64 * 64) (room : (s.readQ c).length < 128) :
    Does (.dramRead src addr h code) s (fun t => ∃ o,
      t.dram = { s.numbered.dram with
        rdq := s.dram.rdq.put c (s.readQ c ++ [arriving s.dram.nextId src addr h code o false 0]) } ∧
      t.mem = { s.mem with rootMark := t.mem.rootMark } ∧ (codeClass code = none → o = decide (code = 4) ∧ t.qos = s.qos)) := by
  obtain ⟨o, u, admits, device, arrives⟩ := dramArrive_enters (h := h) (code := code) src false 0 up inside channel calm unfenced free
  rw [enterQueue_read admits.channel rfl (admits.writes ▸ unqueued) (admits.reads ▸ room)] at arrives
  refine .of_run rfl arrives ((DramOnly.setReadQ c _ _).calm admits.calm) fun t kept => ⟨o, ?_, ?_, fun none => ?_⟩
  · rw [kept.dram, setReadQ_append, admits.reads, admits.stands.dram]
    rfl
  · exact admits.stands.memStands.trans kept.memStands
  · obtain ⟨ovd, rfl⟩ := device none
    exact ⟨ovd, kept.qos⟩

theorem dramWrite_queues (data : Line) (unqueued : ∀ x ∈ s.writeQ c, x.addr ≠ addr / 64 * 64) (room : (s.writeQ c).length < 128) :
    Does (.dramWrite src addr h code data) s (fun t => ∃ o,
      t.dram = { s.numbered.dram with
        wrq := s.dram.wrq.put c (s.writeQ c ++ [arriving s.dram.nextId src addr h code o true data]) } ∧
      t.mem = { s.mem with rootMark := t.mem.rootMark } ∧ Sends s t (.xfer 2 [src, s.dram.nextId]) ∧
      t.rd DRM_CH_DRAIN c = if s.rd DRM_CFG_WQ_HIGH ≤ (s.writeQ c).length + 1 then 1
        else if (s.writeQ c).length + 1 ≤ s.rd DRM_CFG_WQ_LOW then 0 else s.rd DRM_CH_DRAIN c) := by
  obtain ⟨o, u, admits, -, arrives⟩ := dramArrive_enters (h := h) (code := code) src true data up inside channel calm unfenced free
  rw [enterQueue_write admits.channel rfl (admits.writes ▸ unqueued) (admits.writes ▸ room)] at arrives
  let a := arriving s.dram.nextId src addr h code o true data
  let q := (setWriteQ c (u.writeQ c ++ [a]) u).emit (.xfer 2 [src, s.dram.nextId])
  have drains := DramStands.drainMode c q
  have queue : q.writeQ c = s.writeQ c ++ [a] := (setWriteQ_writeQ c _ u).trans (by rw [admits.writes])
  refine .of_run (x := drainMode c q) rfl arrives (drains.calm (((DramOnly.setWriteQ c _ _).trans (.emit _ _)).calm admits.calm))
    fun t kept => ⟨o, ?_, ?_, ?_, ?_⟩
  · rw [kept.dram, drains.dram, State.emit_dram, setWriteQ_append, admits.writes, admits.stands.dram]
    rfl
  · exact admits.stands.memStands.trans (drains.memStands.trans kept.memStands)
  · exact (((Sends.emit _ _).before admits.stands.out).after drains.out).after kept.out
  · rw [kept.regs _ _ (by decide), drainMode_rd, queue, List.length_append, List.length_singleton]
    have high : q.rd DRM_CFG_WQ_HIGH = s.rd DRM_CFG_WQ_HIGH := admits.stands.rd 0 (by decide) (by decide)
    have low : q.rd DRM_CFG_WQ_LOW = s.rd DRM_CFG_WQ_LOW := admits.stands.rd 0 (by decide) (by decide)
    have drain : q.rd DRM_CH_DRAIN c = s.rd DRM_CH_DRAIN c := admits.stands.rd c (by decide) (by decide)
    rw [high, low, drain]

theorem dramWrite_overwrites (data : Line) {x : DAcc} (queued : x ∈ s.writeQ c) (same : x.addr = addr / 64 * 64) :
    Does (.dramWrite src addr h code data) s (fun t => t.writeQ c = overwrite (addr / 64 * 64) data (s.writeQ c) ∧
      t.mem = { s.mem with rootMark := t.mem.rootMark } ∧ Sends s t (.xfer 2 [src, s.dram.nextId])) := by
  obtain ⟨o, u, admits, -, arrives⟩ := dramArrive_enters (h := h) (code := code) src true data up inside channel calm unfenced free
  rw [enterQueue_overwrite admits.channel rfl (admits.writes ▸ queued) same, admits.writes] at arrives
  refine .of_run rfl arrives (((DramOnly.setWriteQ c _ _).trans (.emit _ _)).calm admits.calm) fun t kept => ⟨?_, ?_, ?_⟩
  · unfold State.writeQ
    rw [kept.dram]
    exact setWriteQ_writeQ c _ u
  · exact admits.stands.memStands.trans kept.memStands
  · exact ((Sends.emit _ _).before admits.stands.out).after kept.out

end Unfenced

section Fenced
variable (fenced : s.channelFenced c = true)
include fenced

theorem dramRead_fenced (first : s.openReads src = []) (others : ∀ b ∈ s.dram.issued, b.id ≠ s.dram.nextId ∧ b.done = false) :
    Does (.dramRead src addr h code) s (fun t => Sends s t (.xfer 1 [src, s.dram.nextId, addr / 64 * 64, 0]) ∧
      t.dram.issued = s.dram.issued) := by
  obtain ⟨o, u, admits, arrives⟩ := dramArrive_fenced (h := h) (code := code) src false 0 up inside channel calm fenced
  have issued : u.dram.issued = s.dram.issued := by rw [admits.stands.dram]; rfl
  have none_open : u.openReads src = [] := by
    unfold State.openReads at *
    rw [admits.stands.dram]
    exact first
  have no_data : (0 : Line).toNat = 0 := BitVec.toNat_zero
  rw [if_neg (by decide), finishRead_oldest (fun x mem _ => (others x (issued ▸ mem)).2)
    (fun x mem => absurd (none_open ▸ mem) (List.not_mem_nil)), no_data] at arrives
  refine .of_run rfl arrives (((DramOnly.setDram _ _).trans (.emit _ _)).calm admits.calm) fun t kept => ⟨?_, ?_⟩
  · exact ((Sends.emit _ _).before admits.stands.out).after kept.out
  · rw [kept.dram]
    exact (List.filter_eq_self.2 fun x mem => decide_eq_true (others x (issued ▸ mem)).1).trans issued

theorem dramWrite_fenced (data : Line) : Does (.dramWrite src addr h code data) s (fun t => t.dram = s.numbered.dram ∧
    t.mem = { s.mem with rootMark := t.mem.rootMark }) := by
  obtain ⟨o, u, admits, arrives⟩ := dramArrive_fenced (h := h) (code := code) src true data up inside channel calm fenced
  rw [if_pos rfl] at arrives
  exact .of_run rfl arrives admits.calm fun t kept =>
    ⟨kept.dram.trans admits.stands.dram, admits.stands.memStands.trans kept.memStands⟩

end Fenced

end Arrives

/-! An access issues (R199, R200, R203). -/

/-- A state in which a channel has acted on a row: tallies, neighbour refreshes that are due, open rows, retries. -/
def State.acted (s : State) (tally : Map (List Tally)) (neigh : List (Nat × Nat)) (openRow retries : Map Nat) : State :=
  { s with dram := { s.dram with tally, neigh, openRow, retries } }

/-- A state is another but for tallies and neighbour refreshes that are due. -/
def TallyOnly (s t : State) : Prop := ∃ tally neigh, t = s.acted tally neigh s.dram.openRow s.dram.retries

theorem TallyOnly.ite {p : Prop} [Decidable p] {s a b : State} (h : TallyOnly s a) (k : TallyOnly s b) : TallyOnly s (if p then a else b) := by
  split <;> assumption

theorem TallyOnly.tallyAct (bank row : Nat) (s : State) : TallyOnly s (tallyAct bank row s) := by
  unfold Sys2Proof.Machine.tallyAct
  dsimp only
  exact .ite ⟨_, _, rfl⟩ ⟨_, _, rfl⟩

theorem openRow_eq (bank row : Nat) (s : State) : ∃ tally neigh rows, rows.find bank = some row ∧
    openRow bank row s = s.acted tally neigh rows s.dram.retries := by
  unfold openRow
  split
  · exact ⟨_, _, _, ‹_›, rfl⟩
  · obtain ⟨tally, neigh, tallied⟩ := TallyOnly.tallyAct bank row { s with dram := { s.dram with openRow := s.dram.openRow.put bank row } }
    exact ⟨tally, neigh, _, by rw [Map.find_put, if_pos rfl], tallied⟩

theorem releaseAccesses_none {s : State} (none_held : s.dram.held = []) : releaseAccesses s = s := by
  unfold releaseAccesses
  rw [none_held]
  show ({ s with dram := { s.dram with held := [] } } : State) = s
  rw [← none_held]

section Issue
variable {s : State} {a : DAcc} {c : Nat} (channel : addrChannel s a.addr = c) (none_held : s.dram.held = [])
include channel none_held

theorem issueAccess_write (write : a.write = true) : ∃ tally neigh rows retries, rows.find (bankOf s a) = some (rowOf s a) ∧
    issueAccess a s = drainMode c (setWriteQ c ((s.writeQ c).filter (fun b => b.id ≠ a.id))
      (storeBytes a.addr (lineBytes a.data) (s.acted tally neigh rows retries))) := by
  obtain ⟨tally, neigh, rows, opened, row⟩ := openRow_eq (bankOf s a) (rowOf s a) s
  refine ⟨tally, neigh, rows, s.dram.retries.del c, opened, ?_⟩
  unfold issueAccess
  simp only [row, write, if_true, channel]
  exact releaseAccesses_none ((congrArg Dram.held (DramStands.drainMode c _).dram).trans none_held)

theorem issueAccess_read (read : a.write = false) (unqueued : ∀ b ∈ s.writeQ c, b.addr ≠ a.addr) :
    ∃ tally neigh rows retries, ∃ q : List DAcc, rows.find (bankOf s a) = some (rowOf s a) ∧
      q.map (·.id) = ((s.readQ c).filter (fun b => b.id ≠ a.id)).map (·.id) ∧
      issueAccess a s = setReadQ c q { s.acted tally neigh rows retries with
        dram := { (s.acted tally neigh rows retries).dram with issued := s.dram.issued ++ [a] } } := by
  obtain ⟨tally, neigh, rows, opened, row⟩ := openRow_eq (bankOf s a) (rowOf s a) s
  let older := fun (b : DAcc) => decide (b.id < a.id) && b.level == a.level && (dramLoc s b.addr).unit == (dramLoc s a.addr).unit
  refine ⟨tally, neigh, rows, s.dram.retries.del c, ((s.readQ c).filter (fun b => b.id ≠ a.id)).map
    (fun b => if older b then { b with passed := b.passed + 1 } else b), opened, ?_, ?_⟩
  · rw [List.map_map]
    refine List.map_congr_left fun b _ => ?_
    simp only [Function.comp]
    split <;> rfl
  · unfold issueAccess
    simp only [row, read, Bool.false_eq_true, if_false, channel]
    split
    · rename_i b found
      exact absurd ((find_unqueued unqueued).symm.trans found) (by simp)
    · exact releaseAccesses_none none_held

end Issue

/-- What a subchannel must be to issue (R200, R204, R205): in a device that runs, on, not fenced, not paused, with no neighbour refresh due. -/
structure MayIssue (s : State) (u : Nat) : Prop where
  runs : s.stopped = false
  up : s.dramUp = true
  on : s.channelOn (u / 2) = true
  unfenced : s.channelFenced (u / 2) = false
  unpaused : s.dram.paused.contains u = false
  quiet : ∀ x ∈ s.dram.neigh, x.1 / 64 ≠ u

section Issues
variable {s : State} {u : Nat} {a : DAcc} (may : MayIssue s u) (next : nextAccess s u = some a)
include may next

theorem accessIssue_next (parity : Bool) : accessIssue u parity s =
    if parity then
      let n := s.dram.retries.get (u / 2) 0 + 1
      if 4 ≤ n then channelFault (u / 2) { s with dram := { s.dram with retries := s.dram.retries.del (u / 2) } }
      else { s with dram := { s.dram with retries := s.dram.retries.put (u / 2) n } }
    else issueAccess a (if a.write then s else count 0x500 (a.cls.map (fun k => (a.head, clsBit k a.ovd))) (u / 2) 1 s) := by
  have quiet : s.dram.neigh.find? (fun x => x.1 / 64 == u) = none := by
    rw [List.find?_eq_none]
    simpa using may.quiet
  unfold accessIssue
  simp only [may.runs, may.up, may.on, may.unfenced, may.unpaused, quiet, next, Bool.not_true, Bool.or_self, Bool.false_eq_true, if_false]

theorem parityError_retries (calm : s.Calm) (few : s.dram.retries.get (u / 2) 0 < 3) : Ends (.dramAccessIssue u true) s
    { s with dram := { s.dram with retries := s.dram.retries.put (u / 2) (s.dram.retries.get (u / 2) 0 + 1) } } := by
  refine .of_eq rfl ?_ ((DramOnly.setDram s _).calm calm)
  rw [accessIssue_next may next, if_pos rfl]
  exact if_neg (by omega)

variable (calm : s.Calm) (none_held : s.dram.held = []) (channel : addrChannel s a.addr = u / 2)
include calm none_held channel

theorem readIssues (read : a.write = false) (unqueued : ∀ b ∈ s.writeQ (u / 2), b.addr ≠ a.addr) :
    Does (.dramAccessIssue u false) s (fun t => t.dram.issued = s.dram.issued ++ [a] ∧
      t.dram.openRow.find (bankOf s a) = some (rowOf s a) ∧
      (t.readQ (u / 2)).map (·.id) = ((s.readQ (u / 2)).filter (fun b => b.id ≠ a.id)).map (·.id) ∧
      t.mem = { s.mem with rootMark := t.mem.rootMark }) := by
  let x := count 0x500 (a.cls.map (fun k => (a.head, clsBit k a.ovd))) (u / 2) 1 s
  have counted : Keeps s x := .count _ _ _ _ s
  have reads : x.readQ (u / 2) = s.readQ (u / 2) := congrArg (fun d : Dram => d.rdq.get (u / 2) []) counted.dram
  have writes : x.writeQ (u / 2) = s.writeQ (u / 2) := congrArg (fun d : Dram => d.wrq.get (u / 2) []) counted.dram
  have place : dramLoc x a.addr = dramLoc s a.addr := dramLoc_congr counted.part _
  obtain ⟨tally, neigh, rows, retries, q, opened, ids, issues⟩ := issueAccess_read (s := x) (c := u / 2)
    ((addrChannel_congr counted.part _).trans channel) (by rw [counted.dram]; exact none_held) read (writes ▸ unqueued)
  have work := ((accessIssue_next may next false).trans (congrArg (issueAccess a) (if_neg (by rw [read]; decide)))).trans issues
  rw [bankOf, rowOf, place] at opened
  refine .of_run rfl work ((DramOnly.setDram x _).calm (counted.calm calm)) fun t kept => ⟨?_, ?_, ?_, ?_⟩
  · rw [kept.dram]
    exact congrArg (· ++ [a]) (congrArg Dram.issued counted.dram)
  · rw [kept.dram]
    exact opened
  · rw [← reads, ← ids]
    unfold State.readQ
    rw [kept.dram]
    exact congrArg (List.map DAcc.id) (setReadQ_readQ (u / 2) q _)
  · exact counted.memStands.trans kept.memStands

theorem writeIssues (write : a.write = true) : Does (.dramAccessIssue u false) s (fun t =>
    t.mem.store = writeBytes s.mem.store a.addr (lineBytes a.data) ∧ t.dram.openRow.find (bankOf s a) = some (rowOf s a) ∧
    t.writeQ (u / 2) = (s.writeQ (u / 2)).filter (fun b => b.id ≠ a.id) ∧ t.mem.pages = s.mem.pages) := by
  obtain ⟨tally, neigh, rows, retries, opened, issues⟩ := issueAccess_write channel none_held write
  have work := ((accessIssue_next may next false).trans (congrArg (issueAccess a) (if_pos write))).trans issues
  let stored := storeBytes a.addr (lineBytes a.data) (s.acted tally neigh rows retries)
  let x := setWriteQ (u / 2) ((s.writeQ (u / 2)).filter (fun b => b.id ≠ a.id)) stored
  have drains := DramStands.drainMode (u / 2) x
  have calm_after : x.Calm := ⟨calm.drain, calm.flush, calm.plan, calm.audit⟩
  refine .of_run rfl work (drains.calm calm_after) fun t kept => ⟨?_, ?_, ?_, ?_⟩
  · rw [kept.mem, drains.mem]
    rfl
  · rw [kept.dram, drains.dram]
    exact opened
  · unfold State.writeQ
    rw [kept.dram, drains.dram]
    exact setWriteQ_writeQ (u / 2) _ stored
  · rw [kept.mem, drains.mem]
    rfl

end Issues

/-! A read comes back from the devices (R201, R207). -/

section Returns
variable {s : State} {a : DAcc} (alone : s.dram.issued = [a]) (waits : a.done = false) (first : s.openReads a.src = [a]) (calm : s.Calm)
include alone waits

theorem accessComplete_sound (sound : s.mem.lost.contains (a.addr / 64) = false) :
    accessComplete a.id 0 s = finishRead a (bytesLine (readBytes s.mem.store a.addr 64)) false s := by
  unfold accessComplete
  simp only [alone, waits, List.find?_cons, beq_self_eq_true, Bool.not_false, Bool.and_self, sound]
  rfl

theorem accessComplete_lost : accessComplete a.id 2 s = accessLost a s := by
  unfold accessComplete
  simp only [alone, waits, List.find?_cons, beq_self_eq_true, Bool.not_false, Bool.and_self, true_or, if_true]

include first calm

theorem soundRead_returns (sound : s.mem.lost.contains (a.addr / 64) = false) : Does (.dramAccessComplete a.id 0) s (fun t =>
    Sends s t (.xfer 0 [a.src, a.id, a.addr, (bytesLine (readBytes s.mem.store a.addr 64)).toNat]) ∧ t.dram.issued = [] ∧
    RegsKept [] s t ∧ t.mem = { s.mem with rootMark := t.mem.rootMark }) := by
  have others : ∀ b ∈ s.dram.issued, b.id ≠ a.id → b.done = false := fun b mem _ => by
    rw [alone, List.mem_singleton] at mem
    exact mem ▸ waits
  have oldest : ∀ b ∈ s.openReads a.src, a.id ≤ b.id := fun b mem => by
    rw [first, List.mem_singleton] at mem
    exact mem ▸ le_rfl
  have work := (accessComplete_sound alone waits sound).trans (finishRead_oldest others oldest _ _)
  refine .of_run rfl work (((DramOnly.setDram s _).trans (.emit _ _)).calm calm) fun t kept => ⟨?_, ?_, ?_, ?_⟩
  · exact (Sends.emit _ _).after kept.out
  · rw [kept.dram]
    simp [alone]
  · exact fun f i closing _ => kept.regs f i closing
  · exact kept.memStands

end Returns

/-! A read that is lost (R209, R210, R212). -/

namespace DramStands
variable {except : List Fld}

theorem moveCount (media : Bool) (a b : PState) (n : Nat) (s : State) : DramStands except s (moveCount media a b n s) := by
  unfold Sys2Proof.Machine.moveCount
  exact .ite (.setCap s rfl) (.setCap s rfl)

theorem setPState (p : Nat) (k : PState) (s : State) : DramStands except s (setPState p k s) := .setCap s rfl

theorem quarantine (media : Bool) (free : Nat) (p : Nat → Bool) (s : State) : DramStands except s (quarantine media free p s) := by
  unfold Sys2Proof.Machine.quarantine
  exact (moveCount _ _ _ _ s).trans (.forAll (fun q u => (moveCount media .stale .quar 1 u).trans (.setPState q .quar _)) _ _)

/-- The same rows marked in both states. -/
theorem remark {s t : State} (stands : DramStands except s t) (m : List Nat) :
    DramStands except { s with dram := { s.dram with marked := m } } { t with dram := { t.dram with marked := m } } :=
  ⟨{ stands.accounts with }, stands.part, stands.mem, by rw [stands.dram], stands.out⟩

end DramStands

/-- The registers in which the loss of a line's contents and the mark of a row are noted (R210, R430). -/
def noteFlds : List Fld := [FLT_DLS_LOST, FLT_DLS_OVF, FLT_DLS_OVT_TIME, DRM_CH_ECC_MARKED, DRM_PPR_PENDING]

theorem DramStands.deadLetter (line cause head : Nat) (page : Bool) (s : State) : DramStands noteFlds s (deadLetter line cause head page s) := by
  unfold Sys2Proof.Machine.deadLetter
  dsimp only
  refine .ite (.refl s) (.ite ?_ ?_)
  · exact .ite ((setFlt s _).trans (.of_keeps (.raise 29 _))) (.setFlt s _)
  · have counted := bump (except := noteFlds) (f := FLT_DLS_LOST) (by decide) (by decide) 1 0 s
    have overflows := (counted.trans (.wr (f := FLT_DLS_OVF) (by decide) (by decide) 1 0 _)).trans
      (.wr (f := FLT_DLS_OVT_TIME) (by decide) (by decide) (s.bump FLT_DLS_LOST 1).stamp 0 _)
    exact .ite (overflows.trans (.of_keeps (.raise 30 _))) counted

theorem DramStands.recordSheet (sheet cause : Nat) (s : State) : DramStands noteFlds s (recordSheet sheet cause s) := by
  unfold Sys2Proof.Machine.recordSheet
  exact .ite (.refl s) (.forAll (fun l u => .ite (.refl u) (.deadLetter l cause 0 false u)) _ s)

theorem mapRecord_keeps (kind value : Nat) (s : State) : Keeps s (mapRecord kind value s) := (Keeps.book s _).trans (.logSend _ _ _ _ _)

/-- Marking a row changes, of the DRAM tier, the rows marked alone (R210). -/
theorem markRow_stands (rowId : Nat) (s : State) :
    ∃ m, DramStands noteFlds { s with dram := { s.dram with marked := m } } (markRow rowId s) := by
  unfold markRow
  dsimp only
  split
  · exact ⟨s.dram.marked, .refl s⟩
  · refine ⟨s.dram.marked ++ [rowId], ?_⟩
    have shown := (DramStands.bump (except := noteFlds) (f := DRM_CH_ECC_MARKED) (by decide) (by decide) 1 (rowId / 262144 / 128)
      { s with dram := { s.dram with marked := s.dram.marked ++ [rowId] } }).trans
      (.bump (f := DRM_PPR_PENDING) (by decide) (by decide) 1 0 _)
    exact (shown.trans (.quarantine _ _ _ _)).trans (.of_keeps ((Keeps.raise _ _).trans (mapRecord_keeps 1 rowId _)))

/-- The registers that a Contained fault writes beside those of the closing work (R416, R420). -/
def faultFlds : List Fld := [FLT_U_ESC, FLT_CNT_CONT, FLT_U_NCONT, FLT_U_CONT]

/-- A Contained fault shown in the registers of the last fault and of its unit (R420). -/
def containedShown (kind i src : Nat) (s : State) : State :=
  ((((s.wr FLT_LAST_UNIT (kind * 256 + i)).wr FLT_LAST_CLASS 1).wrB FLT_LAST_ESC false).wr FLT_LAST_SRC src).wrB FLT_U_ESC false (unitIdx kind i)

/-- A Contained fault recorded, counted and reported (R416, R420). -/
def containedTold (kind i src : Nat) (r : FaultRec) (s : State) : State :=
  raise 25 (((queueRec r (containedShown kind i src s)).bump FLT_CNT_CONT 1).bump FLT_U_NCONT 1 (unitIdx kind i))

/-- A Contained fault of a unit that has none unacknowledged stays Contained; it waits for its acknowledgement or not (R421). -/
theorem fault_contained {kind i : Nat} {s : State} (acknowledged : s.rdB FLT_U_CONT (unitIdx kind i) = false) (src d1 d2 : Nat) :
    ∃ r, fault kind i 1 src d1 d2 s = containedTold kind i src r s ∨
      fault kind i 1 src d1 d2 s = (containedTold kind i src r s).wr FLT_U_CONT 1 (unitIdx kind i) := by
  have contained : s.escalated (unitIdx kind i) 3 1 = 1 := by simp [State.escalated, ackField, acknowledged]
  unfold fault
  dsimp only
  rw [contained]
  exact ⟨_, ite_eq_or_eq _ _ _⟩

theorem DramStands.faultContained {kind i : Nat} {s : State} (acknowledged : s.rdB FLT_U_CONT (unitIdx kind i) = false) (src d1 d2 : Nat) :
    DramStands faultFlds s (fault kind i 1 src d1 d2 s) := by
  have last := (((Keeps.wr s FLT_LAST_UNIT (kind * 256 + i) 0 (by decide) (by decide) (by decide)).trans
    (.wr _ FLT_LAST_CLASS 1 0 (by decide) (by decide) (by decide))).trans
    (.wrB _ FLT_LAST_ESC false 0 (by decide) (by decide) (by decide))).trans
    (.wr _ FLT_LAST_SRC src 0 (by decide) (by decide) (by decide))
  have shown : DramStands faultFlds s (containedShown kind i src s) := (of_keeps last).trans (.wr (by decide) (by decide) _ _ _)
  have told : ∀ r, DramStands faultFlds s (containedTold kind i src r s) := fun r =>
    (((shown.trans (.of_keeps (.queueRec r _))).trans (.bump (by decide) (by decide) 1 0 _)).trans
      (.bump (by decide) (by decide) 1 _ _)).trans (.of_keeps (.raise 25 _))
  obtain ⟨r, same | same⟩ := fault_contained acknowledged src d1 d2
  · exact same ▸ told r
  · exact same ▸ (told r).trans (.wr (by decide) (by decide) 1 _ _)

/-- The registers that show a lost read, and its event (R209, R216). -/
def lossShown (a : DAcc) (s : State) : State :=
  let l := dramLoc s a.addr
  let c := l.unit / 2
  let s := ((((s.bump DRM_CH_ECC_UE 1 c).wr DRM_UE_VALID 1 c).wr DRM_UE_SUBCH (l.unit % 2) c).wr DRM_UE_RANK l.rank c).wr DRM_UE_BG l.bg c
  let s := (((s.wr DRM_UE_BANK l.bank c).wr DRM_UE_ROW l.row c).wr DRM_UE_COL l.col c).wr DRM_UE_SRC a.src c
  raise (512 + 8 * c) s

/-- The registers in which a lost read shows (R209). -/
def lossFlds : List Fld := [DRM_CH_ECC_UE, DRM_UE_VALID, DRM_UE_SUBCH, DRM_UE_RANK, DRM_UE_BG, DRM_UE_BANK, DRM_UE_ROW, DRM_UE_COL, DRM_UE_SRC]

theorem lossShown_rd (a : DAcc) (s : State) : (lossShown a s).rd DRM_UE_VALID (addrChannel s a.addr) = 1 ∧
    (lossShown a s).rd DRM_UE_ROW (addrChannel s a.addr) = rowOf s a % 2 ^ DRM_UE_ROW.w ∧
    (lossShown a s).rd DRM_CH_ECC_UE (addrChannel s a.addr) =
      min (s.rd DRM_CH_ECC_UE (addrChannel s a.addr) + 1) (2 ^ DRM_CH_ECC_UE.w - 1) := by
  unfold lossShown addrChannel rowOf
  dsimp only
  simp (disch := decide) only [raise_rd, State.rd_wr_ne, State.rd_wr_same, State.rd_bump_same, and_true, and_self]
  decide

theorem DramStands.lossShown (a : DAcc) (s : State) : DramStands lossFlds s (lossShown a s) := by
  unfold Sys2Proof.Machine.lossShown
  refine .trans ?_ (.of_keeps (.raise _ _))
  iterate 8 refine .trans ?_ (.wr (by decide) (by decide) _ _ _)
  exact .bump (by decide) (by decide) _ _ s

/-- A block is lost: no read of it is sound until it is written again. -/
def State.loseBlock (s : State) (block : Nat) : State := { s with mem := { s.mem with lost := block :: s.mem.lost.filter (· ≠ block) } }

theorem State.Calm.loseBlock {s : State} (calm : s.Calm) (block : Nat) : (s.loseBlock block).Calm :=
  ⟨calm.drain, calm.flush, calm.plan, calm.audit⟩

/-- What a lost read of a row makes known: the lines of its block, and the row that is to be repaired (R161, R210). -/
def lossNoted (rowId block : Nat) (s : State) : State := markRow rowId (forAll (s.sheetsAt block) (fun sheet s => recordSheet sheet 1 s) s)

theorem lossNoted_stands (rowId block : Nat) (s : State) :
    ∃ m, DramStands noteFlds { s with dram := { s.dram with marked := m } } (lossNoted rowId block s) := by
  have recorded : DramStands noteFlds s (forAll (s.sheetsAt block) (fun sheet s => recordSheet sheet 1 s) s) :=
    .forAll (fun sheet u => .recordSheet sheet 1 u) _ s
  obtain ⟨m, marked⟩ := markRow_stands rowId (forAll (s.sheetsAt block) (fun sheet s => recordSheet sheet 1 s) s)
  exact ⟨m, (recorded.remark m).trans marked⟩

/-- A lost read shown, noted, and reported as a Contained fault of its channel (R209). -/
def lossReported (a : DAcc) (s : State) : State :=
  let l := dramLoc s a.addr
  fault 3 (l.unit / 2) 1 (512 + 8 * (l.unit / 2)) a.addr a.src (lossNoted l.rowId (a.addr / 64) ((lossShown a s).loseBlock (a.addr / 64)))

/-- A lost read returns its error and counts among those of its channel within a second (R209, R212). -/
def lossCounted (a : DAcc) (c : Nat) (s : State) : State :=
  let now := s.standbyNs
  let recent := (s.dram.ueRecent.get c []).filter (fun t => now < t + 1000000000) ++ [now]
  let s := finishRead a 0 true { s with dram := { s.dram with ueRecent := s.dram.ueRecent.put c recent } }
  if 64 ≤ recent.length && !(s.channelFenced c) then channelFault c s else s

theorem accessLost_eq (a : DAcc) (s : State) : accessLost a s = lossCounted a (addrChannel s a.addr) (lossReported a s) := by
  unfold accessLost
  extract_lets l c written placed u3 block mem lost noted marked u7 now recent dram counted returned
  have shown : u3 = lossShown a s := rfl
  have reported : u7 = lossReported a s := by
    unfold lossReported
    rw [← shown]
    clear_value u3
    rfl
  rw [← reported]
  clear_value u7
  rfl

/-- A first lost read is too few for a Fatal fault (R212). -/
theorem lossCounted_first {s : State} (none_recent : s.dram.ueRecent = []) (a : DAcc) (c : Nat) : DramOnly s (lossCounted a c s) := by
  unfold lossCounted
  simp only [none_recent, Map.get, Map.find, Option.getD_none, List.filter_nil, List.nil_append, List.length_singleton]
  exact (DramOnly.setDram s _).trans (.finishRead a 0 true _)

/-- What the report of a lost read leaves as it was shown. -/
structure Reported (a : DAcc) (s t : State) : Prop where
  calm : t.Calm
  mem : MemStands ((lossShown a s).loseBlock (a.addr / 64)) t
  recent : t.dram.ueRecent = s.dram.ueRecent
  rd : ∀ (f : Fld) (i : Nat), closingFlds.contains f.id = false → (noteFlds.map Fld.id).contains f.id = false →
    (faultFlds.map Fld.id).contains f.id = false → t.rd f i = (lossShown a s).rd f i

theorem lossReported_reported {a : DAcc} {s : State} (calm : s.Calm)
    (acknowledged : s.rdB FLT_U_CONT (unitIdx 3 (addrChannel s a.addr)) = false) : Reported a s (lossReported a s) := by
  have shown := DramStands.lossShown a s
  obtain ⟨m, noted⟩ := lossNoted_stands (dramLoc s a.addr).rowId (a.addr / 64) ((lossShown a s).loseBlock (a.addr / 64))
  have ready : (lossNoted (dramLoc s a.addr).rowId (a.addr / 64) ((lossShown a s).loseBlock (a.addr / 64))).rdB FLT_U_CONT
      (unitIdx 3 (addrChannel s a.addr)) = false := by
    unfold State.rdB at *
    rw [noted.rd _ (by decide) (by decide), ← acknowledged, ← shown.rd _ (by decide) (by decide)]
    rfl
  have faulted := DramStands.faultContained ready (512 + 8 * addrChannel s a.addr) a.addr a.src
  refine ⟨faulted.calm (noted.calm ((DramOnly.setDram _ _).calm ((shown.calm calm).loseBlock _))), ?_, ?_, fun f i closing note flt => ?_⟩
  · exact noted.memStands.trans faulted.memStands
  · rw [show (lossReported a s).dram = _ from faulted.dram, noted.dram]
    have recent := congrArg Dram.ueRecent shown.dram
    exact recent
  · exact (faulted.rd i closing flt).trans (noted.rd i closing note)

theorem lostRead_shows {s : State} {a : DAcc} (alone : s.dram.issued = [a]) (waits : a.done = false) (calm : s.Calm)
    (acknowledged : s.rdB FLT_U_CONT (unitIdx 3 (addrChannel s a.addr)) = false) (none_recent : s.dram.ueRecent = []) :
    Does (.dramAccessComplete a.id 2) s (fun t => let ch := addrChannel s a.addr
      a.addr / 64 ∈ t.mem.lost ∧ t.rd DRM_UE_VALID ch = 1 ∧ t.rd DRM_UE_ROW ch = rowOf s a % 2 ^ DRM_UE_ROW.w ∧
      t.rd DRM_CH_ECC_UE ch = min (s.rd DRM_CH_ECC_UE ch + 1) (2 ^ DRM_CH_ECC_UE.w - 1) ∧ t.mem.store = s.mem.store) := by
  have shown := DramStands.lossShown a s
  have reported := lossReported_reported calm acknowledged
  have only := lossCounted_first (reported.recent.trans none_recent) a (addrChannel s a.addr)
  obtain ⟨valid, row, counted⟩ := lossShown_rd a s
  have work := (accessComplete_lost alone waits).trans (accessLost_eq a s)
  refine .of_run rfl work (only.calm reported.calm) fun t kept => ?_
  have mem : MemStands ((lossShown a s).loseBlock (a.addr / 64)) t := reported.mem.trans (only.memStands.trans kept.memStands)
  have shows : ∀ (f : Fld) (i : Nat), closingFlds.contains f.id = false → (noteFlds.map Fld.id).contains f.id = false →
      (faultFlds.map Fld.id).contains f.id = false → t.rd f i = (lossShown a s).rd f i := fun f i closing note flt =>
    (kept.regs f i closing).trans ((only.rd f i).trans (reported.rd f i closing note flt))
  refine ⟨?_, ?_, ?_, ?_, ?_⟩
  · rw [mem]
    exact List.mem_cons_self
  · exact (shows _ _ (by decide) (by decide) (by decide)).trans valid
  · exact (shows _ _ (by decide) (by decide) (by decide)).trans row
  · exact (shows _ _ (by decide) (by decide) (by decide)).trans counted
  · rw [mem]
    exact shown.accounts.store

/-- Settles O35: each access is followed through its command: the budgets it is charged leave the queues, and so it enters them, issues from
them, and comes back, as the rules of its kind say. -/
theorem dramAccessesFlow : Obligations.DramAccessesFlow := by
  intro s src addr code h calm up inside
  refine ⟨fun unfenced free => ⟨?_, ?_, ?_⟩, fun fenced => ⟨?_, ?_⟩, fun u a runs on unfenced unpaused quiet next none_held channel => ?_,
    fun id a alone same _ waits first => ?_⟩
  · exact dramRead_queues calm up inside rfl unfenced free
  · exact dramWrite_queues calm up inside rfl unfenced free
  · exact fun data x => dramWrite_overwrites calm up inside rfl unfenced free data
  · exact dramRead_fenced calm up inside rfl fenced
  · exact dramWrite_fenced calm up inside rfl fenced
  · have may : MayIssue s u := ⟨runs, up, on, unfenced, unpaused, quiet⟩
    exact ⟨readIssues may next calm none_held channel, writeIssues may next calm none_held channel, parityError_retries may next calm⟩
  · subst same
    exact ⟨soundRead_returns alone waits first calm, fun _ => lostRead_shows alone waits calm⟩

end Sys2Proof.Machine
end

section
/-! PROOFS. The media write path (chapter 09): what a pad timeout makes of the stripe that a stream is filling (R226). -/
namespace Sys2Proof.Machine

/-- The stripes after one is padded: due for its programme, the last of its segment only by its number, and the stream in the next one. -/
def padded (t : Stripe) (l : List Stripe) : List Stripe :=
  l.filter (fun u => !(sameStripe u t)) ++ [{ t with programming := true, final := t.stripe == 255 }] ++
    (if t.stripe = 255 then [] else [{ t with stripe := t.stripe + 1, slots := [], first := 0 }])

theorem programStripe_pads (t : Stripe) (s : State) : programStripe t false s = setStripes (padded t s.media.stripes) s := by
  simp [programStripe, padded]

/-- A pad timeout does not look at the mark by which the stripe would be the last written in its segment. -/
theorem padTimeout_pads {s : State} {k stream : Nat} {t : Stripe} (filling : s.openStripe k stream = some t) (runs : s.stopped = false)
    (awake : s.modeCode ≠ 6) (filled : t.slots ≠ []) (buffered : stream = 1 ∨ stream = 2) :
    padTimeout k stream s = setStripes (padded t s.media.stripes) s := by
  simp [padTimeout, padStream, runs, awake, buffered, filling, filled, programStripe_pads]

theorem stripePadTimeout_ends {s : State} {k stream : Nat} {t : Stripe} (calm : s.Calm) (filling : s.openStripe k stream = some t)
    (runs : s.stopped = false) (awake : s.modeCode ≠ 6) (filled : t.slots ≠ []) (buffered : stream = 1 ∨ stream = 2) :
    Ends (.stripePadTimeout k stream) s (setStripes (padded t s.media.stripes) s) :=
  .of_eq rfl (padTimeout_pads filling runs awake filled buffered) ⟨calm.drain, calm.flush, calm.plan, calm.audit⟩

/-- A command ends in one state of the media path. -/
theorem Ends.media_unique {c : Instr} {s x y : State} (ends : Ends c s x) (others : Ends c s y) : x.media = y.media := by
  obtain ⟨t, ran, kept⟩ := ends
  obtain ⟨u, again, stays⟩ := others
  cases ran.symm.trans again
  exact kept.media.symm.trans stays.media

/-- An open stripe of the R stream, not yet due, that is marked as the last written in its segment. -/
def markedStripe : Stripe := ⟨0, 0, 3, 1, [0], false, true, 0⟩

/-- The state after reset with that stripe alone. -/
def markedState : State := setStripes [markedStripe] State.reset

theorem markedState_calm : markedState.Calm := ⟨rfl, by decide +kernel, rfl, .inl rfl⟩

/-- Refutes O37: it speaks of every calm state, so also of one whose open stripe is marked final below the last of its segment. There it has
the pad timeout keep the mark and leave the stream without a next stripe; the model drops the mark and goes on in stripe 4, as R226 has it of
a segment that is not closed. No command of the model marks an open stripe; the clause lacks the hypothesis that the stripe is not marked. -/
theorem not_stripesAndReclaim : ¬ Obligations.StripesAndReclaim := by
  intro claim
  have filling : markedState.openStripe 0 1 = some markedStripe := rfl
  have runs : markedState.stopped = false := by decide +kernel
  have awake : markedState.modeCode ≠ 6 := by decide +kernel
  have filled : markedStripe.slots ≠ [] := by decide
  obtain ⟨stripes, _⟩ := claim markedState 0 markedState_calm
  obtain ⟨padding, _⟩ := stripes 1 markedStripe filling runs
  have media := (padding awake filled (.inl rfl)).media_unique
    (stripePadTimeout_ends markedState_calm filling runs awake filled (.inl rfl))
  exact absurd (congrArg (fun m => m.stripes.length) media) (by decide)

end Sys2Proof.Machine
end

section
/-! PROOFS. Media health (chapter 10): what the work on a stack leaves alone beside the media controller, its faults and its fence. -/
namespace Sys2Proof.Machine

/-- The state with other contents of the media controller. -/
def State.remedia (s : State) (m : Media) : State := { s with media := m }

/-- What the work on a stack leaves alone when it has done with the media controller: the media, the DRAM tier, memory, every event that
stands, and every register but those named and those of the closing work. -/
structure HealthStands (except : List Fld) (s t : State) : Prop where
  stands : DramStands except s t
  media : t.media = s.media
  pend : ∀ src, s.rdBit EVT_PEND_PEND (src % 64) (src / 64) = true → t.rdBit EVT_PEND_PEND (src % 64) (src / 64) = true

namespace HealthStands
variable {except : List Fld}

theorem of_keeps {s t : State} (kept : Keeps s t) : HealthStands except s t := ⟨.of_keeps kept, kept.media, kept.pend⟩

theorem refl (s : State) : HealthStands except s s := .of_keeps (.refl s)

theorem trans {a b c : State} (h : HealthStands except a b) (k : HealthStands except b c) : HealthStands except a c :=
  ⟨h.stands.trans k.stands, k.media.trans h.media, fun src set => k.pend src (h.pend src set)⟩

theorem ite {p : Prop} [Decidable p] {s a b : State} (h : HealthStands except s a) (k : HealthStands except s b) :
    HealthStands except s (if p then a else b) := by
  split <;> assumption

theorem forAll {α : Type} {f : α → State → State} (each : ∀ a s, HealthStands except s (f a s)) (l : List α) (s : State) :
    HealthStands except s (forAll l f s) :=
  List.foldlRecOn l _ (motive := HealthStands except s) (.refl s) fun t done a _ => done.trans (each a t)

/-- A register that is named is written; it is neither one of those that say whether anything goes on by itself nor one of pending events. -/
theorem wr {f : Fld} (named : (except.map Fld.id).contains f.id = true)
    (other : f.id ≠ TLR_STAT_ACTIVE.id ∧ f.id ≠ MOD_STATE_STATE.id ∧ f.id ≠ EVT_PEND_PEND.id) (v i : Nat) (s : State) :
    HealthStands except s (s.wr f v i) := by
  obtain ⟨active, state, pending⟩ := other
  refine ⟨.wr named ⟨active, state⟩ v i s, rfl, fun src set => ?_⟩
  unfold State.rdBit at *
  rwa [s.rd_wr_ne _ _ _ _ _ pending.symm]

theorem bump {f : Fld} (named : (except.map Fld.id).contains f.id = true)
    (other : f.id ≠ TLR_STAT_ACTIVE.id ∧ f.id ≠ MOD_STATE_STATE.id ∧ f.id ≠ EVT_PEND_PEND.id) (n i : Nat) (s : State) :
    HealthStands except s (s.bump f n i) := .wr named other _ i s

theorem setCap (s : State) {c : Cap} (walk : c.auditWalk = s.cap.auditWalk) : HealthStands except s { s with cap := c } :=
  ⟨.setCap s walk, rfl, fun _ set => set⟩

theorem setFlt (s : State) (f : Flt) : HealthStands except s { s with flt := f } := ⟨.setFlt s f, rfl, fun _ set => set⟩

theorem setQos (s : State) (q : Qos) : HealthStands except s { s with qos := q } := ⟨.setQos s q, rfl, fun _ set => set⟩

/-- The same media in both states. -/
theorem remedia {s t : State} (h : HealthStands except s t) (m : Media) : HealthStands except (s.remedia m) (t.remedia m) :=
  ⟨⟨{ h.stands.accounts with }, h.stands.part, h.stands.mem, h.stands.dram, h.stands.out⟩, rfl, h.pend⟩

theorem widen {more : List Fld} {s t : State} (h : HealthStands except s t) (wider : except ⊆ more) : HealthStands more s t :=
  ⟨⟨{ h.stands.accounts with regs := fun f i closing other => h.stands.rd i closing (Bool.eq_false_iff.2 fun named => by
      have named' := List.map_subset Fld.id wider (List.contains_iff_mem.1 named)
      rw [List.contains_iff_mem.2 named'] at other
      cases other) }, h.stands.part, h.stands.mem, h.stands.dram, h.stands.out⟩, h.media, h.pend⟩

theorem regs {s t : State} (h : HealthStands except s t) : RegsKept except s t := h.stands.accounts.regs

theorem mem {s t : State} (h : HealthStands except s t) : MemStands s t := h.stands.mem

theorem rd {s t : State} (h : HealthStands except s t) {f : Fld} (i : Nat) (closing : closingFlds.contains f.id = false)
    (other : (except.map Fld.id).contains f.id = false) : t.rd f i = s.rd f i := h.regs f i closing other

theorem calm {s t : State} (h : HealthStands except s t) (calm : s.Calm) : t.Calm := h.stands.calm calm

theorem work {s t : State} (h : HealthStands except s t) : t.work = s.work := h.stands.accounts.work

end HealthStands

theorem HealthStands.deadLetter (line cause head : Nat) (page : Bool) (s : State) : HealthStands noteFlds s (deadLetter line cause head page s) := by
  unfold Sys2Proof.Machine.deadLetter
  dsimp only
  refine .ite (.refl s) (.ite ?recorded ?full)
  case recorded => exact .ite ((setFlt s _).trans (.of_keeps (.raise 29 _))) (.setFlt s _)
  case full =>
    have lost : HealthStands noteFlds s (s.bump FLT_DLS_LOST 1) := .bump (by decide) (by decide) 1 0 s
    exact .ite (lost.trans (((wr (by decide) (by decide) _ _ _).trans (.wr (by decide) (by decide) _ _ _)).trans (.of_keeps (.raise 30 _)))) lost

theorem HealthStands.recordSheet (sheet cause : Nat) (s : State) : HealthStands noteFlds s (recordSheet sheet cause s) := by
  unfold Sys2Proof.Machine.recordSheet
  exact .ite (.refl s) (.forAll (fun l u => .ite (.refl u) (.deadLetter l cause 0 false u)) _ s)

/-! Faults of a unit that has none of their class unacknowledged (R416, R420, R421). -/

/-- A fault that is not escalated: shown as the last one and in its unit, recorded, counted by the module and by the unit, reported. -/
def faultTold (kind i cls src : Nat) (all own : Fld) (r : FaultRec) (s : State) : State :=
  let last := (((s.wr FLT_LAST_UNIT (kind * 256 + i)).wr FLT_LAST_CLASS cls).wrB FLT_LAST_ESC false).wr FLT_LAST_SRC src
  raise (24 + cls) (((queueRec r (last.wrB FLT_U_ESC false (unitIdx kind i))).bump all 1).bump own 1 (unitIdx kind i))

theorem fault_fatal {kind i : Nat} {s : State} (acknowledged : s.rdB FLT_U_FATAL (unitIdx kind i) = false) (src d1 d2 : Nat) :
    ∃ r, fault kind i 2 src d1 d2 s = fenceUnit kind i
      (((faultTold kind i 2 src FLT_CNT_FATAL FLT_U_NFATAL r s).wr FLT_U_FATAL 1 (unitIdx kind i)).wr FLT_U_FENCED 1 (unitIdx kind i)) := by
  have fatal : s.escalated (unitIdx kind i) 3 2 = 2 := by simp [State.escalated, ackField, acknowledged]
  unfold fault
  dsimp only
  rw [fatal]
  exact ⟨_, rfl⟩

/-- The registers that a fault told of may write beside those of the closing work. -/
theorem HealthStands.faultTold {except : List Fld} {all own : Fld}
    (named : ∀ f ∈ [FLT_U_ESC, all, own], (except.map Fld.id).contains f.id = true ∧
      f.id ≠ TLR_STAT_ACTIVE.id ∧ f.id ≠ MOD_STATE_STATE.id ∧ f.id ≠ EVT_PEND_PEND.id)
    (kind i cls src : Nat) (r : FaultRec) (s : State) : HealthStands except s (faultTold kind i cls src all own r s) := by
  obtain ⟨⟨esc, esc'⟩, ⟨all, all'⟩, ⟨own, own'⟩⟩ := List.forall_mem_cons.1 named |>.imp_right fun l =>
    (List.forall_mem_cons.1 l).imp_right fun l => l _ List.mem_cons_self
  have last := (((Keeps.wr s FLT_LAST_UNIT (kind * 256 + i) 0 (by decide) (by decide) (by decide)).trans
    (.wr _ FLT_LAST_CLASS cls 0 (by decide) (by decide) (by decide))).trans
    (.wrB _ FLT_LAST_ESC false 0 (by decide) (by decide) (by decide))).trans
    (.wr _ FLT_LAST_SRC src 0 (by decide) (by decide) (by decide))
  have shown := (HealthStands.of_keeps last).trans (.wr esc esc' (Bool.toNat false) (unitIdx kind i) _)
  exact (((shown.trans (.of_keeps (.queueRec r _))).trans (.bump all all' 1 0 _)).trans
    (.bump own own' 1 (unitIdx kind i) _)).trans (.of_keeps (.raise (24 + cls) _))

theorem HealthStands.faultContained {kind i : Nat} {s : State} (acknowledged : s.rdB FLT_U_CONT (unitIdx kind i) = false) (src d1 d2 : Nat) :
    HealthStands faultFlds s (fault kind i 1 src d1 d2 s) := by
  have told : ∀ r, HealthStands faultFlds s (containedTold kind i src r s) :=
    fun r => .faultTold (all := FLT_CNT_CONT) (own := FLT_U_NCONT) (by decide) kind i 1 src r s
  obtain ⟨r, same | same⟩ := fault_contained acknowledged src d1 d2
  · exact same ▸ told r
  · exact same ▸ (told r).trans (.wr (by decide) (by decide) 1 _ _)

/-! The fence of a stack with no work (R39, R240, R319). -/

/-- The registers that the admission of hosts after a fence may write (R319, R353). -/
def scaleFlds : List Fld := [TLR_STAT_RISK, QOS_BUD_A_DRAM, QOS_BUD_A_COU, QOS_HEAD_SCALED, QOS_CFG_DEGR, MOD_STATE_DEG_SCALE]

theorem Keeps.notifyAdmission (h : Nat) (s : State) : Keeps s (notifyAdmission h s) := by
  unfold Sys2Proof.Machine.notifyAdmission
  exact (Keeps.raise _ s).trans (.ite (.refl _) (.logEvent _ _ _ _ _))

theorem HealthStands.cutRates {f : Fld} (rate : f = QOS_BUD_A_DRAM ∨ f = QOS_BUD_A_COU) (l : List Nat) (excess : Nat) (s : State) :
    HealthStands scaleFlds s (cutRates f l excess s) := by
  have cut : ∀ v i u, HealthStands scaleFlds u (u.wr f v i) := fun v i u => by
    obtain rfl | rfl := rate <;> exact .wr (by decide) (by decide) v i u
  induction l generalizing excess s with
  | nil => exact .refl s
  | cons h l ih =>
    unfold Sys2Proof.Machine.cutRates
    refine .ite (.refl s) (.ite (ih excess s) ?_)
    refine .trans ?_ (ih _ _)
    exact ((cut _ _ s).trans ((wr (by decide) (by decide) 1 h _).trans (.wr (by decide) (by decide) 1 0 _))).trans
      (.of_keeps (.notifyAdmission h _))

theorem HealthStands.scaleAdmission (fence : Bool) (s : State) : HealthStands scaleFlds s (scaleAdmission fence s) := by
  unfold Sys2Proof.Machine.scaleAdmission
  dsimp only
  have rates := fun excess => (HealthStands.cutRates (.inl rfl) s.rankOrder.reverse (s.expressSum QOS_BUD_A_DRAM - s.dramLimit) s).trans
    (.cutRates (.inr rfl) s.rankOrder.reverse excess _)
  exact .ite ((rates _).trans (.wr (by decide) (by decide) 1 0 _)) (rates _)

theorem HealthStands.quarantine {except : List Fld} (media : Bool) (free : Nat) (p : Nat → Bool) (s : State) :
    HealthStands except s (quarantine media free p s) := by
  have moved : ∀ a n u, HealthStands except u (moveCount media a .quar n u) := fun a n u => by
    unfold moveCount
    exact .ite (.setCap u rfl) (.setCap u rfl)
  unfold Sys2Proof.Machine.quarantine
  exact (moved .free free s).trans (.forAll (f := fun q u => setPState q .quar (Machine.moveCount media .stale .quar 1 u))
    (fun q u => (moved .stale 1 u).trans (.setCap _ rfl)) _ _)

/-- The fence of a stack in its registers and those of its link (R39). -/
def fenceShown (k : Nat) (s : State) : State := (s.wr MED_STK_FENCED 1 k).wr FLM_LNK_FENCED 1 k

/-- A stack that is fenced with no page work and no slot loses of the media its stripes, reclaims and reads alone. -/
theorem stackFence_idle {s : State} {k : Nat} (unfenced : s.stackFenced k = false) (no_work : s.work = []) (no_slot : s.media.slots = []) :
    ∃ m : Media, m.failed = s.media.failed ∧
      HealthStands scaleFlds ((fenceShown k s).remedia m) (stackFence k s) := by
  unfold stackFence
  rw [if_neg (by simp [unfenced])]
  extract_lets mine free raised staged moved undone media cleared resumed down risked
  have quarantined : HealthStands scaleFlds (fenceShown k s) moved := (HealthStands.of_keeps (.raise _ _)).trans (.quarantine _ _ _ _)
  have idle : moved.work = [] := quarantined.work.trans no_work
  have none_staged : staged = [] := by
    have none_left : raised.media.slots = [] := (congrArg Media.slots (Keeps.raise _ (fenceShown k s)).media).trans no_slot
    simp [staged, none_left]
  have none_undone : undone = moved := by simp [undone, idle, forAll]
  have emptied : cleared = moved.remedia cleared.media := by
    simp only [cleared, none_undone, idle, State.remedia, List.filter_nil]
  have none_resumed : resumed = cleared := by simp [resumed, none_staged, forAll]
  refine ⟨cleared.media, ?failed, ?stands⟩
  case failed =>
    calc cleared.media.failed = undone.media.failed := rfl
      _ = moved.media.failed := by rw [none_undone]
      _ = s.media.failed := congrArg Media.failed quarantined.media
  case stands =>
    have fenced : HealthStands scaleFlds ((fenceShown k s).remedia cleared.media) resumed := by
      rw [none_resumed, emptied]
      exact quarantined.remedia _
    have at_risk : HealthStands scaleFlds resumed risked :=
      .ite ((HealthStands.wr (by decide) (by decide) 1 0 _).trans (.of_keeps (.raise 52 _))) (.refl _)
    exact ((fenced.trans at_risk).trans (.setQos _ _)).trans (.scaleAdmission true _)

theorem State.Calm.remedia {s : State} (calm : s.Calm) (m : Media) : (s.remedia m).Calm := ⟨calm.drain, calm.flush, calm.plan, calm.audit⟩

/-- A command whose work on a state leaves all but what is named ends in a state that differs from it in no more. -/
theorem Does.of_stands {except : List Fld} {c : Instr} {s x y z : State} {P : State → Prop} (run : exec c s = .next (settle z))
    (work : z = y) (h : HealthStands except x y) (calm : x.Calm)
    (shows : ∀ t, HealthStands except x t → (∃ l, t.out = y.out ++ l) → P t) : Does c s P :=
  .of_run run work (h.calm calm) fun t kept => shows t (h.trans (.of_keeps kept)) kept.out

end Sys2Proof.Machine
end

section
/-! PROOFS. Media health (chapter 10): sector reads, from their first step to the data, the reconstruction or the loss (R244 to R249). -/
namespace Sys2Proof.Machine

/-! What begins and ends a read (R244, R245). -/

/-- The state with other reads in progress, and other runs of timeouts. -/
def State.reread (s : State) (reads : List SectorRead) (timeouts : Map Nat) : State := s.remedia { s.media with reads, timeouts }

/-- The reads in progress once that of a parcel is changed or gone. -/
def readsWith (p : Nat) (r : Option SectorRead) (l : List SectorRead) : List SectorRead :=
  l.filterMap (fun x => if x.parcel = p then r else some x)

/-- What a step of a read sends: the die's read at its reference, or the stripe's for reconstruction (R242, R244). -/
def stepOut (s : State) (r : SectorRead) : Out :=
  let k := parcelStack r.parcel
  if r.step = 8 then .xfer 4 [k, r.parcel]
  else .xfer 3 [k, r.die, r.parcel, (BitVec.ofInt 16 (s.reference k (parcelSeg r.parcel) r.die r.step)).toNat]

theorem readStep_eq (r : SectorRead) (s : State) : readStep r s = s.emit (stepOut s r) := (apply_ite s.emit _ _ _).symm

/-- A reference rests on registers that no closing work writes, and on the media. -/
theorem Keeps.stepOut {s t : State} (kept : Keeps s t) (r : SectorRead) : stepOut t r = stepOut s r := by
  have reads : ∀ f i, closingFlds.contains f.id = false → t.rd f i = s.rd f i := kept.regs
  unfold Sys2Proof.Machine.stepOut State.reference State.ageBucket State.seg
  simp (disch := decide) only [reads, kept.media]

/-- A step that is counted and begun after a change of the reads in progress. -/
def stepBegun (ev : Nat) (r : SectorRead) (reads : List SectorRead) (timeouts : Map Nat) (s : State) : State :=
  readStep r (count ev none (parcelStack r.parcel) 1 (s.reread reads timeouts))

section Begun
variable (ev : Nat) (r : SectorRead) (reads : List SectorRead) (timeouts : Map Nat) (s : State)

theorem stepBegun_keeps : Keeps (s.reread reads timeouts) (stepBegun ev r reads timeouts s) := by
  unfold stepBegun
  rw [readStep_eq]
  exact (Keeps.count _ _ _ _ _).trans (.emit _ _)

theorem stepBegun_sends : Sends s (stepBegun ev r reads timeouts s) (stepOut s r) := by
  have counted := Keeps.count ev none (parcelStack r.parcel) 1 (s.reread reads timeouts)
  unfold stepBegun
  rw [readStep_eq, counted.stepOut]
  exact (Sends.emit _ _).before counted.out

end Begun

/-- The next step of a read. -/
def SectorRead.next (r : SectorRead) : SectorRead := { r with step := r.step + 1 }

theorem stepOut_next (s : State) (r : SectorRead) : stepOut s r.next = if r.step = 7 then .xfer 4 [parcelStack r.parcel, r.parcel]
    else .xfer 3 [parcelStack r.parcel, r.die, r.parcel,
      (BitVec.ofInt 16 (s.reference (parcelStack r.parcel) (parcelSeg r.parcel) r.die (r.step + 1))).toNat] := by
  simp [stepOut, SectorRead.next]

/-- The state in which a read is at its next step, with other runs of timeouts. -/
def State.stepped (s : State) (r : SectorRead) (timeouts : Map Nat) : State :=
  s.reread (readsWith r.parcel (some r.next) s.media.reads) timeouts

/-- A read moves on to its next step. -/
def moveOn (r : SectorRead) (timeouts : Map Nat) (s : State) : State :=
  stepBegun 0x610 r.next (readsWith r.parcel (some r.next) s.media.reads) timeouts s

theorem moveOn_keeps (r : SectorRead) (timeouts : Map Nat) (s : State) : Keeps (s.stepped r timeouts) (moveOn r timeouts s) :=
  stepBegun_keeps _ _ _ _ s

theorem moveOn_sends (r : SectorRead) (timeouts : Map Nat) (s : State) : Sends s (moveOn r timeouts s) (stepOut s r.next) :=
  stepBegun_sends _ _ _ _ s

theorem moveOn_regs (r : SectorRead) (timeouts : Map Nat) (s : State) : RegsKept [] s (moveOn r timeouts s) :=
  fun f i closing _ => (moveOn_keeps r timeouts s).regs f i closing

/-! The commands of a sector read (R244, R245). -/

/-- The read that begins: at step 1, or at step 8 when the die has failed. -/
def State.firstRead (s : State) (p : Nat) : SectorRead :=
  ⟨p, s.holdingDie p, if s.dieFailed (parcelStack p) (s.holdingDie p) then 8 else 1⟩

theorem firstRead_working {s : State} {p : Nat} (works : s.dieFailed (parcelStack p) (s.holdingDie p) = false) :
    s.firstRead p = ⟨p, s.holdingDie p, 1⟩ := by
  simp [State.firstRead, works]

theorem firstRead_failed {s : State} {p : Nat} (failed : s.dieFailed (parcelStack p) (s.holdingDie p) = true) :
    s.firstRead p = ⟨p, s.holdingDie p, 8⟩ := by
  simp [State.firstRead, failed]

section Asked
variable {s : State} {p : Nat} (media : parcelMedia p = true) (active : s.stackActive (parcelStack p) = true) (awake : s.modeCode ≠ 6)
  (uncovered : s.media.reads.any (fun r => r.parcel == p) = false) (calm : s.Calm)
include media active awake uncovered

theorem sectorRead_served (staged : s.onDies p = false) : sectorRead p s = s.emit (.xfer 5 [p]) := by
  simp [sectorRead, media, active, awake, staged, uncovered]

theorem sectorRead_begins (written : s.onDies p = true) :
    sectorRead p s = stepBegun 0x600 (s.firstRead p) (s.media.reads ++ [s.firstRead p]) s.media.timeouts s := by
  simp [sectorRead, media, active, awake, written, uncovered, stepBegun, State.firstRead, State.reread, State.remedia]

include calm

theorem mediaSectorRead_begins (written : s.onDies p = true) : Does (.mediaSectorRead p) s (fun t =>
    RegsKept [] s t ∧ t.mem = { s.mem with rootMark := t.mem.rootMark } ∧
    t.media = { s.media with reads := s.media.reads ++ [s.firstRead p] } ∧ Sends s t (stepOut s (s.firstRead p))) := by
  have begun := stepBegun_keeps 0x600 (s.firstRead p) (s.media.reads ++ [s.firstRead p]) s.media.timeouts s
  have sends := stepBegun_sends 0x600 (s.firstRead p) (s.media.reads ++ [s.firstRead p]) s.media.timeouts s
  exact .of_stands (except := []) rfl (sectorRead_begins media active awake uncovered written) (.of_keeps begun) (calm.remedia _)
    fun t stands out => ⟨stands.regs, stands.mem, stands.media, sends.after out⟩

end Asked

theorem State.rd_setMedia (s : State) (m : Media) (f : Fld) (i : Nat) : State.rd { s with media := m } f i = s.rd f i := rfl

theorem readDone_rd (r : SectorRead) (s : State) (f : Fld) (i : Nat) : (readDone r s).rd f i = s.rd f i := rfl

section Runs
variable {s : State} {r : SectorRead} (found : s.media.reads.find? (fun x => x.parcel == r.parcel) = some r)
include found

/-- Data with few bits corrected at step 1 answers the read. -/
theorem dataArrival_answers {n : Nat} (first : r.step = 1) (few : n ≤ s.rd MED_HLTH_CBITS) (queues : s.rd MED_HLTH_ERSTEP ≠ 0) :
    dataArrival r.parcel (some n) s =
      (s.reread (readsWith r.parcel none s.media.reads) (s.media.timeouts.del (dieId (parcelStack r.parcel) r.die))).emit
        (.xfer 5 [r.parcel]) := by
  have waits : ¬ s.rd MED_HLTH_ERSTEP + 1 ≤ 1 := by omega
  have quiet : ¬ s.rd MED_HLTH_CBITS < n := by omega
  simp only [dataArrival, found, first, OfNat.one_ne_ofNat, if_false, lt_self_iff_false, readDone_rd, State.rd_setMedia, waits, quiet]
  rfl

theorem dataArrival_moves (low : r.step < 8) : dataArrival r.parcel none s =
    moveOn r (s.media.timeouts.del (dieId (parcelStack r.parcel) r.die)) s := by
  have ladder : r.step ≠ 8 := by omega
  simp only [dataArrival, found, ladder, if_false]
  rfl

theorem hubTimeout_moves (low : r.step < 8) (few : s.media.timeouts.get (dieId (parcelStack r.parcel) r.die) 0 < 15) :
    hubTimeout r.parcel s = dieError (parcelStack r.parcel) r.die (moveOn r (s.media.timeouts.put (dieId (parcelStack r.parcel) r.die)
      (s.media.timeouts.get (dieId (parcelStack r.parcel) r.die) 0 + 1)) s) := by
  have ladder : r.step ≠ 8 := by omega
  have more : ¬ 16 ≤ s.media.timeouts.get (dieId (parcelStack r.parcel) r.die) 0 + 1 := by omega
  simp only [hubTimeout, found, ladder, if_false, more]
  rfl

end Runs

/-! The leaky bucket of a die (R248, R427). -/

/-- A counted error overflows no bucket of a fenced unit, nor one whose level may still rise. -/
theorem bucketAdd_quiet (b : Nat) (s : State) : (bucketAdd b s).1 = false ↔
    s.rdB FLT_U_FENCED (unitIdx (bucketOf s b).2.1 (bucketOf s b).2.2.1) = true ∨
      s.rd FLT_BKT_LVL_LEVEL b + 1 ≤ s.rd FLT_BKT_CFG_DEPTH (bucketOf s b).1 := by
  unfold bucketAdd
  dsimp only
  split
  · simp [*]
  · split <;> simp [*]

theorem RK.bucketAdd_quiet {s t : State} (h : RegsKept [] s t) {b : Nat} (quiet : (bucketAdd b s).1 = false) : (bucketAdd b t).1 = false := by
  have reads : ∀ f i, closingFlds.contains f.id = false → t.rd f i = s.rd f i := fun f i closing => h f i closing rfl
  have same : bucketOf t b = bucketOf s b := by
    unfold bucketOf State.logicalOf
    rw [reads _ _ (by decide)]
  rw [Machine.bucketAdd_quiet] at quiet ⊢
  rw [same]
  unfold State.rdB at *
  simpa (disch := decide) only [reads] using quiet

/-- A counted error that overflows no bucket raises its level at most. -/
theorem HealthStands.dieError {k d : Nat} {s : State} (quiet : (bucketAdd (64 + dieId k d) s).1 = false) :
    HealthStands [FLT_BKT_LVL_LEVEL] s (dieError k d s) := by
  have rises : HealthStands [FLT_BKT_LVL_LEVEL] s (bucketAdd (64 + dieId k d) s).2 := by
    revert quiet
    unfold bucketAdd
    dsimp only
    split
    · exact fun _ => .refl s
    · split
      · exact fun _ => .wr (by decide) (by decide) _ _ s
      · exact fun overflows => by simp at overflows
  unfold Sys2Proof.Machine.dieError
  dsimp only
  rw [quiet]
  exact .ite (.refl s) rises

/-! Early refresh and reconstruction (R246, R249). -/

/-- Early refresh queues a segment while its queue has room, or counts one that is dropped. -/
theorem earlyRefresh_queues (k g : Nat) (s : State) : ∃ e : Map (List Nat),
    HealthStands [MED_HSTK2_ERDROP] (s.remedia { s.media with erq := e }) (earlyRefresh k g s) ∧
    ((s.media.erq.get k []).length < 256 → g ∈ e.get k []) := by
  unfold earlyRefresh
  dsimp only
  split
  · next queued => exact ⟨s.media.erq, .refl s, fun _ => by simpa using queued⟩
  · split
    · exact ⟨_, .refl _, fun _ => by simp [Map.get_put]⟩
    · next full => exact ⟨s.media.erq, .bump (by decide) (by decide) 1 k s, fun room => absurd room full⟩

section Ladder
variable {s : State} {r : SectorRead} (found : s.media.reads.find? (fun x => x.parcel == r.parcel) = some r) (calm : s.Calm)
include found calm

theorem sectorData_answers {n : Nat} (first : r.step = 1) (few : n ≤ s.rd MED_HLTH_CBITS) (queues : s.rd MED_HLTH_ERSTEP ≠ 0) :
    Ends (.sectorDataArrival r.parcel (some n)) s ((s.reread (readsWith r.parcel none s.media.reads)
      (s.media.timeouts.del (dieId (parcelStack r.parcel) r.die))).emit (.xfer 5 [r.parcel])) :=
  .of_eq rfl (dataArrival_answers found first few queues) ((calm.remedia _).emit _)

theorem sectorData_moves (low : r.step < 8) : Does (.sectorDataArrival r.parcel none) s (fun t =>
    t.media = (s.stepped r (s.media.timeouts.del (dieId (parcelStack r.parcel) r.die))).media ∧
    Sends s t (stepOut s r.next) ∧ RegsKept [] s t ∧ t.mem = { s.mem with rootMark := t.mem.rootMark }) :=
  .of_stands (except := []) rfl (dataArrival_moves found low) (.of_keeps (moveOn_keeps r _ s)) (calm.remedia _) fun _ stands out =>
    ⟨stands.media, (moveOn_sends r _ s).after out, stands.regs, stands.mem⟩

theorem hubReadTimeout_moves (low : r.step < 8) (quiet : (bucketAdd (64 + dieId (parcelStack r.parcel) r.die) s).1 = false)
    (few : s.media.timeouts.get (dieId (parcelStack r.parcel) r.die) 0 < 15) : Does (.hubReadTimeout r.parcel) s (fun t =>
    t.media = (s.stepped r (s.media.timeouts.put (dieId (parcelStack r.parcel) r.die)
      (s.media.timeouts.get (dieId (parcelStack r.parcel) r.die) 0 + 1))).media ∧
    Sends s t (stepOut s r.next) ∧ t.mem = { s.mem with rootMark := t.mem.rootMark }) := by
  have counted := fun timeouts => HealthStands.dieError (RK.bucketAdd_quiet (moveOn_regs r timeouts s) quiet)
  exact .of_stands rfl (hubTimeout_moves found low few) ((HealthStands.of_keeps (moveOn_keeps r _ s)).trans (counted _)) (calm.remedia _)
    fun _ stands out => ⟨stands.media, ((moveOn_sends r _ s).after (counted _).stands.out).after out, stands.mem⟩

/-- A reconstruction of a failed die's sector answers the read, is counted by the stack, and queues the segment (R246, R248, R249). -/
theorem sectorData_reconstructs (last : r.step = 8) (failed : s.dieFailed (parcelStack r.parcel) r.die = true) (n : Nat) :
    Does (.sectorDataArrival r.parcel (some n)) s (fun t =>
      t.media.reads = readsWith r.parcel none s.media.reads ∧ Sends s t (.xfer 5 [r.parcel]) ∧
      t.rd MED_HSTK2_RECON (parcelStack r.parcel) = min (s.rd MED_HSTK2_RECON (parcelStack r.parcel) + 1) (2 ^ MED_HSTK2_RECON.w - 1) ∧
      ((s.media.erq.get (parcelStack r.parcel) []).length < 256 →
        parcelSeg r.parcel ∈ t.media.erq.get (parcelStack r.parcel) []) ∧ t.mem = { s.mem with rootMark := t.mem.rootMark }) := by
  obtain ⟨e, queued, room⟩ := earlyRefresh_queues (parcelStack r.parcel) (parcelSeg r.parcel)
    (readDone r (s.bump MED_HSTK2_RECON 1 (parcelStack r.parcel)))
  have still : (earlyRefresh (parcelStack r.parcel) (parcelSeg r.parcel)
      (readDone r (s.bump MED_HSTK2_RECON 1 (parcelStack r.parcel)))).dieFailed (parcelStack r.parcel) r.die = true := by
    unfold State.dieFailed
    rw [queued.media]
    exact failed
  have work : dataArrival r.parcel (some n) s = earlyRefresh (parcelStack r.parcel) (parcelSeg r.parcel)
      (readDone r (s.bump MED_HSTK2_RECON 1 (parcelStack r.parcel))) := by
    simp only [dataArrival, found, last, if_true, reconstructed, still]
  have counted := calm.bump MED_HSTK2_RECON 1 (parcelStack r.parcel) (by decide) (by decide)
  refine .of_stands rfl work queued (((counted.remedia _).emit _).remedia _) fun t stands out => ⟨?_, ?_, ?_, fun few => ?_, ?_⟩
  · rw [stands.media]
    rfl
  · exact (Sends.emit (setRead r.parcel none (s.bump MED_HSTK2_RECON 1 (parcelStack r.parcel))) _).after stands.stands.out
  · exact (stands.rd _ (by decide) (by decide)).trans (s.rd_bump_same MED_HSTK2_RECON 1 (parcelStack r.parcel))
  · rw [stands.media]
    exact room few
  · exact stands.mem

end Ladder

/-! A sector that is lost (R247). -/

/-- Some page names a parcel of its run. -/
def State.names (s : State) (p : Nat) : Bool :=
  s.mem.pages.any (fun x => x.2.run != 0 && decide (x.2.parcel ≤ p) && decide (p < x.2.parcel + x.2.run))

/-- A lost sector counted, reported and recorded (R247). -/
def lossTold (p : Nat) (s : State) : State :=
  noteRec (640 + 8 * parcelStack p) p (parcelDie p) (raise (640 + 8 * parcelStack p) (s.bump MED_HSTK2_POISON 1 (parcelStack p)))

theorem lossTold_keeps (p : Nat) (s : State) : Keeps (s.bump MED_HSTK2_POISON 1 (parcelStack p)) (lossTold p s) :=
  (Keeps.raise _ _).trans (.noteRec _ _ _ _)

/-- The state with other blocks lost. -/
def State.relose (s : State) (l : List Nat) : State := { s with mem := { s.mem with lost := l } }

/-- The blocks of a parcel (R219). -/
def parcelBlocks (p : Nat) : List Nat := (List.range 8).map (8 * p + ·)

/-- The lost blocks with those of a parcel. -/
def State.lostWith (s : State) (p : Nat) : List Nat := parcelBlocks p ++ s.mem.lost.filter (fun b => !((parcelBlocks p).contains b))

theorem State.mem_lostWith (s : State) (p : Nat) {i : Nat} (small : i < 8) : 8 * p + i ∈ s.lostWith p :=
  List.mem_append_left _ (List.mem_map.2 ⟨i, List.mem_range.2 small, rfl⟩)

/-- The lines of the sheets that lie in a lost parcel recorded as poisoned (R247, R430). -/
def lossListed (p : Nat) (s : State) : State :=
  forAll ((parcelBlocks p).flatMap s.sheetsAt).dedup (fun sheet s => recordSheet sheet 2 s) s

theorem lossListed_stands (p : Nat) (s : State) : HealthStands noteFlds s (lossListed p s) :=
  .forAll (fun sheet u => .recordSheet sheet 2 u) _ s

/-- What the loss of a parcel comes to for the pages: its blocks are lost, its lines recorded, and its stack has a Contained fault (R247). -/
def lossSpread (p : Nat) (s : State) : State :=
  if s.names p then fault 4 (parcelStack p) 1 (640 + 8 * parcelStack p) p 0 (lossListed p (s.relose (s.lostWith p))) else s

theorem sectorLost_eq (p : Nat) (s : State) : sectorLost p s = lossSpread p (lossTold p s) := by
  unfold sectorLost
  extract_lets k blocks raised noted mem lost recorded
  have told : noted = lossTold p s := rfl
  clear_value noted
  subst told
  rfl

theorem lossSpread_stands {p : Nat} {s : State} (acknowledged : s.rdB FLT_U_CONT (unitIdx 4 (parcelStack p)) = false) :
    ∃ l : List Nat, HealthStands (noteFlds ++ faultFlds) (s.relose l) (lossSpread p s) ∧ (s.names p = true → ∀ i < 8, 8 * p + i ∈ l) := by
  unfold lossSpread
  by_cases owned : s.names p = true
  · have listed := lossListed_stands p (s.relose (s.lostWith p))
    have ready : (lossListed p (s.relose (s.lostWith p))).rdB FLT_U_CONT (unitIdx 4 (parcelStack p)) = false := by
      have kept := listed.rd (f := FLT_U_CONT) (unitIdx 4 (parcelStack p)) (by decide) (by decide)
      unfold State.rdB at *
      rw [kept, ← acknowledged]
      rfl
    have reported := HealthStands.faultContained ready (640 + 8 * parcelStack p) p 0
    rw [if_pos owned]
    exact ⟨_, (listed.widen (List.subset_append_left _ _)).trans (reported.widen (List.subset_append_right _ _)),
      fun _ i small => s.mem_lostWith p small⟩
  · rw [if_neg owned]
    exact ⟨s.mem.lost, .refl s, fun named => absurd named owned⟩

theorem media_event_raised {k n : Nat} (small : k < 16) (kind : n < 8) : sourceReserved (640 + 8 * k + n) = false := by
  have all : ∀ k < 16, ∀ n < 8, sourceReserved (640 + 8 * k + n) = false := by decide
  exact all k small n kind

theorem lossTold_pend {p : Nat} (small : parcelStack p < 16) (s : State) :
    (lossTold p s).rdBit EVT_PEND_PEND ((640 + 8 * parcelStack p) % 64) ((640 + 8 * parcelStack p) / 64) = true :=
  (Keeps.noteRec _ _ _ _).pend _ (raise_pend _ _ (media_event_raised (n := 0) small (by decide)))

theorem State.names_congr {s t : State} (pages : t.mem.pages = s.mem.pages) (p : Nat) : t.names p = s.names p := by
  unfold State.names
  rw [pages]

/-- A reconstruction that fails loses the sector (R247). -/
theorem sectorData_loses {s : State} {r : SectorRead} (found : s.media.reads.find? (fun x => x.parcel == r.parcel) = some r) (calm : s.Calm)
    (last : r.step = 8) (acknowledged : s.rdB FLT_U_CONT (unitIdx 4 (parcelStack r.parcel)) = false) (small : parcelStack r.parcel < 16) :
    Does (.sectorDataArrival r.parcel none) s (fun t => let k := parcelStack r.parcel
      t.media.reads = readsWith r.parcel none s.media.reads ∧
      t.rd MED_HSTK2_POISON k = min (s.rd MED_HSTK2_POISON k + 1) (2 ^ MED_HSTK2_POISON.w - 1) ∧
      t.rdBit EVT_PEND_PEND ((640 + 8 * k) % 64) ((640 + 8 * k) / 64) = true ∧ t.mem.store = s.mem.store ∧
      (s.names r.parcel = true → ∀ i < 8, 8 * r.parcel + i ∈ t.mem.lost)) := by
  have work : dataArrival r.parcel none s = lossSpread r.parcel (lossTold r.parcel (setRead r.parcel none s)) := by
    simp only [dataArrival, found, last, if_true, sectorLost_eq]
  have told := lossTold_keeps r.parcel (setRead r.parcel none s)
  have pended := lossTold_pend small (setRead r.parcel none s)
  generalize lossTold r.parcel (setRead r.parcel none s) = x at work told pended
  have ready : x.rdB FLT_U_CONT (unitIdx 4 (parcelStack r.parcel)) = false := by
    unfold State.rdB at *
    rw [told.regs _ _ (by decide), State.rd_bump_ne _ _ _ _ _ _ (by decide)]
    exact acknowledged
  have poison := (told.regs MED_HSTK2_POISON (parcelStack r.parcel) (by decide)).trans (State.rd_bump_same _ MED_HSTK2_POISON 1 _)
  have calm_told := told.calm (State.Calm.bump (calm.remedia _) _ _ _ (by decide) (by decide))
  have pages : x.mem.pages = s.mem.pages := by
    rw [told.mem]
    rfl
  have store : x.mem.store = s.mem.store := by
    rw [told.mem]
    rfl
  obtain ⟨l, stands, marked⟩ := lossSpread_stands ready
  have calm_lost : (x.relose l).Calm := ⟨calm_told.drain, calm_told.flush, calm_told.plan, calm_told.audit⟩
  refine .of_stands rfl work stands calm_lost fun t ends _ => ⟨?_, ?_, ends.pend _ pended, ?_, fun named i below => ?_⟩
  · exact (congrArg Media.reads ends.media).trans (congrArg Media.reads told.media)
  · exact (ends.rd _ (by decide) (by decide)).trans poison
  · exact ends.stands.accounts.store.trans store
  · rw [ends.mem]
    exact marked ((State.names_congr pages _).trans named) i below

end Sys2Proof.Machine
end

section
/-! PROOFS. Media health (chapter 10): a die that fails, accepted with its rebuild or fencing its stack (R250, R251, R253). -/
namespace Sys2Proof.Machine

/-- A die of an active stack that has not failed yet may fail. -/
theorem failDie_asked {s : State} {k d : Nat} (active : s.stackActive k = true) (works : s.dieFailed k d = false) (here : d < 33) :
    (s.dieFailed k d || !(s.stackActive k) || decide (33 ≤ d)) = false := by
  simp [active, works, here]

/-- The registers of a stack whose die has failed and is being rebuilt (R253). -/
def rebuildShown (k d failed donors victims : Nat) (s : State) : State :=
  (((((s.wr MED_DIE_STATE 1 (dieId k d)).wr MED_HSTK_FAILED failed k).wr MED_HSTK_DONOR donors k).wr MED_HSTK_REBUILD 1 k).wr
    MED_HSTK_RBDIE d k).wr MED_HSTK_RBLEFT victims k

/-- Closing the segments that streams fill changes the stripes alone. -/
theorem closeStreams_stripes (k : Nat) (l : List Nat) (s : State) :
    ∃ stripes, forAll l (fun stream s => closeStream k stream s) s = setStripes stripes s := by
  have one : ∀ stream u, ∃ stripes, closeStream k stream u = setStripes stripes u := fun stream u => by
    unfold closeStream
    split
    · exact ⟨_, rfl⟩
    · exact ⟨u.media.stripes, rfl⟩
  refine List.foldlRecOn l _ (motive := fun t => ∃ stripes, t = setStripes stripes s) ⟨s.media.stripes, rfl⟩ ?_
  rintro t ⟨before, rfl⟩ stream -
  exact one stream (setStripes before s)

/-- A die failure that is accepted is recorded, shown, and reported. -/
theorem failDie_accepts {s : State} {k d : Nat} (active : s.stackActive k = true) (works : s.dieFailed k d = false) (here : d < 33)
    (idle : s.rdB MED_HSTK_REBUILD k = false) (few : (s.failedDies k).length + 1 ≤ 4)
    (enough : s.donorNeed k ((s.failedDies k).length + 1) ≤ (s.donorsOf k).length + s.spareCount k) :
    ∃ (u : State) (m : Media) (donors victims : Nat), Keeps s u ∧ m.failed = s.media.failed ++ [(k, d)] ∧
      failDie k d s = raise (640 + 8 * k + 2) ((rebuildShown k d ((s.failedDies k).length + 1) donors victims u).remedia m) := by
  unfold failDie
  rw [failDie_asked active works here, if_neg Bool.false_ne_true]
  have accepted : ¬ (s.rdB MED_HSTK_REBUILD k || decide (4 < (s.failedDies k).length + 1) ||
      decide ((s.donorsOf k).length + s.spareCount k < s.donorNeed k ((s.failedDies k).length + 1))) = true := by
    simp only [idle, Bool.false_or, Bool.or_eq_true, decide_eq_true_eq, not_or, not_lt]
    exact ⟨few, enough⟩
  extract_lets f need have_ u more media failed shown rebuilding victims media' listed left
  rw [if_neg accepted]
  have kept : Keeps s u := (mapRecord_keeps _ _ _).trans (mapRecord_keeps _ _ _)
  obtain ⟨stripes, closed⟩ := closeStreams_stripes k [0, 1, 2] left
  rw [closed]
  have same : u.media.failed = s.media.failed := congrArg Media.failed kept.media
  clear_value u
  exact ⟨u, (setStripes stripes left).media, (failed.donorsOf k).length, victims.length, kept,
    congrArg (· ++ [(k, d)]) same, rfl⟩

/-- A Fatal fault of a stack with no work and nothing staged fences it (R39, R416). -/
theorem stackFault_fences {s : State} {k : Nat} (unfenced : s.stackFenced k = false) (no_work : s.work = []) (no_slot : s.media.slots = [])
    (acknowledged : s.rdB FLT_U_FATAL (unitIdx 4 k) = false) (calm : s.Calm) (src d1 d2 : Nat) :
    ∃ x : State, HealthStands scaleFlds x (fault 4 k 2 src d1 d2 s) ∧ x.Calm ∧ x.rd MED_STK_FENCED k = 1 ∧
      x.rd FLT_U_FATAL (unitIdx 4 k) = 1 ∧ x.rdBit EVT_PEND_PEND (26 % 64) (26 / 64) = true ∧ x.media.failed = s.media.failed := by
  obtain ⟨r, fatal⟩ := fault_fatal acknowledged src d1 d2
  have told := HealthStands.faultTold (except := [FLT_U_ESC, FLT_CNT_FATAL, FLT_U_NFATAL]) (all := FLT_CNT_FATAL) (own := FLT_U_NFATAL)
    (by decide) 4 k 2 src r s
  have reported : (faultTold 4 k 2 src FLT_CNT_FATAL FLT_U_NFATAL r s).rdBit EVT_PEND_PEND (26 % 64) (26 / 64) = true :=
    raise_pend 26 _ (by decide)
  generalize faultTold 4 k 2 src FLT_CNT_FATAL FLT_U_NFATAL r s = w at fatal told reported
  have marked := (HealthStands.wr (except := [FLT_U_FATAL, FLT_U_FENCED]) (f := FLT_U_FATAL) (by decide) (by decide) 1 (unitIdx 4 k) w).trans
    (.wr (f := FLT_U_FENCED) (by decide) (by decide) 1 (unitIdx 4 k) _)
  have flag : ((w.wr FLT_U_FATAL 1 (unitIdx 4 k)).wr FLT_U_FENCED 1 (unitIdx 4 k)).rd FLT_U_FATAL (unitIdx 4 k) = 1 := by
    simp (disch := decide) only [State.rd_wr_ne, State.rd_wr_same]
    decide
  generalize (w.wr FLT_U_FATAL 1 (unitIdx 4 k)).wr FLT_U_FENCED 1 (unitIdx 4 k) = v at fatal marked flag
  have still_unfenced : v.stackFenced k = false := by
    unfold State.stackFenced State.rdB at *
    rw [marked.rd _ (by decide) (by decide), told.rd _ (by decide) (by decide), unfenced]
  have no_slot_left : v.media.slots = [] := by rw [marked.media, told.media, no_slot]
  obtain ⟨m, failed, fenced⟩ := stackFence_idle still_unfenced (marked.work.trans (told.work.trans no_work)) no_slot_left
  have shown : HealthStands [MED_STK_FENCED, FLM_LNK_FENCED] v (fenceShown k v) :=
    (HealthStands.wr (by decide) (by decide) 1 k v).trans (.wr (by decide) (by decide) 1 k _)
  refine ⟨(fenceShown k v).remedia m, fatal ▸ fenced, (shown.calm (marked.calm (told.calm calm))).remedia m, ?_, ?_, ?_, ?_⟩
  · exact (State.rd_wr_ne _ _ _ _ _ _ (by decide)).trans (State.rd_wr_same v MED_STK_FENCED 1 k)
  · exact (shown.rd _ (by decide) (by decide)).trans flag
  · exact shown.pend 26 (marked.pend 26 reported)
  · rw [← told.media, ← marked.media]
    exact failed

theorem rebuildShown_rd {k d failed : Nat} (here : d < 33) (few : failed ≤ 4) (donors victims : Nat) (s : State) :
    (rebuildShown k d failed donors victims s).rd MED_DIE_STATE (dieId k d) = 1 ∧
    (rebuildShown k d failed donors victims s).rd MED_HSTK_FAILED k = failed ∧
    (rebuildShown k d failed donors victims s).rd MED_HSTK_REBUILD k = 1 ∧
    (rebuildShown k d failed donors victims s).rd MED_HSTK_RBDIE k = d := by
  unfold rebuildShown
  simp (disch := decide) only [State.rd_wr_ne, State.rd_wr_same]
  exact ⟨rfl, Nat.mod_eq_of_lt (by show failed < 8; omega), rfl, Nat.mod_eq_of_lt (by show d < 64; omega)⟩

theorem rebuildShown_calm {s : State} (calm : s.Calm) (k d failed donors victims : Nat) : (rebuildShown k d failed donors victims s).Calm := by
  unfold rebuildShown
  iterate 6 refine State.Calm.wr ?_ _ _ _ (by decide) (by decide)
  exact calm

section Reported
variable {s : State} {k d : Nat} (calm : s.Calm) (small : k < 16) (here : d < 33) (awake : s.modeCode ≠ 6) (active : s.stackActive k = true)
  (works : s.dieFailed k d = false)
include calm here awake active works

include small in
theorem dieFault_rebuilds (idle : s.rdB MED_HSTK_REBUILD k = false) (few : (s.failedDies k).length + 1 ≤ 4)
    (enough : s.donorNeed k ((s.failedDies k).length + 1) ≤ (s.donorsOf k).length + s.spareCount k) :
    Does (.hubDieFaultReport k d) s (fun t => t.dieFailed k d = true ∧ t.rd MED_DIE_STATE (dieId k d) = 1 ∧
      t.rd MED_HSTK_FAILED k = (s.failedDies k).length + 1 ∧ t.rd MED_HSTK_REBUILD k = 1 ∧ t.rd MED_HSTK_RBDIE k = d ∧
      t.rdBit EVT_PEND_PEND ((640 + 8 * k + 2) % 64) ((640 + 8 * k + 2) / 64) = true ∧ t.mem.store = s.mem.store) := by
  obtain ⟨u, m, donors, victims, kept, failed, accepted⟩ := failDie_accepts active works here idle few enough
  have calm_shown := (rebuildShown_calm (kept.calm calm) k d ((s.failedDies k).length + 1) donors victims).remedia m
  have raised := Keeps.raise (640 + 8 * k + 2) ((rebuildShown k d ((s.failedDies k).length + 1) donors victims u).remedia m)
  obtain ⟨die, count, rebuild, which⟩ := rebuildShown_rd (k := k) here few donors victims u
  refine .of_run rfl ((if_neg (by simp [awake])).trans accepted) (raised.calm calm_shown) fun t after => ?_
  have ends := raised.trans after
  have pended := after.pend _ (raise_pend (640 + 8 * k + 2) _ (media_event_raised small (by decide)))
  refine ⟨?_, (ends.regs _ _ (by decide)).trans die, (ends.regs _ _ (by decide)).trans count, (ends.regs _ _ (by decide)).trans rebuild,
    (ends.regs _ _ (by decide)).trans which, pended, ?_⟩
  · unfold State.dieFailed
    have listed : t.media.failed = s.media.failed ++ [(k, d)] := (congrArg Media.failed ends.media).trans failed
    simp [listed]
  · have stored : u.mem.store = s.mem.store := by rw [kept.mem]
    rw [ends.mem]
    exact stored

theorem dieFault_fences (refused : ¬ (s.rdB MED_HSTK_REBUILD k = false ∧ (s.failedDies k).length + 1 ≤ 4 ∧
      s.donorNeed k ((s.failedDies k).length + 1) ≤ (s.donorsOf k).length + s.spareCount k))
    (acknowledged : s.rdB FLT_U_FATAL (unitIdx 4 k) = false) (no_work : s.work = []) (no_slot : s.media.slots = []) :
    Does (.hubDieFaultReport k d) s (fun t => t.rd MED_STK_FENCED k = 1 ∧ t.rd FLT_U_FATAL (unitIdx 4 k) = 1 ∧
      t.rdBit EVT_PEND_PEND (26 % 64) (26 / 64) = true ∧ t.dieFailed k d = false) := by
  have rejected : failDie k d s = fault 4 k 2 (640 + 8 * k + 2) d ((s.failedDies k).length + 1) s := by
    unfold failDie
    rw [failDie_asked active works here, if_neg Bool.false_ne_true]
    refine if_pos ?_
    simp only [Bool.or_eq_true, decide_eq_true_eq]
    simp only [not_and_or, Bool.not_eq_false, not_le] at refused
    exact or_assoc.2 refused
  have unfenced : s.stackFenced k = false := by
    simp only [State.stackActive, Bool.and_eq_true, Bool.not_eq_true'] at active
    exact active.2
  obtain ⟨x, stands, calm_fenced, fenced, flag, pended, failed⟩ :=
    stackFault_fences unfenced no_work no_slot acknowledged calm (640 + 8 * k + 2) d ((s.failedDies k).length + 1)
  refine .of_stands rfl ((if_neg (by simp [awake])).trans rejected) stands calm_fenced fun t ends _ => ?_
  refine ⟨(ends.rd _ (by decide) (by decide)).trans fenced, (ends.rd _ (by decide) (by decide)).trans flag, ends.pend 26 pended, ?_⟩
  unfold State.dieFailed at *
  rw [ends.media, failed, works]

end Reported

/-- Settles O38: a read follows its ladder through the commands of its steps, and a failed die is accepted or fences its stack; each command's
work is one of the operations above, and its closing work leaves what they show. -/
theorem sectorReadsAndDies : Obligations.SectorReadsAndDies := by
  intro s p calm k d word
  refine ⟨fun media active awake others => ?asked, fun r found same => ?ladder,
    fun q die small here awake active works => ⟨?rebuilds, ?fences⟩⟩
  case asked =>
    have uncovered : s.media.reads.any (fun r => r.parcel == p) = false := List.any_eq_false.2 fun r mem => by simpa using others r mem
    refine ⟨fun staged => .of_eq rfl (sectorRead_served media active awake uncovered staged) (calm.emit _), fun written => ?_⟩
    refine (mediaSectorRead_begins media active awake uncovered calm written).mono fun t ⟨regs, mem, read, sent⟩ =>
      ⟨regs, mem, fun works => ?_, fun failed => ?_⟩
    · rw [firstRead_working works] at read sent
      exact ⟨read, sent⟩
    · rw [firstRead_failed failed] at read sent
      exact ⟨read, sent⟩
  case ladder =>
    subst same
    refine ⟨fun n => sectorData_answers found calm, fun low => ?moves, fun low quiet few => ?expires,
      fun last failed n => sectorData_reconstructs found calm last failed n, fun last acknowledged small => ?loses⟩
    case moves =>
      refine (sectorData_moves found calm low).mono fun t ⟨media, sent, regs, mem⟩ => ⟨media, ?_, regs, mem⟩
      exact stepOut_next s r ▸ sent
    case expires =>
      refine (hubReadTimeout_moves found calm low quiet few).mono fun t ⟨media, sent, mem⟩ =>
        ⟨congrArg Media.reads media, congrArg Media.timeouts media, ?_, mem⟩
      exact stepOut_next s r ▸ sent
    case loses =>
      refine (sectorData_loses found calm last acknowledged small).mono fun t ⟨gone, counted, pended, store, lost⟩ =>
        ⟨gone, counted, pended, store, fun ⟨x, mem, run, begins, ends⟩ => lost (List.any_eq_true.2 ⟨x, mem, ?_⟩)⟩
      simp [run, begins, ends]
  case rebuilds => exact fun ⟨idle, few, enough⟩ => dieFault_rebuilds calm small here awake active works idle few enough
  case fences => exact dieFault_fences calm here awake active works

end Sys2Proof.Machine
end
